-- ==== Sys2Proof/Word.lean ====
section
/-! DEFINITION. The word types of the VXL-7140 model and their plainest arithmetic. -/

namespace Sys2Proof

/-- One byte (R13: bit 0 is the least significant bit). -/
abbrev Byte := BitVec 8

/-- A 64-bit register or scalar value (R15, R166). -/
abbrev Word := BitVec 64

/-- A 16-bit error code (R20). -/
abbrev Code := BitVec 16

/-- A v register: 4,096 bits (R166). -/
abbrev VReg := BitVec 4096

/-- A p register: 512 bits, bit i governing byte lane i (R166). -/
abbrev PReg := BitVec 512

/-- A 64-byte queue entry, byte i in bits 8i+7:8i (R13, R567). -/
abbrev Entry := BitVec 512

/-- A sparse table: pairs of a key and a value, the keys strictly rising and no value equal to the
table's default (the operations are in `Machine/SMap.lean`). -/
abbrev SMap (α : Type) := List (Nat × α)

end Sys2Proof
end

