-- ==== Sys2Proof/Operand.lean ====
section
/-! DEFINITION. The types of the operands of the commands. The table gives its rows no bits and no operands; the operands are what the rule of
the row says the step is about (log entry 1). -/

namespace Sys2Proof

/-! ### Operand types -/

/-- A hardware thread: core c = 8 × die + index (R105), thread 0–15 (R151). -/
structure Tid where
  core : Nat
  thr : Nat
deriving DecidableEq, Repr

/-- The fields of an instruction word beside its opcode (R276): D, A, B, C, FN and the upper word. -/
structure Insn where
  d : BitVec 5
  a : BitVec 5
  b : BitVec 5
  c : BitVec 5
  fn : BitVec 4
  upper : BitVec 32
deriving DecidableEq, Repr

/-- A boot firmware object (R70): whether its signature verifies, its SHA-256 digest and its version (R78). -/
structure FwObj where
  verifies : Bool
  digest : BitVec 256
  version : BitVec 32
deriving DecidableEq, Repr

/-- Lanes of one bundle (R23, R24): link ID, direction, bundle index, one bit per physical lane. -/
structure LaneSet where
  link : Nat
  dir : Nat
  bundle : Nat
  lanes : BitVec 68
deriving DecidableEq, Repr

/-- What the lane test of a bundle (R27, R28, R43) finds, one bit per physical lane: lanes that carry the continuity pattern
wrong, lanes with a bit error in the PRBS31 pattern of step 2, and lanes with a bit error at each of the four offsets of the
margin check: +0.15 UI, −0.15 UI, +10 %, −10 %. -/
structure LaneTest where
  link : Nat
  dir : Nat
  bundle : Nat
  cont : BitVec 68
  prbs : BitVec 68
  early : BitVec 68
  late : BitVec 68
  high : BitVec 68
  low : BitVec 68
deriving DecidableEq, Repr

/-- A wavelength of a fibre (R363, R401): engine, fibre pair, direction (0 transmit, 1 receive), wavelength. -/
structure LambdaRef where
  eng : Nat
  fib : Nat
  dir : Nat
  lam : Nat
deriving DecidableEq, Repr

/-- A unit whose temperature is sensed (R635). -/
inductive TUnit where
  | hub | cd (n : Nat) | stack (k : Nat) | eng (e : Nat)
deriving DecidableEq, Repr

/-- The board record (R72): the tags it has an entry for, and what the entries say. -/
structure BoardRecord where
  tags : List (BitVec 8)
  serial : BitVec 64
  seq : BitVec 32
  /-- tag 0x03, enabled cores -/
  cores : BitVec 32
  /-- tag 0x03, fitted stacks -/
  stackMap : BitVec 32
  /-- tag 0x04 -/
  lanes : List LaneSet
  /-- tag 0x05: (array, physical row) -/
  spareRows : List (Nat × Nat)
  /-- tag 0x06: (stack, logical channel, physical channel) -/
  stackRepairs : List (Nat × Nat × Nat)
  /-- tag 0x06: channels excluded, (stack, logical channel) -/
  chanExcl : List (Nat × Nat)
  /-- tag 0x07 -/
  lambdas : List LambdaRef
  /-- tag 0x08: trim in mV of VCORE_CD0–CD3, and of the internal oscillator in ppm -/
  trim : List Int
  oscTrim : Int
  /-- tag 0x09 (R654): 17 points of the oscillator's correction in ppm, and of each sensor's in 0.1 °C: (unit, sensor, points) -/
  oscTable : List Int
  sensorTables : List (TUnit × Nat × List Int)
  /-- tag 0x0A -/
  pufHelper : List Byte
  /-- tag 0x0B -/
  keyCheck : BitVec 128
  /-- tag 0x0C -/
  wrappedKey : List Byte
  /-- tag 0x0D -/
  cert : List Byte
  /-- tag 0x0E: the bytes of the version floors entry -/
  floors : List Byte
  /-- tag 0x0F: image source is the host -/
  fromHost : Bool
  /-- digest of the whole copy, measured under R79 -/
  digest : BitVec 256
deriving DecidableEq, Repr

/-- One copy of the board record as the hub finds it: its signature verdict (R73), the key that the PUF yields with the copy's
helper data (R74), whether the key unwrap passes (R77). -/
structure RecCopy where
  verifies : Bool
  pufKey : BitVec 256
  unwraps : Bool
  record : BoardRecord
deriving DecidableEq, Repr

/-- STRUCTURE entry (R105). -/
structure PartEntry where
  part : Nat
  port : Nat
  cores : BitVec 32
  reloadKey : BitVec 256
deriving DecidableEq, Repr

/-- MEMORY interleave set (R106): near-only on `die` or spread. -/
structure ISet where
  spread : Bool
  die : Nat
  base : Nat
  size : Nat
  owner : Nat
deriving DecidableEq, Repr

/-- FABRIC expected neighbour of a port (R381); serial zero for any. -/
structure PortPlan where
  unused : Bool
  dev : Nat
  port : Nat
  serial : BitVec 64
deriving DecidableEq, Repr

/-- FABRIC trunk entry of a domain (R430): pairs of waystation and trunk port, or the next domain. -/
structure TrunkEntry where
  pairs : List (Nat × Nat)
  via : Option Nat
deriving DecidableEq, Repr

/-- AXA region (R112, R116). -/
structure AxaRegion where
  base : Nat
  size : Nat
  anchor : Int
deriving DecidableEq, Repr

/-- PARTITION section (R112). -/
structure PartSection where
  part : Nat
  version : BitVec 16
  /-- array use: (core, bit per array) -/
  arrayUse : List (Nat × BitVec 2)
  /-- segment gating 1: keep all segments clocked -/
  gating : Bool
  /-- reserved threads: (core, n) -/
  reserved : List (Nat × Nat)
  /-- queue descriptors of R114: (queue, descriptor) -/
  queues : List (Nat × BitVec 32)
  axa : List AxaRegion
deriving DecidableEq, Repr

/-- FABRIC section (R109). -/
structure FabricSection where
  dev : Nat
  domain : Nat
  plan : BitVec 32
  bandwidthFirst : Bool
  dx : Nat
  dy : Nat
  /-- allotment (n0, n1, n2) of X and of Y (R404) -/
  allotX : Nat × Nat × Nat
  allotY : Nat × Nat × Nat
  /-- through slots: wavelength and level (1 or 2) -/
  through : List (LambdaRef × Nat)
  waystation : Bool
  ports : List PortPlan
  trunks : List TrunkEntry
deriving DecidableEq, Repr

/-- REPAIR section (R110). -/
structure RepairSection where
  spareRows : List (Nat × Nat)
  exclCores : BitVec 32
  exclArrays : BitVec 64
  exclStacks : BitVec 32
  exclEngines : BitVec 14
  exclChans : List (Nat × Nat)
  stackRepairs : List (Nat × Nat × Nat)
  lanes : List LaneSet
  lambdas : List LambdaRef
deriving DecidableEq, Repr

/-- POWER section (R111): limits in W by mode code, mode at ready, exit latencies of P1–P4 in µs. -/
structure PowerSection where
  limits : List Nat
  mode : Nat
  exits : List Nat
deriving DecidableEq, Repr

/-- Section table entry (R101), with whether the CRC-32 of the section is the one it names. -/
structure SectionHdr where
  type : BitVec 16
  version : BitVec 16
  offset : Nat
  length : Nat
  crcOk : Bool
deriving DecidableEq, Repr

/-- A Fortu image as its bytes say (R100–R116): header fields, section table, signature block, digests, and the sections. -/
structure Image where
  magic : BitVec 32
  format : BitVec 16
  hdrSize : BitVec 16
  part : BitVec 16
  length : Nat
  id : BitVec 64
  version : BitVec 32
  kind : Nat
  minClass : Nat
  baseDigest : BitVec 256
  serial : BitVec 64
  /-- the unused bytes of the header are zero (R100) -/
  unusedZero : Bool
  table : List SectionHdr
  /-- R102: the certificates of the signature block, in their order; empty where the block does not hold a chain -/
  chain : List (List Byte)
  /-- R102: the signature of the block; none where the image does not end with it -/
  sig : Option (BitVec 3072)
  /-- certificate chain verifies (R103) -/
  certOk : Bool
  /-- signature verifies under the leaf's key (R102, R103) -/
  sigOk : Bool
  /-- SHA-256 of the leaf's key (R133) -/
  leafKey : BitVec 256
  /-- header base digest equals the SHA-256 over the device sections (R100) -/
  digestOk : Bool
  /-- SHA-256 of the whole image, or of the partition section of a reload image, measured under R79 -/
  digest : BitVec 256
  structure_ : List PartEntry
  sets : List ISet
  /-- regulator shares: (stack, partition, share) -/
  shares : List (Nat × Nat × Nat)
  /-- capsule half offsets on the two capsule stacks -/
  capsule : Nat × Nat
  /-- QUEUES: owning partition of queue q; queues not listed are unowned -/
  owners : List (Nat × Nat)
  fabric : FabricSection
  repair : RepairSection
  power : PowerSection
  parts : List PartSection
deriving DecidableEq, Repr

/-- An image as it is delivered: its bytes, the verdicts of the certificate chain and of the signature over them (R103), the
SHA-256 of the leaf's key, and what its sections say, of which the manual gives the bytes of QUEUES only (R108). -/
structure ImageFile where
  bytes : List Byte
  certOk : Bool
  sigOk : Bool
  leafKey : BitVec 256
  structure_ : List PartEntry
  sets : List ISet
  shares : List (Nat × Nat × Nat)
  capsule : Nat × Nat
  fabric : FabricSection
  repair : RepairSection
  power : PowerSection
  parts : List PartSection
deriving DecidableEq, Repr

/-- IDENT (R379). -/
structure Ident where
  serial : BitVec 64
  port : Nat
  eng : Nat
  fib : Nat
  dev : Nat
  devValid : Bool
  domain : Nat
  plan : BitVec 32
  ver : BitVec 8
  verMin : BitVec 8
deriving DecidableEq, Repr

/-- BIST and stack training findings at step 6 (R85). -/
structure BistResult where
  coresLost : List Nat
  banksLost : List Nat
  /-- failing rows: (array, physical row) -/
  rowsFailed : List (Nat × Nat)
  /-- channels failing training: (stack, logical channel) -/
  chansFailed : List (Nat × Nat)
  /-- crash capsule header copies found valid on the first and second capsule stack (R601) -/
  capsuleValid : Bool × Bool
deriving DecidableEq, Repr

/-- Engine calibration findings at step 7 (R372, R373). -/
structure EngCal where
  eng : Nat
  ringsLock : Bool
  /-- VHTR within its tolerance (R685) -/
  vhtrOk : Bool
  /-- inputs A and B at or above their absolute minimum -/
  inA : Bool
  inB : Bool
  /-- levels of inputs A and B, in 0.1 dBm -/
  levelA : Int
  levelB : Int
  /-- wavelengths that failed qualification -/
  failed : List LambdaRef
deriving DecidableEq, Repr

/-- What the completion of each start step brings (R61). -/
inductive StepDone where
  /-- step 1: steppings of HD, CD0–CD3 (none: silent on the sideband, R55) -/
  | rom (steppings : List (Option (BitVec 8)))
  /-- step 2: slots A and B (R70) -/
  | firmware (a b : FwObj)
  /-- step 3: the record copies (R73) -/
  | record (primary secondary : Option RecCopy)
  /-- step 4: rails out of tolerance (R689) and the start lane test (R27); a bundle not listed shows no error -/
  | lanes (railsBad : List Nat) (tests : List LaneTest)
  /-- step 5: the dies have been released (R58) -/
  | release
  /-- step 6 (R85) -/
  | train (b : BistResult)
  /-- step 7 (R372) -/
  | calibrate (cal : List EngCal)
  /-- step 8 (R64) -/
  | links
  /-- step 9: the image read from flash, when the record names the flash (R117) -/
  | image (img : Option ImageFile)
  /-- step 9: the check of an image that a mailbox has delivered -/
  | checked
deriving DecidableEq, Repr

/-- Packet kinds (R452). -/
inductive PKind where
  | load | store | accumulate | fetchAdd | swap | compareSwap | syncAdd | copyRead | copyWrite
  | response | nack | hold | release
deriving DecidableEq, Repr

/-- Accumulate payload (R505): one contribution (RAW) or one 128-bit sum (SUMMED) per set MASK bit, in word order. -/
structure AccPayload where
  summed : Bool
  ty : Nat
  anchor : BitVec 10
  mask : BitVec 16
  flags : BitVec 32
  data : List (BitVec 128)
deriving DecidableEq, Repr

/-- A link that carries credits (R426): port, circuit, or D2D link. -/
inductive LinkRef where
  | port (p : Nat)
  | circuit (c : Nat)
  | d2d (l : Nat)
deriving DecidableEq, Repr

/-- A remote packet: the header of R452 and its payload. `op1`, `op2` are the operands of the atomics and
the sync add; `code` is the code of a negative acknowledgement; `ofKind` is the kind of the request that a response,
negative acknowledgement, HOLD or RELEASE is about (for a request, its own kind). -/
structure Packet where
  kind : PKind
  ofKind : PKind
  vc : Nat
  cls : BitVec 4
  route : BitVec 39
  srcDev : Nat
  srcDom : Nat
  dstDev : Nat
  dstDom : Nat
  ctx : Nat
  job : BitVec 24
  gen : BitVec 12
  seq : BitVec 32
  retry : Bool
  key : BitVec 32
  addr : BitVec 50
  size : Nat
  code : Code
  data : List Byte
  /-- byte mask of an on-device store, bit i for byte i (VST under a predicate); all ones otherwise -/
  mask : Nat
  /-- R321: bit j: 32 B word j of the payload is poisoned -/
  poison : BitVec 16
  op1 : BitVec 64
  op2 : BitVec 64
  acc : Option AccPayload
  /-- R425: not in the header: the input buffer of this hub that the packet holds: the link it came by, its channel and class; none
  for a packet of this hub, and for one that has left its input -/
  inp : Option (LinkRef × Nat × BitVec 4) := none
deriving DecidableEq, Repr

/-- What one end of a link reports after a retrain (R44): the mask of each active bundle, keyed by
32 × direction + bundle; a bundle not listed is not active. -/
abbrev LinkReport := List (Nat × BitVec 68)

/-- A boot mailbox object (R561). -/
inductive MboxObj where
  | firmware (f : FwObj)
  | image (f : ImageFile)
deriving DecidableEq, Repr

/-- Outcome of a requested test (R87, R98): rows found failing (kind 2), words found corrected and
uncorrectable (kind 3), lanes failing (kind 4), wavelengths failing (kind 5), unit lost (kind 1). -/
structure TestResult where
  unitFailed : Bool
  rows : List Nat
  corrected : Nat
  uncorrectable : List Nat
  lanes : List LaneSet
  lambdas : List LambdaRef
deriving DecidableEq, Repr

/-- Residue check of one drain row (R213, R214): failing columns, each with the latched physical row, none
for an error in the drain accumulate adder. -/
abbrev Residue := List (Nat × Option Nat)

/-- ECC findings of a base die on the words of a request (R334): words corrected, words uncorrectable,
as 32 B word indexes within the request. -/
structure EccFind where
  corrected : List Nat
  uncorrectable : List Nat
  /-- R706: words with an error beyond two symbols that the code did not find: the word reads as data of the error's making, and
  may be counted as corrected -/
  missed : List (Nat × Bool × BitVec 256) := []
deriving DecidableEq, Repr

/-- Hub MGMT requests to a base die (R321). -/
inductive MgmtReq where
  | retrain (chan : Nat)
  | scrub (chan : Nat)
  | migrate (chan : Nat)
  | steep (level : Nat)
  | selfRefresh (on : Bool)
deriving DecidableEq, Repr

/-- What one housekeeping round reads (R635): sensors as they stand, before compensation, in units of 0.1 °C, (unit, sensor,
reading); rails, (rail, mV, mA). -/
structure Readings where
  temps : List (TUnit × Nat × Int)
  rails : List (Nat × Nat × Nat)
deriving DecidableEq, Repr

/-- Why the hub starts a compute die, stack, link, core or device reset (R587, R590): a write of
`HUB.RESET_CTL` or `CORE.RESET` through a port, or the hub itself with a cause code. -/
inductive ResetSrc where
  | request (port : Nat)
  | hub (cause : Code)
deriving DecidableEq, Repr

/-- A management-channel packet (R574): source device, the 64-byte entry, the image that an IMG_RELOAD fetches, and, for the
packet that returns a command's result, its code and result. -/
structure MgmtPacket where
  srcDev : Nat
  entry : Entry
  img : Option ImageFile
  reply : Option (Code × BitVec 64)
deriving DecidableEq, Repr

/-- Test access port instructions (R694): the boundary-scan set and any other. -/
inductive JtagIr where
  | bypass | idcode | samplePreload | extest | extestPulse | extestTrain | clamp | highz
  | other (code : Nat)
deriving DecidableEq, Repr

/-- One piece's host data for a copy whose source is host memory (R569). -/
abbrev HostData := List Byte

/-! ### What a command brings together with the thing it names -/

/-- R65: a configuration request at a port; `d3` is the power state that a configuration write asks for, `true` for D3hot. -/
structure CfgAccess where
  port : Nat
  d3 : Option Bool
  deriving DecidableEq, Repr

/-- R25, R33: the check of a flit: its CRC held, and the logical lane of each bit error. -/
structure FlitCheck where
  crcOk : Bool
  errs : List Nat
  deriving DecidableEq, Repr

/-- R33: a lane to be swapped, and the flits in flight on its bundle, by sequence number. -/
structure LaneTaken where
  lane : Nat
  flying : List (Nat × BitVec 1024)
  deriving DecidableEq, Repr

/-- R36: the lanes of a bundle that fail the margin check in service, and the flits in flight on it, by sequence number. -/
structure LaneMargins where
  failing : BitVec 68
  flying : List (Nat × BitVec 1024)
  deriving DecidableEq, Repr

/-- R44: the bundles that did not come up at the first and at the second end of a link. -/
structure EndsDown where
  first : List Nat
  second : List Nat
  deriving DecidableEq, Repr

/-- R343, R344: the end of a stack's migration copy, with the words that the copy found uncorrectable. -/
structure CopyEnd where
  stack : Nat
  uncorrectable : List Nat
  deriving DecidableEq, Repr

/-- R365, R400: the wavelength pair a flit came by, and the symbols corrected in it. -/
structure PairRead where
  pair : Nat
  symbols : Nat
  deriving DecidableEq, Repr

/-- R416, R422: the link by which a packet came in and, on a circuit or its fallback path, its sequence number. -/
structure CameBy where
  via : LinkRef
  seq : Nat
  deriving DecidableEq, Repr

/-- R629: the least current of a compute die over the 2 µs, in A. -/
structure DieAmps where
  die : Nat
  amps : Nat
  deriving DecidableEq, Repr

/-- R631–R633: a rail and its voltage, in mV. -/
structure RailVolts where
  rail : Nat
  mv : Nat
  deriving DecidableEq, Repr

/-- R633: a stack and the highest voltage of its rail over the 2 µs, in mV. -/
structure StackVolts where
  stack : Nat
  mv : Nat
  deriving DecidableEq, Repr

/-- R637, R641: a unit and its hottest sensor that is not excluded, in 0.1 °C. -/
structure UnitTemp where
  u : TUnit
  temp : Int
  deriving DecidableEq, Repr

/-- R556: a host link's FLIT mode, and the lanes active under L0p. -/
structure LinkMode where
  flit : Bool
  l0p : Nat
  deriving DecidableEq, Repr

end Sys2Proof
end

