-- ==== Sys2Proof/Syntax.lean ====
section
/-! DEFINITION. The commands of the VXL-7140: one constructor of `Instr` per row of spec/opcode_table.json. -/

namespace Sys2Proof

/-- A step of the device, commanded from outside or raised by the device itself. Each constructor is one row of the
table, with the rule the row names; its operands are log entry 1. Queue numbers `q` name the queue whose head entry is the command. -/
inductive Instr where
  /-- POWER_GOOD, R61 -/
  | powerGood (part : BitVec 16) (rev : BitVec 4)
  /-- START_STEP_DONE, R61 -/
  | startStepDone (r : StepDone)
  /-- BOOT_STEP_TIMEOUT, R62 -/
  | bootStepTimeout
  /-- DIE_RELEASE_TIMEOUT, R58 -/
  | dieReleaseTimeout (die : Nat)
  /-- CONFIG_REQUEST, R65 -/
  | configRequest (req : CfgAccess)
  /-- PERST_ASSERT, R66 -/
  | perstAssert (port : Nat)
  /-- PERST_DEASSERT, R696 -/
  | perstDeassert (port : Nat)
  /-- CSR_WRITE, R15 -/
  | csrWrite (port block off size : Nat) (v : Word)
  /-- CSR_ACCESS_BAD, R704 -/
  | csrAccessBad (port : Nat) (isWrite : Bool) (size : Nat)
  /-- MBOX_BOOT_FIRMWARE, R561 -/
  | mboxBootFirmware (port : Nat)
  /-- MBOX_WHOLE_IMAGE, R561 -/
  | mboxWholeImage (port : Nat)
  /-- MBOX_FETCH_DONE, R117 -/
  | mboxFetchDone (port : Nat) (obj : MboxObj)
  /-- QUOTE, R83 -/
  | quote (q : Nat)
  /-- QUOTE_SIGNED, R82 -/
  | quoteSigned (sig : BitVec 3072)
  /-- LOG_READ, R575 -/
  | logRead (q : Nat)
  /-- TEST_REQ, R94 -/
  | testReq (port : Nat) (v : Word)
  /-- TEST_GRANT, R96 -/
  | testGrant (port : Nat) (v : Word)
  /-- MGMT_TEST_REQ, R575 -/
  | mgmtTestReq (q : Nat)
  /-- MGMT_TEST_GRANT, R575 -/
  | mgmtTestGrant (q : Nat)
  /-- TEST_IDLE_START, R88 -/
  | testIdleStart (kind unit : Nat)
  /-- TEST_WINDOW_END, R91 -/
  | testWindowEnd (kind unit : Nat)
  /-- TEST_COMPLETE, R98 -/
  | testComplete (kind unit : Nat) (r : TestResult)
  /-- D2D_FLIT_RECEIVE, R25 -/
  | d2dFlitReceive (link dir bundle seq : Nat) (chk : FlitCheck) (flit : BitVec 1024)
  /-- LANE_SWAP, R33 -/
  | laneSwap (link dir bundle : Nat) (taken : LaneTaken)
  /-- LANE_SWAP_DONE, R33 -/
  | laneSwapDone (link dir bundle : Nat)
  /-- LANE_MARGIN_LIVE, R36 -/
  | laneMarginLive (link dir bundle : Nat) (res : LaneMargins)
  /-- CREDIT_RETURN_AFTER_RETRAIN, R37 -/
  | creditReturnAfterRetrain (link : LinkRef) (dir : Nat)
  /-- PATH_CHANGE, R41 -/
  | pathChange (link : Nat) (up : Bool)
  /-- PATH_CHANGE_DONE, R41 -/
  | pathChangeDone (link : Nat)
  /-- D2D_RETRAIN, R53 -/
  | d2dRetrain (port : Nat)
  /-- D2D_RETRAIN_DEFERRED_START, R54 -/
  | d2dRetrainDeferredStart (link : Nat)
  /-- D2D_RETRAIN_REPORT, R44; what the shortened lane test (R43) found, and the bundles (32 × direction + bundle) that did
  not come up at the first and at the second end -/
  | d2dRetrainReport (link : Nat) (tests : List LaneTest) (down : EndsDown)
  /-- WIDTH_ESCALATE, R46 -/
  | widthEscalate (link : Nat)
  /-- FETCH_LINE_ARRIVE, R163 -/
  | fetchLineArrive (x : Tid) (victim : Nat) (poisoned : Bool)
  /-- COMPUTE_ENTRY_START, R152 -/
  | computeEntryStart (q core thr : Nat)
  /-- ILLEGAL_INSTRUCTION, R278 -/
  | illegalInstruction (x : Tid) (w : Word)
  /-- NOP, R280 -/
  | nop (x : Tid) (i : Insn)
  /-- END, R155 -/
  | endWork (x : Tid) (i : Insn)
  /-- ADD, R280 -/
  | add (x : Tid) (i : Insn)
  /-- SUB, R280 -/
  | sub (x : Tid) (i : Insn)
  /-- MUL, R280 -/
  | mul (x : Tid) (i : Insn)
  /-- MULH, R280 -/
  | mulh (x : Tid) (i : Insn)
  /-- AND, R280 -/
  | and (x : Tid) (i : Insn)
  /-- OR, R280 -/
  | or (x : Tid) (i : Insn)
  /-- XOR, R280 -/
  | xor (x : Tid) (i : Insn)
  /-- SHL, R280 -/
  | shl (x : Tid) (i : Insn)
  /-- SHR, R280 -/
  | shr (x : Tid) (i : Insn)
  /-- SRA, R280 -/
  | sra (x : Tid) (i : Insn)
  /-- SLT, R280 -/
  | slt (x : Tid) (i : Insn)
  /-- SLTU, R280 -/
  | sltu (x : Tid) (i : Insn)
  /-- SEL, R280 -/
  | sel (x : Tid) (i : Insn)
  /-- ADDI, R280 -/
  | addi (x : Tid) (i : Insn)
  /-- ANDI, R280 -/
  | andi (x : Tid) (i : Insn)
  /-- ORI, R280 -/
  | ori (x : Tid) (i : Insn)
  /-- XORI, R280 -/
  | xori (x : Tid) (i : Insn)
  /-- SHLI, R280 -/
  | shli (x : Tid) (i : Insn)
  /-- SHRI, R280 -/
  | shri (x : Tid) (i : Insn)
  /-- SRAI, R280 -/
  | srai (x : Tid) (i : Insn)
  /-- LIH, R280 -/
  | lih (x : Tid) (i : Insn)
  /-- BEQ, R282 -/
  | beq (x : Tid) (i : Insn)
  /-- BNE, R282 -/
  | bne (x : Tid) (i : Insn)
  /-- BLT, R282 -/
  | blt (x : Tid) (i : Insn)
  /-- BGE, R282 -/
  | bge (x : Tid) (i : Insn)
  /-- BLTU, R282 -/
  | bltu (x : Tid) (i : Insn)
  /-- BGEU, R282 -/
  | bgeu (x : Tid) (i : Insn)
  /-- JAL, R282 -/
  | jal (x : Tid) (i : Insn)
  /-- JALR, R282 -/
  | jalr (x : Tid) (i : Insn)
  /-- RDSYS, R284 -/
  | rdsys (x : Tid) (i : Insn)
  /-- RKEY, R285 -/
  | rkey (x : Tid) (i : Insn)
  /-- ICINV, R286 -/
  | icinv (x : Tid) (i : Insn)
  /-- LD, R287 -/
  | ld (x : Tid) (i : Insn)
  /-- ST, R287 -/
  | st (x : Tid) (i : Insn)
  /-- VLD, R287 -/
  | vld (x : Tid) (i : Insn)
  /-- VST, R287 -/
  | vst (x : Tid) (i : Insn)
  /-- PLD, R287 -/
  | pld (x : Tid) (i : Insn)
  /-- PST, R287 -/
  | pst (x : Tid) (i : Insn)
  /-- RLD, R292 -/
  | rld (x : Tid) (i : Insn)
  /-- RVLD, R292 -/
  | rvld (x : Tid) (i : Insn)
  /-- RST, R294 -/
  | rst (x : Tid) (i : Insn)
  /-- RVST, R294 -/
  | rvst (x : Tid) (i : Insn)
  /-- RAXA, R296 -/
  | raxa (x : Tid) (i : Insn)
  /-- RFADD, R297 -/
  | rfadd (x : Tid) (i : Insn)
  /-- RSWAP, R297 -/
  | rswap (x : Tid) (i : Insn)
  /-- RCAS, R297 -/
  | rcas (x : Tid) (i : Insn)
  /-- SADD, R300 -/
  | sadd (x : Tid) (i : Insn)
  /-- SWAIT, R301 -/
  | swait (x : Tid) (i : Insn)
  /-- SWAIT_TIMEOUT, R301 -/
  | swaitTimeout (x : Tid)
  /-- FENCE, R304 -/
  | fence (x : Tid) (i : Insn)
  /-- QPOST, R306 -/
  | qpost (x : Tid) (i : Insn)
  /-- QPOST_STATUS, R306 -/
  | qpostStatus (x : Tid)
  /-- VADD, R307 -/
  | vadd (x : Tid) (i : Insn)
  /-- VSUB, R307 -/
  | vsub (x : Tid) (i : Insn)
  /-- VMUL, R307 -/
  | vmul (x : Tid) (i : Insn)
  /-- VFMA, R307 -/
  | vfma (x : Tid) (i : Insn)
  /-- VMIN, R307 -/
  | vmin (x : Tid) (i : Insn)
  /-- VMAX, R307 -/
  | vmax (x : Tid) (i : Insn)
  /-- VCMP, R307 -/
  | vcmp (x : Tid) (i : Insn)
  /-- VCVT, R309 -/
  | vcvt (x : Tid) (i : Insn)
  /-- VEXP2, R308 -/
  | vexp2 (x : Tid) (i : Insn)
  /-- VRCP, R308 -/
  | vrcp (x : Tid) (i : Insn)
  /-- VRSQ, R308 -/
  | vrsq (x : Tid) (i : Insn)
  /-- VAND, R280 -/
  | vand (x : Tid) (i : Insn)
  /-- VOR, R280 -/
  | vor (x : Tid) (i : Insn)
  /-- VXOR, R280 -/
  | vxor (x : Tid) (i : Insn)
  /-- VBCAST, R312 -/
  | vbcast (x : Tid) (i : Insn)
  /-- VEXT, R312 -/
  | vext (x : Tid) (i : Insn)
  /-- VSUM, R311 -/
  | vsum (x : Tid) (i : Insn)
  /-- VSCALE, R310 -/
  | vscale (x : Tid) (i : Insn)
  /-- PAND, R280 -/
  | pand (x : Tid) (i : Insn)
  /-- POR, R280 -/
  | por (x : Tid) (i : Insn)
  /-- PNOT, R280 -/
  | pnot (x : Tid) (i : Insn)
  /-- MLOAD, R249 -/
  | mload (x : Tid) (i : Insn)
  /-- MSTREAM, R253 -/
  | mstream (x : Tid) (i : Insn)
  /-- MDRAIN, R262 -/
  | mdrain (x : Tid) (i : Insn)
  /-- MRACC, R266 -/
  | mracc (x : Tid) (i : Insn)
  /-- MDRV, R263 -/
  | mdrv (x : Tid) (i : Insn)
  /-- ARRAY_QUEUE_SLOT_FREE, R161 -/
  | arrayQueueSlotFree (x : Tid)
  /-- ARRAY_INSTR_START, R248 -/
  | arrayInstrStart (core a : Nat)
  /-- ARRAY_ROW_FEED, R201 -/
  | arrayRowFeed (core a : Nat)
  /-- DRAIN_ROW_WRITE, R200 -/
  | drainRowWrite (core a : Nat) (res : Residue)
  /-- ARRAY_INSTR_COMPLETE, R247 -/
  | arrayInstrComplete (core a : Nat)
  /-- MRACC_OPERATION_SEND, R268 -/
  | mraccOperationSend (core a : Nat)
  /-- ARRAY_RESIDUE_RATE, R218 -/
  | arrayResidueRate (core a : Nat)
  /-- ARRAY_RESET_ESCALATE, R183 -/
  | arrayResetEscalate (core a : Nat)
  /-- REMOTE_REPLY, R159 -/
  | remoteReply (core entry : Nat)
  /-- PORT_ACCEPT, R159 -/
  | portAccept (x : Tid)
  /-- PORT_ENTRY_FREE, R160 -/
  | portEntryFree (x : Tid)
  /-- RETIRE_WDOG, R178 -/
  | retireWdog (x : Tid)
  /-- PARK_WDOG, R178 -/
  | parkWdog (x : Tid)
  /-- ARRAY_WDOG, R178 -/
  | arrayWdog (core a : Nat)
  /-- THREAD_RESET, R190 -/
  | threadReset (port core : Nat) (mask : BitVec 16)
  /-- PORT_ORPHAN, R180 -/
  | portOrphan (x : Tid)
  /-- THREAD_RESET_ESCALATE, R182 -/
  | threadResetEscalate (x : Tid)
  /-- CORE_RESET, R184 -/
  | coreReset (src : ResetSrc) (core : Nat)
  /-- CORE_RESET_ESCALATE, R185 -/
  | coreResetEscalate (core : Nat)
  /-- IMG_RELOAD, R132 -/
  | imgReload (q : Nat) (img : ImageFile)
  /-- RELOAD_CHECK_DONE, R134 -/
  | reloadCheckDone
  /-- RELOAD_SWITCH, R134 -/
  | reloadSwitch
  /-- RELOAD_DRAIN_EXPIRED, R135 -/
  | reloadDrainExpired
  /-- READ, R321 -/
  | read (stack chan i : Nat) (ecc : EccFind)
  /-- WRITE, R321 -/
  | write (stack chan i : Nat) (ecc : EccFind)
  /-- ACCUM, R496 -/
  | accum (stack chan i : Nat) (ecc : EccFind)
  /-- ATOMIC, R323 -/
  | atomic (stack chan i : Nat) (ecc : EccFind)
  /-- READOUT, R514 -/
  | readout (stack chan i : Nat) (ecc : EccFind)
  /-- MGMT, R321 -/
  | mgmt (stack : Nat) (r : MgmtReq)
  /-- RETRAIN_TURN, R338 -/
  | retrainTurn
  /-- RETRAIN_DONE, R345 -/
  | retrainDone (stack chan : Nat) (ok : Bool)
  /-- MEM_RETRAIN_HOLD, R358 -/
  | memRetrainHold (port : Nat) (v : Word)
  /-- MEM_RETRAIN_HOLD_END, R341 -/
  | memRetrainHoldEnd
  /-- SCRUB_PASS, R337 -/
  | scrubPass (stack chan : Nat) (corrected : Nat) (uncorrectable : List Nat)
  /-- MIGRATE_THRESHOLD, R342 -/
  | migrateThreshold (stack chan : Nat)
  /-- MIG_START, R357 -/
  | migStart (port stack chan : Nat)
  /-- MIGRATE_DONE, R344; the words found uncorrectable by the copy (R343) -/
  | migrateDone (fin : CopyEnd)
  /-- CMD_WATCHDOG, R345 -/
  | cmdWatchdog (stack chan : Nat)
  /-- LASER_LOW, R366; the power measured, in 0.1 dBm -/
  | laserLow (eng input : Nat) (pwr : Int)
  /-- LASER_LOST, R367 -/
  | laserLost (eng input : Nat) (pwr : Int)
  /-- LASER_NOTICE, R368 -/
  | laserNotice (eng : Nat) (fibres : BitVec 8)
  /-- LASER_RECOVER, R370 -/
  | laserRecover (eng input : Nat) (pwr : Int)
  /-- LASER_RECAL_DONE, R370 -/
  | laserRecalDone (eng input : Nat)
  /-- CONTINUOUS_CALIBRATION, R374 -/
  | continuousCalibration (eng fib : Nat)
  /-- LAMBDA_SWAP, R375 -/
  | lambdaSwap (l : LambdaRef)
  /-- THROUGH_FAIL, R376 -/
  | throughFail (l : LambdaRef)
  /-- FIBRE_PAIR_TRAINED, R378 -/
  | fibrePairTrained (eng fib : Nat) (failed : List LambdaRef)
  /-- IDENT, R381 -/
  | ident (eng fib : Nat) (m : Ident)
  /-- IDENT_RESEND, R379 -/
  | identResend (port : Nat)
  /-- PORT_MISSING, R381 -/
  | portMissing (port : Nat)
  /-- HEARTBEAT_WDOG, R387 -/
  | heartbeatWdog (eng fib : Nat)
  /-- QUALIFICATION_WINDOW_END, R368 -/
  | qualificationWindowEnd (eng : Nat)
  /-- TRAINING_RETRY, R387 -/
  | trainingRetry (port : Nat)
  /-- SIGNAL_REGAIN, R385 -/
  | signalRegain (eng : Nat)
  /-- WITHDRAW, R388 -/
  | withdraw (port : Nat) (engines : BitVec 3)
  /-- LINK_RESET, R388 -/
  | linkReset (src : ResetSrc) (eng : Nat)
  /-- LINK_RESET_ESCALATE, R388 -/
  | linkResetEscalate (eng : Nat)
  /-- PORT_RETRAIN, R397 -/
  | portRetrain
  /-- PORT_REDISCOVER, R397 -/
  | portRediscover
  /-- PORT_WITHDRAW, R397 -/
  | portWithdraw
  /-- PORT_RESTORE, R397 -/
  | portRestore
  /-- PORT_LOCATE, R397 -/
  | portLocate (on : Bool)
  /-- ATTN_PRESS, R391 -/
  | attnPress
  /-- ATTN_FORCED, R392 -/
  | attnForced
  /-- ATTN_RELEASE, R399 -/
  | attnRelease
  /-- ATTN_CANCEL, R399 -/
  | attnCancel
  /-- ATTN_BLOCKED, R391 -/
  | attnBlocked
  /-- ATTN_DRAIN, R391 -/
  | attnDrain
  /-- ATTN_QUIESCE_DONE, R391 -/
  | attnQuiesceDone
  /-- ATTN_SAFE, R391 -/
  | attnSafe
  /-- PORT_FLIT_RECEIVE, R365 -/
  | portFlitReceive (port seq : Nat) (rd : PairRead) (crcOk : Bool) (flit : BitVec 1024)
  /-- PACKET_FORWARD, R422; the link by which the packet came in and, on a circuit or its fallback path, its sequence number (R416) -/
  | packetForward (p : Packet) (came : CameBy)
  /-- LINK_CREDIT, R425 -/
  | linkCredit (link : LinkRef) (vc : Nat) (cls : BitVec 4) (n : Nat)
  /-- BREAK, R414 -/
  | breakNotice (ckt : Nat)
  /-- CIRCUIT_HEARTBEAT_WDOG, R414 -/
  | circuitHeartbeatWdog (ckt : Nat)
  /-- DETUNE, R414 -/
  | detune
  /-- CIRCUIT_RESTORE, R417 -/
  | circuitRestore (ckt : Nat)
  /-- CIRCUIT_RETURN, R417 -/
  | circuitReturn (ckt : Nat)
  /-- NO_ROUTE_HOLD, R421 -/
  | noRouteHold (i : Nat)
  /-- SEGMENT_RETURN, R421 -/
  | segmentReturn (i : Nat)
  /-- CREDIT_AUDIT, R428 -/
  | creditAudit (link : LinkRef)
  /-- AUDIT, R428 -/
  | audit (link : LinkRef) (peer : List (Nat × Nat))
  /-- ROUTE_QUERY, R436 -/
  | routeQuery (port : Nat) (v : Word)
  /-- LOAD, R450 -/
  | load (p : Packet)
  /-- STORE, R453 -/
  | store (p : Packet)
  /-- ACCUMULATE, R492 -/
  | accumulate (p : Packet)
  /-- FETCH_ADD, R463 -/
  | fetchAdd (p : Packet)
  /-- SWAP, R463 -/
  | swap (p : Packet)
  /-- COMPARE_SWAP, R463 -/
  | compareSwap (p : Packet)
  /-- SYNC_ADD, R450 -/
  | syncAdd (p : Packet)
  /-- COPY_READ, R477 -/
  | copyRead (p : Packet)
  /-- COPY_WRITE, R477 -/
  | copyWrite (p : Packet)
  /-- RESPONSE, R452 -/
  | response (p : Packet)
  /-- NEGATIVE_ACKNOWLEDGEMENT, R465 -/
  | negativeAcknowledgement (p : Packet)
  /-- HOLD, R458 -/
  | hold (p : Packet)
  /-- HOLD_REPEAT, R458 -/
  | holdRepeat (stack chan i : Nat)
  /-- RELEASE, R462 -/
  | release (p : Packet)
  /-- DEDUP_EXPIRE, R462 -/
  | dedupExpire (srcDev ctx : Nat) (seq : BitVec 32)
  /-- ATTEMPT_TIMEOUT, R457 -/
  | attemptTimeout (core entry : Nat)
  /-- CTX_OPEN, R443 -/
  | ctxOpen (q : Nat)
  /-- CTX_TEARDOWN, R471 -/
  | ctxTeardown (q : Nat)
  /-- JOB_TEARDOWN, R443 -/
  | jobTeardown (q : Nat)
  /-- CTX_FREE, R443 -/
  | ctxFree (q : Nat)
  /-- TEARDOWN_COMPLETE, R471 -/
  | teardownComplete (ctx : Nat)
  /-- TEARDOWN_ESCALATE, R473 -/
  | teardownEscalate (ctx : Nat)
  /-- REGION_ADD, R448 -/
  | regionAdd (q : Nat)
  /-- REGION_REMOVE, R447 -/
  | regionRemove (q : Nat)
  /-- REGION_RENEW, R447 -/
  | regionRenew (q : Nat)
  /-- REGION_COMMAND_DONE, R449 -/
  | regionCommandDone (q : Nat)
  /-- POST, R564 -/
  | post (port q : Nat)
  /-- COPY_ENTRY_START, R566 -/
  | copyEntryStart (q : Nat)
  /-- COPY_PIECE_ISSUE, R477 -/
  | copyPieceIssue (run : Nat) (host : HostData)
  /-- BULK_LOST, R480 -/
  | bulkLost (run : Nat)
  /-- COMBINING_FLUSH, R503 -/
  | combiningFlush (e : Nat)
  /-- COMBINING_STALE, R506 -/
  | combiningStale (e : Nat)
  /-- COMBINING_FLUSH_WAIT_END, R507 -/
  | combiningFlushWaitEnd
  /-- GROUP_CREATE, R524 -/
  | groupCreate (q : Nat)
  /-- GROUP_DESTROY, R528 -/
  | groupDestroy (q : Nat)
  /-- COLL_ABORT, R528 -/
  | collAbort (q : Nat)
  /-- LEG_DISPATCH, R531 -/
  | legDispatch (q thr : Nat)
  /-- PEER_TIMEOUT, R544 -/
  | peerTimeout (q : Nat)
  /-- PORT_EXPECT, R386 -/
  | portExpect (q : Nat)
  /-- FAB_AVOID, R419 -/
  | fabAvoid (q : Nat)
  /-- EVT_RING, R576 -/
  | evtRing (q : Nat)
  /-- MANAGEMENT_PACKET, R574 -/
  | managementPacket (m : MgmtPacket)
  /-- FLR, R573 -/
  | flr (port : Nat)
  /-- CPL_LOST, R572 -/
  | cplLost (port : Nat)
  /-- MSIX_UNMASK, R579 -/
  | msixUnmask (port vec : Nat)
  /-- Q_PROGRESS_WDOG, R586 -/
  | qProgressWdog (q : Nat)
  /-- DIE_HEARTBEAT, R584 -/
  | dieHeartbeat (die : Nat)
  /-- STACK_MGMT_WDOG, R584 -/
  | stackMgmtWdog (stack : Nat)
  /-- ENG_MGMT_WDOG, R584 -/
  | engMgmtWdog (eng : Nat)
  /-- COMPUTE_DIE_RESET, R591 -/
  | computeDieReset (src : ResetSrc) (die : Nat)
  /-- STACK_RESET, R593 -/
  | stackReset (src : ResetSrc) (stack : Nat)
  /-- DEVICE_RESET, R595 -/
  | deviceReset (src : ResetSrc)
  /-- DIE_RESET_ESCALATE, R588 -/
  | dieResetEscalate (die : Nat)
  /-- STACK_RESET_ESCALATE, R588 -/
  | stackResetEscalate (stack : Nat)
  /-- DEVICE_RESET_ESCALATE, R588 -/
  | deviceResetEscalate
  /-- HUB_WDOG, R584 -/
  | hubWdog
  /-- SUPV_HB_TICK, R598 -/
  | supvHbTick
  /-- SUPV_N, R692 -/
  | supvN (low : Bool)
  /-- HOUSEKEEPING_ROUND, R635 -/
  | housekeepingRound (r : Readings)
  /-- PSTEP_LOWER, R628 -/
  | pstepLower
  /-- PWR_MODE_FORCED, R630 -/
  | pwrModeForced
  /-- PWR_FORCE_END, R630 -/
  | pwrForceEnd
  /-- TSTEP_LOWER, R638 -/
  | tstepLower (die : Nat)
  /-- THERM_MODE_FORCED, R638 -/
  | thermModeForced (die : Nat)
  /-- THERM_FORCE_END, R638 -/
  | thermForceEnd (die : Nat)
  /-- THERM_SENSOR, R636 -/
  | thermSensor (u : TUnit) (i : Nat)
  /-- CLK_DELTA_T, R640 -/
  | clkDeltaT (hot cold : TUnit)
  /-- MODE_CHANGE, R623 -/
  | modeChange (port : Nat) (mode : BitVec 2)
  /-- MODE_CHANGE_DONE, R625 -/
  | modeChangeDone
  /-- PWR_FAST_LIMIT, R629; the least current over the 2 µs, in A -/
  | pwrFastLimit (x : DieAmps)
  /-- DIP_WARN, R631; the voltage, in mV -/
  | dipWarn (x : RailVolts)
  /-- DIP_RESET, R633; the voltage, in mV -/
  | dipReset (x : RailVolts)
  /-- DIP_FLOOR_RELEASE, R632; the lowest voltage over the 100 µs, in mV -/
  | dipFloorRelease (x : RailVolts)
  /-- PWR_STACK_LOST, R633; the highest voltage over the 2 µs, in mV -/
  | pwrStackLost (x : StackVolts)
  /-- THERMAL_SHUTDOWN, R641; the hottest sensor, in 0.1 °C -/
  | thermalShutdown (x : UnitTemp)
  /-- LAT_TOL, R645 -/
  | latTol (port : Nat) (v : Word)
  /-- CORE_P1_ENTRY, R646 -/
  | coreP1Entry (core : Nat)
  /-- LATENCY_STATE_ENTRY, R646 -/
  | latencyStateEntry
  /-- LATENCY_STATE_EXIT, R647 -/
  | latencyStateExit
  /-- CLK_REF_LOST, R652 -/
  | clkRefLost
  /-- CLK_REF_RETURN, R652 -/
  | clkRefReturn
  /-- VR_NO_ACK, R689 -/
  | vrNoAck (reg : Nat)
  /-- EVC_SEL, R668 -/
  | evcSel (port bank j : Nat) (v : Word)
  /-- SNAP_ARM, R679 -/
  | snapArm (port : Nat)
  /-- SNAP_NOW, R678 -/
  | snapNow (port : Nat)
  /-- READ_HB, R693 -/
  | readHb
  /-- READ_BOOT, R693 -/
  | readBoot
  /-- READ_TEMP, R693 -/
  | readTemp
  /-- SET_OFFSET, R693 -/
  | setOffset (off : BitVec 32)
  /-- READ_CSR, R693 -/
  | readCsr
  /-- JTAG_INSTRUCTION, R694 -/
  | jtagInstruction (ir : JtagIr)
  /-- POWER_REMOVE, R690 -/
  | powerRemove
  /-- ARRAY_RESET_DONE, R220 -/
  | arrayResetDone (core a : Nat) (chainOk : Bool)
  /-- CORE_RESET_DONE, R184 -/
  | coreResetDone (core : Nat)
  /-- COMPUTE_DIE_RESET_DONE, R591 -/
  | computeDieResetDone (die : Nat)
  /-- STACK_RESET_DONE, R593 -/
  | stackResetDone (stack : Nat)
  /-- LINK_RESET_DONE, R388 -/
  | linkResetDone (eng : Nat)
  /-- PCIE_LINK_DOWN, R572 -/
  | pcieLinkDown (port : Nat) (refLost : Bool)
  /-- PCIE_LINK_UP, R65 -/
  | pcieLinkUp (port speed width : Nat) (mode : LinkMode)
  /-- IDLE_CONTROL_FLIT, R387 -/
  | idleControlFlit (eng fib : Nat)
deriving DecidableEq, Repr

end Sys2Proof
end

