-- ==== Sys2Proof/Decode.lean ====
section
/-! DEFINITION. Decoding. The command table gives its rows no bits, so `decodeTableWord` spells none. The words that the
manual does encode are those of the cores' instructions (R276–R280): here are their opcodes, their decoder and their
encoder. -/

namespace Sys2Proof

/-- The command that a word spells by the command table's bits: no row of the table gives any (log entry 1). -/
def decodeTableWord (_nbits _w : Nat) : Option Instr := none

/-- R280: the instruction an opcode names; none for an opcode the table does not list (R278). -/
def coreInstr (opc : Nat) (x : Tid) (i : Insn) : Option Instr :=
  match opc with
  | 0x00 => some (.nop x i)
  | 0x01 => some (.endWork x i)
  | 0x02 => some (.add x i)
  | 0x03 => some (.sub x i)
  | 0x04 => some (.mul x i)
  | 0x05 => some (.mulh x i)
  | 0x06 => some (.and x i)
  | 0x07 => some (.or x i)
  | 0x08 => some (.xor x i)
  | 0x09 => some (.shl x i)
  | 0x0A => some (.shr x i)
  | 0x0B => some (.sra x i)
  | 0x0C => some (.slt x i)
  | 0x0D => some (.sltu x i)
  | 0x0E => some (.sel x i)
  | 0x10 => some (.addi x i)
  | 0x11 => some (.andi x i)
  | 0x12 => some (.ori x i)
  | 0x13 => some (.xori x i)
  | 0x14 => some (.shli x i)
  | 0x15 => some (.shri x i)
  | 0x16 => some (.srai x i)
  | 0x17 => some (.lih x i)
  | 0x20 => some (.beq x i)
  | 0x21 => some (.bne x i)
  | 0x22 => some (.blt x i)
  | 0x23 => some (.bge x i)
  | 0x24 => some (.bltu x i)
  | 0x25 => some (.bgeu x i)
  | 0x26 => some (.jal x i)
  | 0x27 => some (.jalr x i)
  | 0x28 => some (.rdsys x i)
  | 0x29 => some (.rkey x i)
  | 0x2A => some (.icinv x i)
  | 0x40 => some (.ld x i)
  | 0x41 => some (.st x i)
  | 0x42 => some (.vld x i)
  | 0x43 => some (.vst x i)
  | 0x44 => some (.pld x i)
  | 0x45 => some (.pst x i)
  | 0x50 => some (.rld x i)
  | 0x51 => some (.rvld x i)
  | 0x52 => some (.rst x i)
  | 0x53 => some (.rvst x i)
  | 0x54 => some (.raxa x i)
  | 0x55 => some (.rfadd x i)
  | 0x56 => some (.rswap x i)
  | 0x57 => some (.rcas x i)
  | 0x60 => some (.sadd x i)
  | 0x61 => some (.swait x i)
  | 0x68 => some (.fence x i)
  | 0x70 => some (.qpost x i)
  | 0x80 => some (.vadd x i)
  | 0x81 => some (.vsub x i)
  | 0x82 => some (.vmul x i)
  | 0x83 => some (.vfma x i)
  | 0x84 => some (.vmin x i)
  | 0x85 => some (.vmax x i)
  | 0x86 => some (.vcmp x i)
  | 0x87 => some (.vcvt x i)
  | 0x88 => some (.vexp2 x i)
  | 0x89 => some (.vrcp x i)
  | 0x8A => some (.vrsq x i)
  | 0x8B => some (.vand x i)
  | 0x8C => some (.vor x i)
  | 0x8D => some (.vxor x i)
  | 0x8E => some (.vbcast x i)
  | 0x8F => some (.vext x i)
  | 0x90 => some (.vsum x i)
  | 0x91 => some (.vscale x i)
  | 0x98 => some (.pand x i)
  | 0x99 => some (.por x i)
  | 0x9A => some (.pnot x i)
  | 0xC0 => some (.mload x i)
  | 0xC1 => some (.mstream x i)
  | 0xC2 => some (.mdrain x i)
  | 0xC3 => some (.mracc x i)
  | 0xC4 => some (.mdrv x i)
  | _ => none

/-- R276: the fields of an instruction word beside its opcode. -/
def insnOf (w : Word) : Insn :=
  { d := w.extractLsb' 8 5, a := w.extractLsb' 13 5, b := w.extractLsb' 18 5, c := w.extractLsb' 23 5, fn := w.extractLsb' 28 4
    upper := w.extractLsb' 32 32 }

/-- R276: decode an instruction word of thread `x`; a word whose opcode is not listed is an illegal instruction (R278). -/
def decodeCore (x : Tid) (w : Word) : Instr :=
  (coreInstr (w.extractLsb' 0 8).toNat x (insnOf w)).getD (.illegalInstruction x w)

/-- R280: opcode, thread and fields of an instruction. -/
def coreFields : Instr → Option (BitVec 8 × Tid × Insn)
  | .nop x i => some (0x00, x, i)
  | .endWork x i => some (0x01, x, i)
  | .add x i => some (0x02, x, i)
  | .sub x i => some (0x03, x, i)
  | .mul x i => some (0x04, x, i)
  | .mulh x i => some (0x05, x, i)
  | .and x i => some (0x06, x, i)
  | .or x i => some (0x07, x, i)
  | .xor x i => some (0x08, x, i)
  | .shl x i => some (0x09, x, i)
  | .shr x i => some (0x0A, x, i)
  | .sra x i => some (0x0B, x, i)
  | .slt x i => some (0x0C, x, i)
  | .sltu x i => some (0x0D, x, i)
  | .sel x i => some (0x0E, x, i)
  | .addi x i => some (0x10, x, i)
  | .andi x i => some (0x11, x, i)
  | .ori x i => some (0x12, x, i)
  | .xori x i => some (0x13, x, i)
  | .shli x i => some (0x14, x, i)
  | .shri x i => some (0x15, x, i)
  | .srai x i => some (0x16, x, i)
  | .lih x i => some (0x17, x, i)
  | .beq x i => some (0x20, x, i)
  | .bne x i => some (0x21, x, i)
  | .blt x i => some (0x22, x, i)
  | .bge x i => some (0x23, x, i)
  | .bltu x i => some (0x24, x, i)
  | .bgeu x i => some (0x25, x, i)
  | .jal x i => some (0x26, x, i)
  | .jalr x i => some (0x27, x, i)
  | .rdsys x i => some (0x28, x, i)
  | .rkey x i => some (0x29, x, i)
  | .icinv x i => some (0x2A, x, i)
  | .ld x i => some (0x40, x, i)
  | .st x i => some (0x41, x, i)
  | .vld x i => some (0x42, x, i)
  | .vst x i => some (0x43, x, i)
  | .pld x i => some (0x44, x, i)
  | .pst x i => some (0x45, x, i)
  | .rld x i => some (0x50, x, i)
  | .rvld x i => some (0x51, x, i)
  | .rst x i => some (0x52, x, i)
  | .rvst x i => some (0x53, x, i)
  | .raxa x i => some (0x54, x, i)
  | .rfadd x i => some (0x55, x, i)
  | .rswap x i => some (0x56, x, i)
  | .rcas x i => some (0x57, x, i)
  | .sadd x i => some (0x60, x, i)
  | .swait x i => some (0x61, x, i)
  | .fence x i => some (0x68, x, i)
  | .qpost x i => some (0x70, x, i)
  | .vadd x i => some (0x80, x, i)
  | .vsub x i => some (0x81, x, i)
  | .vmul x i => some (0x82, x, i)
  | .vfma x i => some (0x83, x, i)
  | .vmin x i => some (0x84, x, i)
  | .vmax x i => some (0x85, x, i)
  | .vcmp x i => some (0x86, x, i)
  | .vcvt x i => some (0x87, x, i)
  | .vexp2 x i => some (0x88, x, i)
  | .vrcp x i => some (0x89, x, i)
  | .vrsq x i => some (0x8A, x, i)
  | .vand x i => some (0x8B, x, i)
  | .vor x i => some (0x8C, x, i)
  | .vxor x i => some (0x8D, x, i)
  | .vbcast x i => some (0x8E, x, i)
  | .vext x i => some (0x8F, x, i)
  | .vsum x i => some (0x90, x, i)
  | .vscale x i => some (0x91, x, i)
  | .pand x i => some (0x98, x, i)
  | .por x i => some (0x99, x, i)
  | .pnot x i => some (0x9A, x, i)
  | .mload x i => some (0xC0, x, i)
  | .mstream x i => some (0xC1, x, i)
  | .mdrain x i => some (0xC2, x, i)
  | .mracc x i => some (0xC3, x, i)
  | .mdrv x i => some (0xC4, x, i)
  | _ => none

/-- R276: the word of an opcode and fields. -/
def wordOf (opc : BitVec 8) (i : Insn) : Word := i.upper ++ i.fn ++ i.c ++ i.b ++ i.a ++ i.d ++ opc

/-- The word of an instruction; none for a command that is no instruction of a core. -/
def encode (c : Instr) : Option Word := (coreFields c).map fun f => wordOf f.1 f.2.2

end Sys2Proof
end

