-- ==== Sys2Proof/Config.lean ====
section
/-! DEFINITION. What the manual leaves open, as constants without a body: nothing in Lean can prove a value of them.
A value that may differ each time is applied to the counter `Dev.free`, which the step advances (log entry 3). -/

namespace Sys2Proof

/-- A free byte: the bytes of a copy's destination after `E_RA_BULK_LOST` (R480). -/
opaque Config.freeByte : Nat → BitVec 8

/-- R308: which of the FP32 results within 1 ulp the vector unit writes, a fixed function of the opcode and the input
bits; read modulo the number of candidates. -/
opaque Config.ulpPick : BitVec 8 → BitVec 32 → Nat

/-- R183, R588: the code logged, and the cause of the core reset, when an array reset misses its deadline, less one; no code
table names it, and it is not `E_OK` (R20). -/
opaque Config.arrayEscalationLess : Fin 65535
def Config.arrayEscalation : BitVec 16 := BitVec.ofNat 16 (Config.arrayEscalationLess.val + 1)

/-- R85, R98, R607: the code with which a core that fails its test is reported lost, less one; no code table names it, and it
is not `E_OK` (R20). -/
opaque Config.coreLostLess : Fin 65535
def Config.coreLost : BitVec 16 := BitVec.ofNat 16 (Config.coreLostLess.val + 1)

/-- R426: the credits of a D2D link and direction, less one; the manual names a quota and gives no number. -/
opaque Config.d2dQuota : Nat → Nat → Nat

/-- R343: 32 B words that a migration copies in a millisecond beyond those that 25 % of the channel's bandwidth copies. -/
opaque Config.copyRate : Nat → Nat

/-- R379: the link protocol version of the hub firmware, and the oldest it accepts; the manual gives no value. -/
opaque Config.linkVer : BitVec 8
opaque Config.linkVerMin : BitVec 8

/-- R79: the digest with which a test-port access beyond boundary scan is measured; the manual does not say what is hashed. -/
opaque Config.jtagDigest : Nat → BitVec 256

/-- R156: the threads of a core, by number, whose operands are ready and whose execution unit is free at the slot given (log
entry 58). -/
opaque Config.eligible : Nat → Nat → BitVec 16

/-- R706: what a word of 32 B with an error of three or more bits shows when it is read. -/
inductive WordErr where
  | uncorrectable
  /-- corrected wrongly, to this data, and counted as corrected -/
  | miscorrected (data : BitVec 256)
  /-- unseen: it reads as this data -/
  | unseen (data : BitVec 256)
deriving DecidableEq, Repr

/-- R172, R216, R706: bits of a word that flip: of a word of a core's store, or of a drain bank of one of its arrays. -/
structure Upset where
  core : Nat
  bank : Option Nat
  word : Nat
  bits : Nat
  /-- what the word shows if three or more of its bits are then wrong -/
  shows : WordErr
deriving DecidableEq, Repr

/-- R172, R216, R706: the soft errors that strike in a cycle; nothing in the manual says when. -/
opaque Config.upsets : Nat → List Upset

end Sys2Proof
end

