-- ==== Sys2Proof/Machine/SMap.lean ====
section
/-! DEFINITION. Sparse tables in one canonical form: keys strictly rising, no entry equal to the default. -/

namespace Sys2Proof

/-- The value at key `k`, the default where none is listed. -/
def look {α : Type} (d : α) : SMap α → Nat → α
  | [], _ => d
  | (j, v) :: m, k => if j = k then v else look d m k

/-- Remove key `k`. -/
def drop {α : Type} (m : SMap α) (k : Nat) : SMap α := m.filter fun e => e.1 ≠ k

/-- Insert or replace the value at key `k`. -/
def insert {α : Type} : SMap α → Nat → α → SMap α
  | [], k, v => [(k, v)]
  | (j, w) :: m, k, v => if j = k then (k, v) :: m else if k < j then (k, v) :: (j, w) :: m else (j, w) :: insert m k v

/-- Set key `k` to `v`, keeping the canonical form. -/
def put {α : Type} [DecidableEq α] (d : α) (m : SMap α) (k : Nat) (v : α) : SMap α :=
  if v = d then drop m k else insert m k v

/-- Keys strictly rising from above `lo`. -/
def rising {α : Type} : Option Nat → SMap α → Bool
  | _, [] => true
  | none, (j, _) :: m => rising (some j) m
  | some l, (j, _) :: m => decide (l < j) && rising (some j) m

/-- The canonical form. -/
def SMap.wf {α : Type} [DecidableEq α] (d : α) (m : SMap α) : Bool :=
  rising none m && m.all (fun e => decide (e.2 ≠ d))

/-- The first listed entry that satisfies `p`. -/
def findKey {α : Type} (p : Nat → α → Bool) (m : SMap α) : Option Nat :=
  (m.find? (fun e => p e.1 e.2)).map (·.1)

/-- The lowest key below `n` that is not listed. -/
def freeKey {α : Type} (m : SMap α) (n : Nat) : Option Nat :=
  (List.range n).find? (fun k => !(m.any (fun e => e.1 == k)))

end Sys2Proof
end

