-- ==== Sys2Proof/Machine/Bits.lean ====
section
/-! DEFINITION. Bytes, little-endian words (R13), bit fields, and sparse memories of bytes. -/

namespace Sys2Proof

/-- Bits lo … lo + w − 1 of `v`. -/
abbrev fld {n : Nat} (v : BitVec n) (lo w : Nat) : BitVec w := v.extractLsb' lo w

/-- Bits lo … lo + w − 1 of `v` as a number. -/
def fldN {n : Nat} (v : BitVec n) (lo w : Nat) : Nat := v.toNat / 2 ^ lo % 2 ^ w

/-- `v` placed at bit `lo` of a 64-bit word. -/
def at_ (lo : Nat) (v : Nat) : BitVec 64 := BitVec.ofNat 64 (v * 2 ^ lo)

/-- A Boolean as a bit. -/
def bit (b : Bool) : Nat := if b then 1 else 0

/-- Replace `w` bits from `lo` of a number by `v` (which is below 2^w). -/
def setBits (x lo w v : Nat) : Nat := x - x / 2 ^ lo % 2 ^ w * 2 ^ lo + v % 2 ^ w * 2 ^ lo

/-- The little-endian bytes of `x`, `n` of them. -/
def toBytes : Nat → Nat → List Byte
  | 0, _ => []
  | n + 1, x => BitVec.ofNat 8 x :: toBytes n (x / 256)

/-- The number whose little-endian bytes are given. -/
def ofBytes : List Byte → Nat
  | [] => 0
  | b :: l => b.toNat + 256 * ofBytes l

/-- The byte at address `a`; 0 where none is listed. -/
def getByte (m : List Host.Cell) (a : Nat) : Byte := look 0 m a

/-- Write a byte, keeping the canonical form. -/
def setByte (m : List Host.Cell) (a : Nat) (b : Byte) : List Host.Cell := put 0 m a b

/-- `n` bytes from address `a`. -/
def getBytes (m : List Host.Cell) (a n : Nat) : List Byte := (List.range n).map (fun i => getByte m (a + i))

/-- Write bytes from address `a` on. -/
def setBytes : List Host.Cell → Nat → List Byte → List Host.Cell
  | m, _, [] => m
  | m, a, b :: l => setBytes (setByte m a b) (a + 1) l

/-- Write byte i of `l` where bit i of `mask` is set. -/
def setMasked : List Host.Cell → Nat → Nat → List Byte → List Host.Cell
  | m, _, _, [] => m
  | m, a, mask, b :: l => setMasked (if mask % 2 = 1 then setByte m a b else m) (a + 1) (mask / 2) l

/-- Remove every byte in [a, a + n). -/
def clearRange (m : List Host.Cell) (a n : Nat) : List Host.Cell := m.filter (fun c => !(a ≤ c.1 && c.1 < a + n))

/-- The canonical form of a memory. -/
def Memory.wf (m : List Host.Cell) : Bool := SMap.wf 0 m

/-- `n` consecutive numbers from `a`. -/
def span (a n : Nat) : List Nat := (List.range n).map (a + ·)

/-- Add without repeats. -/
def addNew {α : Type} [DecidableEq α] (l : List α) (x : α) : List α := if x ∈ l then l else l ++ [x]

/-- Saturating increment of a 16-bit counter. -/
def sat16 (x : BitVec 16) (n : Nat := 1) : BitVec 16 := BitVec.ofNat 16 (min 0xFFFF (x.toNat + n))

/-- Saturating increment of an 8-bit counter. -/
def sat8 (x : BitVec 8) (n : Nat := 1) : BitVec 8 := BitVec.ofNat 8 (min 0xFF (x.toNat + n))

/-- Insert into a list sorted by a key. -/
def insertBy {α : Type} (f : α → Nat) (x : α) : List α → List α
  | [] => [x]
  | y :: l => if f x < f y then x :: y :: l else y :: insertBy f x l

/-- Sort by a key; equal keys keep their order. -/
def sortBy {α : Type} (f : α → Nat) (l : List α) : List α := l.foldl (fun m x => insertBy f x m) []

/-- Replace the element at index `i`. -/
def setAt {α : Type} : List α → Nat → α → List α
  | [], _, _ => []
  | _ :: l, 0, y => y :: l
  | x :: l, i + 1, y => x :: setAt l i y

/-- Remove the element at index `i`. -/
def dropAt {α : Type} : List α → Nat → List α
  | [], _ => []
  | _ :: l, 0 => l
  | x :: l, i + 1 => x :: dropAt l i

end Sys2Proof
end

