-- ==== Sys2Proof/Machine/Codes.lean ====
section
/-! DEFINITION. The error codes of the manual, by name and value (R20 and the code tables of the chapters). -/

namespace Sys2Proof

/-- R20: success. -/
def E_OK : Code := 0x0000#16
/-- R17: write to a locked RWL field. -/
def E_CSR_LOCKED : Code := 0x0104#16
/-- R704: BAR access that is not an aligned 32-bit or 64-bit access. -/
def E_CSR_ACCESS : Code := 0x0105#16
/-- R60: Unsupported die stepping. -/
def E_DIE_STEP_UNSUP : Code := 0x0201#16
/-- R60: Unknown die stepping. -/
def E_DIE_STEP_UNKNOWN : Code := 0x0202#16
/-- R60: Die silent on sideband at stepping check. -/
def E_DIE_SIDEBAND : Code := 0x0203#16
/-- R60: Lane failed that board record does not exclude. -/
def E_D2D_LANE_NEW : Code := 0x0210#16
/-- R60: Bundle disabled; link below full width. -/
def E_D2D_BUNDLE_OFF : Code := 0x0211#16
/-- R60: Ends disagree after retrain. -/
def E_D2D_WIDTH_MISMATCH : Code := 0x0212#16
/-- R60: Renegotiation failed; die reset issued. -/
def E_D2D_WIDTH_ESCALATE : Code := 0x0213#16
/-- R60: Compute die not released. -/
def E_D2D_DIE_ISOLATED : Code := 0x0214#16
/-- R60: CD–CD link down; hub path in use. -/
def E_D2D_LINK_REROUTE : Code := 0x0215#16
/-- R60: Retrain requested while another runs. -/
def E_D2D_BUSY : Code := 0x0216#16
/-- R99: Start step exceeded its limit. -/
def E_BOOT_STEP_TIMEOUT : Code := 0x0301#16
/-- R99: No boot firmware slot verifies. -/
def E_BOOT_FW_INVALID : Code := 0x0302#16
/-- R99: No board record copy verifies. -/
def E_BOOT_RECORD_INVALID : Code := 0x0303#16
/-- R99: Board record belongs to another package. -/
def E_BOOT_RECORD_FOREIGN : Code := 0x0304#16
/-- R99: Device key cannot be unwrapped. -/
def E_KEY_UNWRAP : Code := 0x0305#16
/-- R99: Measurement log full; reload rejected. -/
def E_MEAS_LOG_FULL : Code := 0x0306#16
/-- R99: Too many quote requests waiting. -/
def E_QUOTE_BUSY : Code := 0x0307#16
/-- R99: Pending test dropped; unit absent. -/
def E_TEST_DROPPED : Code := 0x0310#16
/-- R99: Grant from a non-owner ignored. -/
def E_TEST_NOT_OWNER : Code := 0x0311#16
/-- R148: Header, length or section table malformed. -/
def E_IMG_FORMAT : Code := 0x0401#16
/-- R148: Certificate chain does not verify. -/
def E_IMG_CERT : Code := 0x0402#16
/-- R148: Signature does not verify. -/
def E_IMG_SIGNATURE : Code := 0x0403#16
/-- R148: Wrong part code or package serial. -/
def E_IMG_PART_MISMATCH : Code := 0x0404#16
/-- R148: Image needs a higher compatibility class. -/
def E_IMG_CLASS : Code := 0x0405#16
/-- R148: Section CRC or base digest wrong. -/
def E_IMG_CRC : Code := 0x0406#16
/-- R148: Image names a unit the part lacks. -/
def E_IMG_UNIT_ABSENT : Code := 0x0407#16
/-- R148: Waystation role on a part without trunks. -/
def E_IMG_ROLE : Code := 0x0408#16
/-- R148: A section rule is violated. -/
def E_IMG_RULE : Code := 0x0409#16
/-- R148: Another load or reload in progress. -/
def E_IMG_BUSY : Code := 0x040A#16
/-- R148: Reload does not match the loaded image. -/
def E_IMG_BASE_MISMATCH : Code := 0x040B#16
/-- R148: Reload names another partition or holds a device section. -/
def E_IMG_RELOAD_SCOPE : Code := 0x040C#16
/-- R148: Drain limit expired. -/
def E_IMG_RELOAD_DRAIN : Code := 0x040D#16
/-- R148: Reset before the switch. -/
def E_IMG_RELOAD_ABORT : Code := 0x040E#16
/-- R195: Work item ended by a thread reset. -/
def E_THREAD_RESET : Code := 0x0501#16
/-- R195: Work item ended by a core reset. -/
def E_CORE_RESET : Code := 0x0502#16
/-- R195: READY thread retired nothing within the limit. -/
def E_THREAD_RETIRE_WDOG : Code := 0x0503#16
/-- R195: Thread parked beyond the limit. -/
def E_THREAD_PARK_WDOG : Code := 0x0504#16
/-- R195: Array made no progress; array reset. -/
def E_ARRAY_WDOG : Code := 0x0505#16
/-- R195: Instruction names a retired array. -/
def E_ARRAY_ABSENT : Code := 0x0506#16
/-- R195: Uncorrectable core store word. -/
def E_STORE_UNCORR : Code := 0x0507#16
/-- R195: Unpopulated or absent core store address. -/
def E_STORE_UNMAPPED : Code := 0x0508#16
/-- R195: Instruction fetch from a disallowed address. -/
def E_FETCH_ADDR : Code := 0x0509#16
/-- R195: Thread reset missed its deadline; core reset issued. -/
def E_THREAD_RESET_ESCALATE : Code := 0x050A#16
/-- R195: Core reset missed its deadline; die reset issued. -/
def E_CORE_RESET_ESCALATE : Code := 0x050B#16
/-- R195: Posted entries orphaned at a thread reset. -/
def E_PORT_ORPHAN : Code := 0x050C#16
/-- R230: Residue check failed; drain row marked bad. -/
def E_ARRAY_RESIDUE : Code := 0x0601#16
/-- R230: In-field failure added to a row map. -/
def E_ARRAY_SPARE_APPLIED : Code := 0x0602#16
/-- R230: Array retired. -/
def E_ARRAY_RETIRED : Code := 0x0603#16
/-- R230: Uncorrectable drain-bank word; array retired. -/
def E_DRAIN_UNCORR : Code := 0x0604#16
/-- R230: Instruction names an array whose use bit is clear. -/
def E_ARRAY_GATED : Code := 0x0605#16
/-- R230: Streaming instruction with no valid weights. -/
def E_ARRAY_NO_WEIGHTS : Code := 0x0606#16
/-- R230: Retirement cause: fifth failed row. -/
def E_ARRAY_SPARES_OUT : Code := 0x0607#16
/-- R230: Retirement cause: failure in a mapped row or a partial-sum register. -/
def E_ARRAY_CHAIN : Code := 0x0608#16
/-- R230: Retirement cause: eight residue errors within 1 s. -/
def E_ARRAY_RESIDUE_RATE : Code := 0x0609#16
/-- R275: Shape field out of range, reserved bit set, or drain-bank range exceeded. -/
def E_MX_SHAPE : Code := 0x0701#16
/-- R275: Format code invalid for the instruction, pair outside R236, XB with BF16, or MDRAIN with OUT = 0. -/
def E_MX_FORMAT : Code := 0x0702#16
/-- R275: Descriptor or operand outside the core's store, misaligned, or an MRACC target address or pitch breaking R266. -/
def E_MX_ADDR : Code := 0x0703#16
/-- R275: Stream K or N exceeds that of the loaded weights. -/
def E_MX_LOADED : Code := 0x0704#16
/-- R275: MLOAD with a completed load still waiting and no stream ahead. -/
def E_MX_SHADOW_BUSY : Code := 0x0705#16
/-- R315: Opcode not defined. -/
def E_ILLEGAL_OPC : Code := 0x0801#16
/-- R315: Nonzero unused field, or reserved FN, TY, SLICE, PRED or selector. -/
def E_RESERVED_FIELD : Code := 0x0802#16
/-- R315: Address not a multiple of the access size. -/
def E_ADDR_ALIGN : Code := 0x0803#16
/-- R315: Address outside the populated map, in CSR space, or a disallowed counter access. -/
def E_ADDR_RANGE : Code := 0x0804#16
/-- R315: On-device address owned by another partition. -/
def E_ADDR_PART : Code := 0x0805#16
/-- R315: Load returned poisoned data. -/
def E_LOAD_POISON : Code := 0x0806#16
/-- R315: SWAIT timeout expired. -/
def E_SYNC_TIMEOUT : Code := 0x0807#16
/-- R315: QPOST to a queue of another partition. -/
def E_Q_NOT_OWNER : Code := 0x0808#16
/-- R315: QPOST to a full queue. -/
def E_Q_FULL : Code := 0x0809#16
/-- R315: QPOST to a communication or management queue. -/
def E_Q_TYPE : Code := 0x080A#16
/-- R360: Accumulate, atomic or partial write to a poisoned word. -/
def E_MEM_POISON : Code := 0x0901#16
/-- R360: Uncorrectable word; poisoned. -/
def E_MEM_UNCORR : Code := 0x0902#16
/-- R360: Channel dead; contents poisoned. -/
def E_MEM_CHAN_DEAD : Code := 0x0903#16
/-- R360: Migration to standby started. -/
def E_MEM_MIGRATE_START : Code := 0x0904#16
/-- R360: Channel now on standby. -/
def E_MEM_MIGRATE_DONE : Code := 0x0905#16
/-- R360: Threshold reached with no free standby. -/
def E_MEM_MIGRATE_FAIL : Code := 0x0906#16
/-- R360: Request unanswered for 20 µs; channel retrained. -/
def E_MEM_CMD_TIMEOUT : Code := 0x0907#16
/-- R360: Both capsule stacks absent. -/
def E_CAPSULE_LOST : Code := 0x0908#16
/-- R402: Laser input lost; transmitters out of service. -/
def E_ENG_LASER_LOST : Code := 0x0A01#16
/-- R402: Laser input more than 1.5 dB low. -/
def E_ENG_LASER_LOW : Code := 0x0A02#16
/-- R402: Rings cannot lock; engine fenced off. -/
def E_ENG_CAL_FAIL : Code := 0x0A03#16
/-- R402: Neighbour slot moved to a spare. -/
def E_ENG_LAMBDA_SWAP : Code := 0x0A04#16
/-- R402: Neighbour slot dropped; no spare. -/
def E_ENG_LAMBDA_LOST : Code := 0x0A05#16
/-- R402: Through wavelength failed; circuit broken. -/
def E_ENG_THROUGH_FAIL : Code := 0x0A06#16
/-- R402: Cables swapped; port quarantined. -/
def E_PORT_SWAPPED : Code := 0x0A10#16
/-- R402: Expected neighbour absent. -/
def E_PORT_MISSING : Code := 0x0A11#16
/-- R402: Neighbour on an unused port; quarantined. -/
def E_PORT_EXTRA : Code := 0x0A12#16
/-- R402: Neighbour not the one planned; quarantined. -/
def E_PORT_FOREIGN : Code := 0x0A13#16
/-- R402: Port cabled to the device itself; quarantined. -/
def E_PORT_LOOPBACK : Code := 0x0A14#16
/-- R402: No common protocol version. -/
def E_PORT_VERSION : Code := 0x0A15#16
/-- R402: All engines of the port silent without notice. -/
def E_PORT_LINK_FAULT : Code := 0x0A16#16
/-- R402: Link reset missed its deadline; device reset issued. -/
def E_LINK_RESET_ESCALATE : Code := 0x0A17#16
/-- R402: Work ended by a device drain. -/
def E_ATTN_DRAIN : Code := 0x0A20#16
/-- R402: Release limit passed; drain waiting. -/
def E_ATTN_BLOCKED : Code := 0x0A21#16
/-- R402: Drain forced by a long press. -/
def E_ATTN_FORCED : Code := 0x0A22#16
/-- R438: Express circuit broken; fallback in use. -/
def E_FAB_CKT_BREAK : Code := 0x0B01#16
/-- R438: Express circuit restored. -/
def E_FAB_CKT_RESTORE : Code := 0x0B02#16
/-- R438: No clear route, or packet discarded at a blocked segment. -/
def E_FAB_NO_ROUTE : Code := 0x0B03#16
/-- R438: Device number outside the domain. -/
def E_FAB_DEST_RANGE : Code := 0x0B04#16
/-- R438: Credit audit mismatch; link retrained. -/
def E_FAB_CREDIT_AUDIT : Code := 0x0B05#16
/-- R438: No trunk path to the target domain. -/
def E_FAB_TRUNK_DOWN : Code := 0x0B06#16
/-- R438: Flit of a non-bulk channel offered to a trunk. -/
def E_FAB_TRUNK_VC : Code := 0x0B07#16
/-- R438: Avoid list holds 64 entries. -/
def E_FAB_AVOID_FULL : Code := 0x0B08#16
/-- R487: No context of the job at the target. -/
def E_RA_NO_CTX : Code := 0x0C01#16
/-- R487: Packet generation ahead of the target's. -/
def E_RA_GEN_AHEAD : Code := 0x0C02#16
/-- R487: Address unreachable, or kind not allowed there. -/
def E_RA_RANGE : Code := 0x0C03#16
/-- R487: No region holds the whole access. -/
def E_RA_NO_REGION : Code := 0x0C04#16
/-- R487: Region of another context or generation. -/
def E_RA_REGION_STALE : Code := 0x0C05#16
/-- R487: Key mismatch. -/
def E_RA_KEY : Code := 0x0C06#16
/-- R487: Region does not permit the kind. -/
def E_RA_PERM : Code := 0x0C07#16
/-- R487: Counter of another partition. -/
def E_RA_PART : Code := 0x0C08#16
/-- R487: Accumulate outside every AXA region. -/
def E_RA_NOT_AXA : Code := 0x0C09#16
/-- R487: Load unanswered after four attempts. -/
def E_RA_TIMEOUT : Code := 0x0C0A#16
/-- R487: Outcome cannot be settled; context ended. -/
def E_RA_INDETERMINATE : Code := 0x0C0B#16
/-- R487: Deduplication table full; atomic not applied. -/
def E_RA_DEDUP_FULL : Code := 0x0C0C#16
/-- R487: Work item ended by a context teardown. -/
def E_RA_CTX_TEARDOWN : Code := 0x0C0D#16
/-- R487: Queue entry names a context that is not open. -/
def E_RA_CTX_CLOSED : Code := 0x0C0E#16
/-- R487: No free context. -/
def E_RA_CTX_FULL : Code := 0x0C0F#16
/-- R487: Context command invalid in the context's state. -/
def E_RA_CTX_BAD : Code := 0x0C10#16
/-- R487: 4,096 regions exist. -/
def E_RA_REGION_FULL : Code := 0x0C11#16
/-- R487: Region breaks an export rule. -/
def E_RA_REGION_BAD : Code := 0x0C12#16
/-- R487: Teardown missed its deadline; cores reset. -/
def E_RA_TEARDOWN_ESCALATE : Code := 0x0C13#16
/-- R487: Cross-domain copy without a side on the issuing device. -/
def E_RA_BULK_SIDES : Code := 0x0C14#16
/-- R487: Cross-domain copy lost its path or an acknowledgement. -/
def E_RA_BULK_LOST : Code := 0x0C15#16
/-- R522: Packet anchor differs from the region's. -/
def E_AXA_ANCHOR : Code := 0x0D01#16
/-- R522: Read-out source not on the issuing device. -/
def E_AXA_READOUT_REMOTE : Code := 0x0D02#16
/-- R522: Read-out source misaligned or not in one AXA region of the partition. -/
def E_AXA_READOUT_RANGE : Code := 0x0D03#16
/-- R522: Combining entry freed without a response. -/
def E_AXA_COMB_STALE : Code := 0x0D04#16
/-- R522: Read-out complete; some words flagged, poisoned or overflowed. -/
def E_AXA_FLAGGED : Code := 0x0D05#16
/-- R554: Instance ended by an abort. -/
def E_COLL_ABORT : Code := 0x0E01#16
/-- R554: Entry of an aborted group not run. -/
def E_COLL_ABORTED : Code := 0x0E02#16
/-- R554: Abort cause: gate unmet for the peer timeout. -/
def E_COLL_PEER_TIMEOUT : Code := 0x0E03#16
/-- R554: GROUP_CREATE operand breaks a rule. -/
def E_COLL_GROUP_BAD : Code := 0x0E04#16
/-- R554: Counter range in use or within 10 ms of release. -/
def E_COLL_RANGE_BUSY : Code := 0x0E05#16
/-- R554: Reservations would exceed 192 on the core. -/
def E_COLL_CREDITS : Code := 0x0E06#16
/-- R554: Abort cause: COLL_ABORT or GROUP_DESTROY. -/
def E_COLL_COMMAND : Code := 0x0E07#16
/-- R554: Manifest rows exceed the receive capacity. -/
def E_COLL_OVERFLOW : Code := 0x0E08#16
/-- R554: Manifest slot of another instance. -/
def E_COLL_MANIFEST : Code := 0x0E09#16
/-- R554: Abort cause: token from a peer. -/
def E_COLL_TOKEN : Code := 0x0E0A#16
/-- R554: Abort cause: raised by a leg program. -/
def E_COLL_PROGRAM : Code := 0x0E0B#16
/-- R583: Entry kind wrong for the queue, or a reserved field set. -/
def E_Q_ENTRY_BAD : Code := 0x0F01#16
/-- R583: Held entry discarded at a reload switch. -/
def E_Q_DISCARDED : Code := 0x0F02#16
/-- R583: Entry ended by an FLR. -/
def E_HOST_FLR : Code := 0x0F03#16
/-- R583: Records to a host address discarded. -/
def E_HOST_CPL_LOST : Code := 0x0F04#16
/-- R583: CSR write from a port not serving the owner. -/
def E_HOST_NOT_OWNER : Code := 0x0F05#16
/-- R583: Unknown management command. -/
def E_MGMT_UNKNOWN : Code := 0x0F06#16
/-- R583: HFM command or forward from a non-HFM queue. -/
def E_MGMT_NOT_HFM : Code := 0x0F07#16
/-- R583: Mailbox request invalid at this step. -/
def E_MBOX_BAD : Code := 0x0F08#16
/-- R583: Management command operand out of range. -/
def E_MGMT_OPERAND : Code := 0x0F09#16
/-- R620: Queue made no progress within the limit. -/
def E_Q_PROGRESS_WDOG : Code := 0x1001#16
/-- R620: Compute die silent for 3 polls; die reset. -/
def E_DIE_HEARTBEAT : Code := 0x1002#16
/-- R620: Die reset missed its deadline; device reset. -/
def E_DIE_RESET_ESCALATE : Code := 0x1003#16
/-- R620: Base die silent for 3 polls; stack reset. -/
def E_STACK_MGMT_WDOG : Code := 0x1004#16
/-- R620: Stack reset missed its deadline; device reset. -/
def E_STACK_RESET_ESCALATE : Code := 0x1005#16
/-- R620: Engine silent for 3 polls; link reset. -/
def E_ENG_MGMT_WDOG : Code := 0x1006#16
/-- R620: Device reset begun; entry ended by it. -/
def E_DEVICE_RESET : Code := 0x1007#16
/-- R620: Device reset missed its deadline; power cycle requested. -/
def E_DEVICE_RESET_ESCALATE : Code := 0x1008#16
/-- R620: Fourth device reset cause within 10 minutes; drained. -/
def E_DEVICE_RESET_LOOP : Code := 0x1009#16
/-- R620: Capture ended early. -/
def E_CAPSULE_TRUNC : Code := 0x100A#16
/-- R620: Reset requested while one of the unit or its container runs. -/
def E_RESET_BUSY : Code := 0x100B#16
/-- R620: Reset request names an invalid domain or an absent unit. -/
def E_RESET_REQ_BAD : Code := 0x100C#16
/-- R662: Invalid mode written. -/
def E_PWR_MODE_BAD : Code := 0x1101#16
/-- R662: Clock forced to EFFICIENT by power or temperature. -/
def E_PWR_MODE_FORCED : Code := 0x1102#16
/-- R662: Rail below warning level; floor applied. -/
def E_PWR_DIP_WARN : Code := 0x1103#16
/-- R662: Rail below reset level; reset cause. -/
def E_PWR_DIP_RESET : Code := 0x1104#16
/-- R662: Stack rail low beyond 2 µs; stack poisoned. -/
def E_PWR_STACK_LOST : Code := 0x1105#16
/-- R662: Die current limit tripped. -/
def E_PWR_FAST_LIMIT : Code := 0x1106#16
/-- R662: Warning threshold reached. -/
def E_THERM_WARN : Code := 0x1107#16
/-- R662: Shutdown threshold reached; latched. -/
def E_THERM_SHUTDOWN : Code := 0x1108#16
/-- R662: Sensor excluded as implausible. -/
def E_THERM_SENSOR : Code := 0x1109#16
/-- R662: Neighbouring regions more than 30 °C apart. -/
def E_CLK_DELTA_T : Code := 0x110A#16
/-- R662: Fabric reference lost; holdover. -/
def E_CLK_REF_LOST : Code := 0x110B#16
/-- R683: Source code undefined for the bank, or EVT_EXT absent; source set to 0x00. -/
def E_EVC_SOURCE : Code := 0x1201#16
/-- R703: Regulator did not acknowledge three attempts. -/
def E_VR_NO_ACK : Code := 0x1301#16
/-- R703: Rail out of tolerance at start step 4; start halted. -/
def E_VR_RAIL : Code := 0x1302#16

end Sys2Proof
end

