-- ==== Sys2Proof/Machine/State.lean ====
section
/-! DEFINITION. The state of the VXL-7140: every register, queue, buffer, counter, mode and pin the manual gives the
package, as plain data, with the machine at reset. Field comments name the rule that gives the field; the reset value is
the field's default. Registers that only report other fields are read views over them (`Machine/Views.lean`). -/

namespace Sys2Proof.Machine

/-! ### Start-up, identity, tests (chapters 00 and 02) -/

/-- R78: one entry of the measurement log. -/
structure MeasEntry where
  acc : Nat
  event : BitVec 8
  version : BitVec 32
  digest : BitVec 256
deriving DecidableEq, Repr

/-- Who issued a management command: the entry at the head of a queue of this device, or a forwarded packet (R574). -/
inductive Issuer where
  | queue (q : Nat)
  | remote (dev : Nat)
deriving DecidableEq, Repr

/-- R83: a quote request. -/
structure QuoteReq where
  iss : Issuer
  part : Nat
  nonce : BitVec 256
  buf : BitVec 64
deriving DecidableEq, Repr

/-- Start-up state. -/
structure Boot where
  /-- R61: the hub runs (power-good seen and not removed); false -/
  powered : Bool := false
  /-- R68 BOOT_STAT.STEP; 0 -/
  step : Nat := 0
  /-- R68 BOOT_STAT.HALTED; 0 -/
  halted : Bool := false
  /-- R68 BOOT_STAT.CODE; E_OK -/
  code : Code := 0
  /-- R68 BOOT_STAT.FW_SLOT; 0 -/
  fwSlot : Bool := false
  /-- R68 BOOT_STAT.REC_COPY; 0 -/
  recCopy : Bool := false
  /-- R68 BOOT_STAT.IMG_SRC; 0 -/
  imgSrc : Bool := false
  /-- R68 BOOT_STAT.EPOCH; 0 -/
  epoch : BitVec 16 := 0
  /-- R68 BOOT_STAT.BOOT_MS; 0 -/
  bootMs : BitVec 16 := 0
  /-- R68: clock (ms) at the first step of this start; 0 -/
  startMs : Nat := 0
  /-- R7 DEVICE_ID.PART, per part, given at power-good; DESIGN CHOICE 0 before it -/
  part : BitVec 16 := 0
  /-- R7 DEVICE_ID.PKG_REV, per part; DESIGN CHOICE 0 before power-good -/
  pkgRev : BitVec 4 := 0
  /-- R7 steppings of HD, CD0–CD3 as read over the sideband, none for a silent die; DESIGN CHOICE empty before step 1 -/
  steppings : List (Option (BitVec 8)) := []
  /-- R63, R70: verified boot firmware in hub secure RAM; none -/
  firmware : Option FwObj := none
  /-- R63, R73: bound board record in hub secure RAM; none -/
  record : Option RecCopy := none
  /-- R76, R77: device private key unwrapped; false -/
  keyOk : Bool := false
  /-- R57 DIE_FEAT.COMPAT_CLASS; 0 -/
  compatClass : Nat := 0
  /-- R57 DIE_FEAT.COMPAT_CODE; E_OK -/
  compatCode : Code := 0
  /-- R57 DIE_FEAT.CD_RELEASED; 0 -/
  released : BitVec 4 := 0
  /-- R31, R58: compute dies isolated; 0 -/
  isolated : BitVec 4 := 0
  /-- R78 the eight measurement accumulators; zero -/
  accs : SMap (BitVec 256) := []
  /-- R78, R80 the measurement log, oldest first; empty -/
  log : List MeasEntry := []
  /-- R79 JTAG access already measured in this start; false -/
  jtagSeen : Bool := false
  /-- R83 quote requests waiting; empty -/
  quotes : List QuoteReq := []
  /-- R81, R83 the quote being signed, with the number of log entries it covers; none -/
  signing : Option (QuoteReq × Nat) := none
  /-- R81 extensions waiting for the quote being signed; empty -/
  extWait : List MeasEntry := []
  /-- R66 PERST_N0, PERST_N1 asserted; false -/
  perst0 : Bool := false
  perst1 : Bool := false
  /-- R695, R696: both PERST_N asserted at the same time; false -/
  perstBoth : Bool := false
  /-- R66 an ATTN_N press held until step 10; false -/
  attnHeld : Bool := false
  /-- R70 firmware accepted through the mailbox of P0; false -/
  fwWanted : Bool := false
  /-- R117, R120 the start waits for an image through the mailbox; false -/
  imgWanted : Bool := false
  /-- R117, R120 an image delivered through the mailbox of a port and not yet checked; none -/
  delivered : Option (Nat × Image) := none
  /-- R86 repairs and losses found before step 10, reported to the partitions then: code, unit, data; empty -/
  reports : List (Code × Nat × Word) := []
  /-- R131 cores lost at start before the capability registers are valid (step 6 BIST, or an isolated die); 0 -/
  coresLost : BitVec 32 := 0
  /-- R131 stacks lost at start before the capability registers are valid (step 4); 0 -/
  stacksLost : BitVec 32 := 0
  /-- R129, R131 engines lost at start before the capability registers are valid (steps 4 and 7); 0 -/
  engsLost : BitVec 14 := 0
deriving DecidableEq, Repr

/-- R87: a pending test. -/
structure TestReq where
  kind : Nat
  unit : Nat
deriving DecidableEq, Repr

/-- R88, R91: a running test, started by a grant or on idleness. -/
structure TestRun where
  kind : Nat
  unit : Nat
  granted : Bool
deriving DecidableEq, Repr

/-- Test state (R87–R98). -/
structure Tests where
  /-- R87 pending requests, oldest first; empty -/
  pending : List TestReq := []
  /-- R88 running tests; empty -/
  running : List TestRun := []
  /-- R96 windows granted: (kind, unit, window); empty -/
  grants : List (Nat × Nat × Nat) := []
  /-- R98 TEST_STAT.KIND, UNIT, RESULT, CODE; 0 -/
  kind : Nat := 0
  unit : Nat := 0
  result : Nat := 0
  code : Code := 0
deriving DecidableEq, Repr

/-! ### The Fortu image (chapter 03) -/

/-- R134: phases of a reload. -/
inductive ReloadPhase where
  | check | drain
deriving DecidableEq, Repr

/-- R132–R140: the reload in progress. -/
structure Reload where
  part : Nat
  image : Image
  iss : Issuer
  drainMs : Nat
  phase : ReloadPhase
  /-- R140 a reset before the switch ended the reload: the code with which its issuer is answered -/
  failed : Option Code
deriving DecidableEq, Repr

/-- Image state. -/
structure Img where
  /-- R141 IMG_STAT.STATE; 0 -/
  st : Nat := 0
  /-- R117, R131 the whole image in force, with partition sections as reloaded; none -/
  loaded : Option Image := none
  /-- R132 the reload in progress; none -/
  reload : Option Reload := none
  /-- R141 IMG_STAT.RELOAD_PART; 0 -/
  reloadPart : Nat := 0
  /-- R141 IMG_STAT.CODE; E_OK -/
  code : Code := 0
  /-- R141 IMG_STAT.SECTION; 0xFF -/
  section_ : BitVec 8 := 0xFF
  /-- R141 IMG_STAT.ENTRY; 0 -/
  entry : BitVec 24 := 0
  /-- R143 IMG_VER.RELOADS; 0 -/
  reloads : BitVec 16 := 0
  /-- R5 the capability registers are valid; false -/
  capsValid : Bool := false
  /-- R124 CAP_CORES.USABLE, before the gate of R5; 0 -/
  coresUsable : BitVec 32 := 0
  /-- R124 CAP_CORES.ENABLED, before the gate of R5; 0 -/
  coresEnabled : BitVec 32 := 0
  /-- R125 CAP_ARRAYS.USABLE, before the gate of R5; 0 -/
  arraysUsable : BitVec 64 := 0
  /-- R126 CAP_STACKS.USABLE, before the gate of R5; 0 -/
  stacksUsable : BitVec 32 := 0
  /-- R126 CAP_STACKS.FITTED, before the gate of R5; 0 -/
  stacksFitted : BitVec 32 := 0
  /-- R129 CAP_ENGINES.USABLE, before the gate of R5; 0 -/
  engUsable : BitVec 14 := 0
  /-- R129 CAP_ENGINES.FITTED, before the gate of R5; 0 -/
  engFitted : BitVec 14 := 0
  /-- R130 CAP_GEN.CHANGES; 0 -/
  capGen : BitVec 32 := 0
  /-- R328, R359 first channel granule of each set's band, in MEMORY section order; empty -/
  bands : List Nat := []
  /-- R338 the fixed list of retraining turns: (stack, channel); empty -/
  turns : List (Nat × Nat) := []
  /-- R338 next entry of the list; 0 -/
  turnAt : Nat := 0
deriving DecidableEq, Repr

/-! ### Die-to-die links (chapter 01) -/

/-- R51 D2D_STAT.STATE. -/
inductive BundleSt where
  | absent | active | disabled | training | swapping
deriving DecidableEq, Repr

/-- One bundle of one direction of a D2D link. -/
structure Bundle where
  /-- R51 STATE; absent -/
  st : BundleSt := .absent
  /-- R26 use mask; 0 -/
  mask : BitVec 68 := 0
  /-- R29, R33, R43 lanes that the first and the second end of the link exclude since the start; 0 -/
  exclA : BitVec 68 := 0
  exclB : BitVec 68 := 0
  /-- R33 times (ms) of the bit errors of each lane, newest first; none -/
  errs : SMap (List Nat) := []
  /-- R51 CRC_ERR; 0 -/
  crcErr : BitVec 16 := 0
  /-- R51 REPLAY; 0 -/
  replay : BitVec 16 := 0
deriving DecidableEq, Repr

/-- Phase of a link's retrain (R43–R46, R54); `test`: a kind 4 test holds the link (R87). -/
inductive LinkSt where
  | running
  | deferred
  | test
  | testing
  | agreeing (renegs : Nat)
deriving DecidableEq, Repr

/-- Receiver side of one direction of a link: exactly-once, in-order delivery (R25, R365). -/
structure Rx where
  /-- sequence number of the next flit to deliver; 0 -/
  next : Nat := 0
  /-- flits received ahead of it; empty -/
  held : SMap (BitVec 1024) := []
  /-- flits delivered and not yet consumed, oldest first; empty -/
  delivered : List (BitVec 1024) := []
  /-- replays asked of the sender: sequence numbers whose CRC failed; empty -/
  nakked : List Nat := []
deriving DecidableEq, Repr

/-- One D2D link (R24). -/
structure DLink where
  /-- R31, R54; running -/
  st : LinkSt := .running
  /-- R31 link down (a CD–CD link without width in some direction); false -/
  down : Bool := false
  /-- R46 a width escalation already reset dies for this link; false -/
  escalated : Bool := false
  /-- R46 lanes of the published map, keyed 32 × dir + bundle; empty -/
  published : LinkReport := []
  /-- R44 the last reports of the two ends; empty -/
  repA : LinkReport := []
  repB : LinkReport := []
  /-- R37 the receiver of direction 0, of direction 1, has yet to return its credits after a retrain; false -/
  held0 : Bool := false
  held1 : Bool := false
  /-- R426 flits sent in direction 0, in direction 1, whose credits have not returned; 0 -/
  spent0 : Nat := 0
  spent1 : Nat := 0
  /-- bundles, keyed 32 × dir + bundle; all absent -/
  bundles : SMap Bundle := []
  /-- R25 receivers of directions 0 and 1 -/
  rx0 : Rx := {}
  rx1 : Rx := {}
  /-- R25 replay buffers of the senders of directions 0 and 1: flits sent and not yet delivered, by sequence number; empty -/
  tx0 : SMap (BitVec 1024) := []
  tx1 : SMap (BitVec 1024) := []
deriving DecidableEq, Repr

/-- R41: a path between two dies being changed (keyed by link ID 0–3). -/
structure D2D where
  /-- links by ID; all without bundles -/
  links : SMap DLink := []
  /-- R41 CD–CD links whose path change is in progress; empty -/
  changing : List Nat := []
  /-- R38, R41 CD–CD links whose traffic takes the hub path; empty -/
  viaHub : List Nat := []
  /-- R53 links whose retrain was requested and has not ended; HUB.D2D_CTRL.RETRAIN reads 1 while there is one; empty -/
  retrainFor : List Nat := []
deriving DecidableEq, Repr

/-! ### Cores (chapters 04 to 07) -/

/-- R151: thread states. -/
inductive ThrSt where
  | empty | ready | parkedAccess | parkedPort | parkedArray | parkedFetch | parkedSync | faulted | resetting | held
deriving DecidableEq, Repr

/-- Register written by a load (R287, R292). -/
inductive Dst where
  | g (d : BitVec 5) (size : Nat) (sext : Bool)
  | v (d : BitVec 5) (size : Nat)
  | p (d : BitVec 5)
deriving DecidableEq, Repr

/-- An instruction held by its thread: opcode and fields. -/
structure Stash where
  opc : BitVec 8
  insn : Insn
deriving DecidableEq, Repr

/-- What a thread waits for, beside its port entries. -/
inductive Wait where
  | none
  /-- R301 SWAIT: counter, target, destination, timeout in µs (0: none) -/
  | sync (ctr : Nat) (target : Word) (gd : BitVec 5) (timeout : Nat)
  /-- R304 FENCE: FN bit, destination -/
  | fence (fn1 : Bool) (gd : BitVec 5)
  /-- R300 release SADD: the operation to send, by HGA or on this device -/
  | rel (p : Packet) (remote : Bool)
  /-- R306 QPOST: queue, entry, destination -/
  | qpost (q : Nat) (e : Entry) (gd : BitVec 5)
  /-- R162, R263 the read of array instruction `id` -/
  | mdrv (a id : Nat)
deriving DecidableEq, Repr

/-- Where the instruction at a thread's program counter comes from (R163, R286, R316). -/
inductive LineSt where
  /-- the instruction cache -/
  | cached
  /-- a fetch in flight that an ICINV overtook: it completes, and leaves nothing in the cache -/
  | overtaken
  /-- such a fetch has completed: its one instruction is at hand -/
  | atHand
deriving DecidableEq, Repr

/-- R152, R531: the work item a thread runs. -/
structure Work where
  queue : Nat
  seq : BitVec 32
  ctx : Nat
  leg : Bool
deriving DecidableEq, Repr

/-- One hardware thread (R151, R166). -/
structure Thread where
  /-- R151; EMPTY -/
  st : ThrSt := .empty
  /-- R166 program counter, 50 bits; R180 zeroed, DESIGN CHOICE 0 -/
  pc : BitVec 50 := 0
  /-- R166 g0–g31; DESIGN CHOICE 0 -/
  g : SMap Word := []
  /-- R166 v0–v31; DESIGN CHOICE 0 -/
  v : SMap VReg := []
  /-- R166 p0–p7; DESIGN CHOICE 0 -/
  p : SMap PReg := []
  /-- R285 rk; 0 -/
  rk : BitVec 32 := 0
  /-- R180 epoch; DESIGN CHOICE 0 -/
  epoch : BitVec 3 := 0
  /-- R284 REMERR code and count; DESIGN CHOICE 0 -/
  remCode : Code := 0
  remCount : BitVec 16 := 0
  /-- R152 the work item; none -/
  work : Option Work := none
  /-- R247 gd registers whose status word is not yet written: (register, array, instruction); empty -/
  awaiting : List (BitVec 5 × Nat × Nat) := []
  /-- R160, R161 the instruction of a thread in PARKED_PORT or PARKED_ARRAY; none -/
  stash : Option Stash := none
  /-- what the thread waits for; nothing -/
  wait : Wait := .none
  /-- R456 target devices blocked for posted operations, with the code; empty -/
  blocked : List (Nat × Code) := []
  /-- R603 fault code of the thread record; E_OK -/
  fault : Code := 0
  /-- R155 code with which the work item ends when the thread reset in progress finishes; E_OK -/
  resetCode : Code := 0
  /-- R282 pc of the jump that led here, for the fault record; none -/
  jumpFrom : Option (BitVec 50) := none
  /-- R282 the target of the branch or jump that led here is no 50-bit address: its fetch faults; false -/
  pcOut : Bool := false
  /-- R316; cached -/
  line : LineSt := .cached
deriving DecidableEq, Repr

/-- Entry kinds of the remote-access port (R160). -/
inductive EntryKind where
  /-- off-core or remote load -/
  | load (dst : Dst)
  /-- posted operation -/
  | posted
  /-- returning atomic -/
  | atomic (gd : BitVec 5)
  /-- MRACC operation of an array, or its TSYNC increment (R269) -/
  | mracc (a id : Nat) (tsync : Bool)
  /-- QPOST, whose status the hub returns (R306) -/
  | qpost
deriving DecidableEq, Repr

/-- One outstanding entry of the remote-access port (R160). -/
structure PEntry where
  /-- issuing thread; 16 and 17 stand for arrays A0 and A1 -/
  thr : Nat
  kind : EntryKind
  /-- R180 epoch of the thread at issue -/
  epoch : BitVec 3
  /-- R180 orphaned -/
  orphan : Bool
  /-- R159 the port has accepted the operation -/
  accepted : Bool
  /-- the operation has left the port (R455 may hold it) -/
  sent : Bool
  /-- issue order within the core -/
  ord : Nat
  /-- the operation goes by HGA (R292); an on-device access is described by the same packet fields -/
  remote : Bool
  pkt : Packet
  /-- R459 attempts made -/
  attempts : Nat
  /-- R465 an attempt has timed out -/
  timedOut : Bool
  /-- R533 the queue of the group whose reservation the entry uses -/
  group : Option Nat
  /-- R467 the work item: queue and sequence number -/
  queue : Nat
  wseq : BitVec 32
deriving DecidableEq, Repr

/-- Array instruction kinds. -/
inductive ArrKind where
  | mload | mstream | mdrain | mracc | mdrv
deriving DecidableEq, Repr

/-- The descriptor of an array instruction (R243, R244), as read when it entered the queue. -/
structure MxDesc where
  shape : Word
  src : Word
  scale : Word
  srcPitch : BitVec 32
  dstPitch : BitVec 32
  dst : Word
  sync : Word
  tsync : Word
  key : BitVec 32
  anchor : BitVec 16
  resv : BitVec 16
deriving DecidableEq, Repr

/-- One row in the pipeline: drain row or PASS row index, the row sums, and whether it feeds a PASS (R200, R253). -/
structure FedRow where
  row : Nat
  /-- feed cycle on the array clock (R200, R255) -/
  fedAt : Nat
  sums : List (BitVec 32)
deriving DecidableEq, Repr

/-- An instruction in an array queue (R161). -/
structure ArrInsn where
  id : Nat
  kind : ArrKind
  desc : MxDesc
  /-- issuing thread, its work item's epoch, destination register -/
  thr : Nat
  epoch : BitVec 3
  gd : BitVec 5
  /-- MDRV control word -/
  ctl : Word
  /-- started (R248) -/
  started : Bool
  /-- completion code settled so far -/
  code : Code
  /-- no further row is fed and no operation sent -/
  done : Bool
  /-- rows fed (MSTREAM), operations sent (MRACC) or load cycles done (MLOAD) -/
  fed : Nat
  /-- rows written or loaded -/
  rows : Nat
  /-- R247 NAN and INF -/
  nan : Bool
  inf : Bool
  /-- MRACC operations sent and not yet answered -/
  out : Nat
  /-- R269 the TSYNC increment: 0 not sent, 1 outstanding, 2 acknowledged -/
  tsync : Nat
  /-- rows fed and not yet written -/
  pipe : List FedRow
  /-- feed cycle of the last row, on the array clock (R201, R202) -/
  lastFeed : Nat
  /-- context, job and generation of the issuing thread (R268) -/
  ctx : Nat
  job : BitVec 24
  gen : BitVec 12
  /-- segment rows and columns clocked by the instruction (R204) -/
  segs : Nat × Nat
  /-- R250 slots of the scale plane read ahead: those of the rows from the next one on -/
  slots : List (List Byte)
deriving DecidableEq, Repr

/-- Loaded weights (R197, R249): the format, K, N, element codes keyed k × 256 + n, block scales and nudges keyed
b × 256 + n. -/
structure Weights where
  fmt : Nat := 0
  k : Nat := 0
  n : Nat := 0
  elems : SMap (BitVec 16) := []
  scales : SMap Byte := []
  nudges : SMap Byte := []
deriving DecidableEq, Repr

/-- Array lifecycle (R223, R227). -/
inductive ArrSt where
  | ready | reset | test | retired
deriving DecidableEq, Repr

/-- One matrix array. -/
structure MArray where
  /-- R227 STATE, less the image's exclusion and gating; ready -/
  st : ArrSt := .ready
  /-- R227 CAUSE; E_OK -/
  cause : Code := 0
  /-- R207 failed physical rows, ascending; empty -/
  map : List Nat := []
  /-- R218 suspect rows, oldest first, at most four; empty -/
  suspects : List Nat := []
  /-- R218 in-field failures to add at the array reset; empty -/
  failures : List Nat := []
  /-- R161 the queue, oldest first; empty -/
  queue : List ArrInsn := []
  /-- next instruction number; 0 -/
  nextId : Nat := 0
  /-- R199 weights-valid flag; 0 -/
  wvalid : Bool := false
  /-- R197 active weights; DESIGN CHOICE +0 -/
  active : Weights := {}
  /-- R197 a completed load waiting in the shadow; none -/
  shadow : Option Weights := none
  /-- R198, R274 the weights that the load in progress has written so far; none -/
  loading : Option Weights := none
  /-- R149 drain bank, FP32 codes keyed row × 256 + column; DESIGN CHOICE +0 -/
  bank : SMap (BitVec 32) := []
  /-- R215 rows marked bad; empty -/
  bad : List Nat := []
  /-- R216 drain-bank words of 32 B (32 × row + column ÷ 8) holding a single-bit error; empty -/
  eccSoft : List Nat := []
  /-- R216 drain-bank words holding an uncorrectable error; empty -/
  eccBad : List Nat := []
  /-- R222 rows written since the last reset and not yet read; empty -/
  unread : List Nat := []
  /-- R218 times (ms) of the last residue errors, newest first; empty -/
  errTimes : List Nat := []
  /-- R229 COUNT; 0 -/
  errCount : BitVec 8 := 0
  /-- R201 next feed cycle on the array clock; 0 -/
  feedAt : Nat := 0
  /-- R226 the 25-cycle window in which the last row was fed and the power step in force in it; none -/
  window : Option (Nat × Nat) := none
deriving DecidableEq, Repr

/-- A reply or acknowledgement on its way to a core's port (R159, R181). -/
structure Reply where
  entry : Nat
  data : List Byte
  poison : BitVec 16
  code : Code
deriving DecidableEq, Repr

/-- R156: the scheduler of a core. -/
structure Sched where
  /-- thread of each class that issued last: of the reserved ones; DESIGN CHOICE 15 -/
  lastRsv : Nat := 15
  /-- of the unreserved ones; DESIGN CHOICE 15 -/
  lastFree : Nat := 15
  /-- issues by reserved threads in a row, at most 2; 0 -/
  inRow : Nat := 0
  /-- issues and cycles so far: the model's own counter, to which the free value `Config.eligible` is applied; DESIGN CHOICE 0 -/
  slot : Nat := 0
deriving DecidableEq, Repr

/-- One core. -/
structure Core where
  /-- R151 threads 0–15 -/
  threads : SMap Thread := []
  /-- R149 arrays A0 and A1 -/
  a0 : MArray := {}
  a1 : MArray := {}
  /-- R168 core store bytes by offset; DESIGN CHOICE zero at power-on (R174 zeroes it) -/
  store : List Host.Cell := []
  /-- R172 words (32 B index) holding a single-bit error; empty -/
  storeSoft : List Nat := []
  /-- R172 words holding an uncorrectable error; empty -/
  storeBad : List Nat := []
  /-- R194 STORE_ERR.CORR, UNCORR, LAST_WORD; 0 -/
  errCorr : BitVec 16 := 0
  errUncorr : BitVec 16 := 0
  errWord : BitVec 20 := 0
  /-- R149, R163 instruction cache: 128 B line numbers held; empty -/
  icache : List Nat := []
  /-- R160 outstanding port entries by index 0–255; none -/
  port : SMap (Option PEntry) := []
  /-- issue order of the next port entry; 0 -/
  nextOrd : Nat := 0
  /-- R159 replies on their way to the port, oldest first; empty -/
  replies : List Reply := []
  /-- R193 CORE.FAULT VALID, OVERFLOW, THREAD, CODE and FAULT_PC; 0 -/
  fValid : Bool := false
  fOver : Bool := false
  fThread : Nat := 0
  fCode : Code := 0
  fPc : BitVec 50 := 0
  /-- R190 THR_RESET bits; 0 -/
  thrReset : BitVec 16 := 0
  /-- R191 core reset in progress (between steps 1 and 5 of R184); false -/
  resetting : Bool := false
  /-- R191 RESET.COUNT and LAST_CAUSE; 0 -/
  resetCount : BitVec 8 := 0
  resetCause : Code := 0
  /-- R229 RESIDUE_LOG bits 39:0 fields -/
  rlValid : Bool := false
  rlOver : Bool := false
  rlArray : Nat := 0
  rlLocated : Bool := false
  rlRow : Nat := 0
  rlCol : Nat := 0
  rlDrain : Nat := 0
  rlThread : Nat := 0
  rlEcc : Bool := false
  /-- R284 CYCLE; 0 -/
  cycle : Word := 0
  /-- R646 the core is in P1; false -/
  p1 : Bool := false
  /-- R566 compute queue started last, for the round-robin; 4,095 -/
  lastQueue : Nat := 4095
  /-- R268 whom the port granted last: 0 A0's MRACC, 1 A1's MRACC, 2 the threads; DESIGN CHOICE 2 -/
  granted : Nat := 2
deriving DecidableEq, Repr

/-! ### HBM (chapter 08) -/

/-- Who sent a base-die request. -/
inductive MSrc where
  /-- entry of a core's port -/
  | core (c entry : Nat)
  /-- remote packet, its response goes to the packet's source -/
  | remote (p : Packet)
  /-- the hub's copy engine: run, line of the read-out -/
  | copy (run line : Nat)
  /-- the hub itself, which waits for no answer (completion records) -/
  | hub
deriving DecidableEq, Repr

/-- R56: a far read that was merged into a request for its granule: who waits for it, its offset and length. -/
structure Rider where
  src : MSrc
  off : Nat
  len : Nat
deriving DecidableEq, Repr

/-- Request kinds (R321). -/
inductive MKind where
  | read | write | accum | fetchAdd | swap | compareSwap | readout
deriving DecidableEq, Repr

/-- A request in a channel queue (R321). `off` is the byte offset in the channel's exposed capacity. -/
structure MemReq where
  kind : MKind
  off : Nat
  size : Nat
  /-- byte mask of a WRITE, bit i for byte i of the request -/
  mask : Nat
  data : List Byte
  op1 : Word
  op2 : Word
  acc : Option AccPayload
  /-- R321, R336: bit j: word j of the data is poisoned -/
  poison : BitVec 16
  wmask : BitVec 16
  clear : Bool
  anchor : Int
  /-- R331 partition charged -/
  part : Option Nat
  src : MSrc
  /-- R321: the access that the request carries: its place in the request, its length -/
  lead : Nat
  len : Nat
  /-- R56: far reads merged into this one -/
  riders : List Rider
  /-- R594 tag -/
  tag : Nat
deriving DecidableEq, Repr

/-- R355 CHAN_STAT.STATE. -/
inductive ChanSt where
  | active | retraining | migrating | dead
deriving DecidableEq, Repr

/-- One logical channel. -/
structure Chan where
  /-- R355 STATE; active -/
  st : ChanSt := .active
  /-- R318 physical channel; the channel's own number, kept as an offset from it: 0 -/
  phys : Option Nat := none
  /-- R324 queue, oldest first; empty -/
  queue : List MemReq := []
  /-- R342 times (ms) of the corrected errors of the last hour; empty -/
  ceTimes : List Nat := []
  /-- R355 UE; 0 -/
  ue : BitVec 16 := 0
  /-- R345 consecutive failed retrains; 0 -/
  retrainFails : Nat := 0
  /-- R345 time (ms) of the last command watchdog expiry; none -/
  wdogAt : Option Nat := none
  /-- R341, R352 a retrain deferred by a hold or a migration; false -/
  deferred : Bool := false
  /-- R335, R345, R633 every word of the channel from this one on was poisoned at once: of those words the poison map then
  lists the ones written since; none -/
  lost : Option Nat := none
  /-- R332 partition served last without tokens, for the round-robin; 0 -/
  rr : Nat := 0
deriving DecidableEq, Repr

/-- R330: a token bucket. -/
structure Bucket where
  /-- R356 TOKENS; DESIGN CHOICE 0 at reset -/
  tokens : Nat := 0
  /-- R333 tokens minted, spent and discarded; 0 -/
  minted : Nat := 0
  spent : Nat := 0
  discarded : Nat := 0
  /-- R356 requests served without tokens; 0 -/
  borrowed : Nat := 0
deriving DecidableEq, Repr

/-- One HBM4 stack and its base die. -/
structure Stack where
  chans : SMap Chan := []
  /-- R318 physical index of the standby; 31 -/
  standby : Nat := 31
  /-- R127 STANDBY_FREE; 1 once trained -/
  standbyFree : Bool := true
  /-- R353 TEMP in °C; 0 -/
  temp : Int := 0
  /-- R347 steep level set by temperature, and the temperature (0.1 °C) at which it was entered -/
  steep : Nat := 0
  steepAt : Int := 0
  /-- R632 steep level 15 forced by a dip; false -/
  dipSteep : Bool := false
  /-- R636 steep level 15 for want of sensors; false -/
  blind : Bool := false
  /-- R353 IN_RESET; 0 -/
  inReset : Bool := false
  /-- R343 migration: logical channel and 32 B words copied; none -/
  migrating : Option (Nat × Nat) := none
  /-- R357 MIG_CTL.START: the channel whose migration it asked for; none (0) -/
  migStart : Option Nat := none
  /-- R330 buckets by partition -/
  buckets : SMap Bucket := []
  /-- R521 AXA_STAT counts -/
  accums : Nat := 0
  rangeSets : BitVec 16 := 0
  specialSets : BitVec 16 := 0
  /-- R594 tags of the WRITEs, ACCUMs and ATOMICs acknowledged, newest first, with the stored prior value; empty -/
  tags : List (Nat × Word) := []
  /-- R349, R643 self-refresh; false -/
  selfRefresh : Bool := false
  /-- R321 channels that a MGMT request has asked to be scrubbed and whose pass has not ended; empty -/
  scrubs : List Nat := []
  /-- R321 MGMT requests acknowledged to the hub; 0 -/
  mgmtAcks : Nat := 0
deriving DecidableEq, Repr

/-- The memory system. Bytes are keyed (32k + p) × 2^31 + offset in logical channel p of stack k. -/
structure Mem where
  /-- R317 HBM bytes; DESIGN CHOICE zero at power-on -/
  data : List Host.Cell := []
  /-- R335 poison map: 32 B word keys (byte key / 32) whose state differs from what `Chan.lost` of their channel says; empty -/
  poison : List Nat := []
  /-- R489 AXA flags by 16 B word key: bit 0 RANGE, bit 1 SPECIAL; 0 -/
  flags : SMap (BitVec 2) := []
  /-- stacks by site -/
  stks : SMap Stack := []
  /-- R358 MEM_RETRAIN.HOLD and HELD; 0 -/
  hold : BitVec 16 := 0
  held : Bool := false
  /-- next request tag; 0 -/
  nextTag : Nat := 0
deriving DecidableEq, Repr

/-! ### Optical ports, fabric (chapters 09 and 10) -/

/-- R366: a laser input. -/
inductive InputSt where
  | ok | low | lost | recalibrating
deriving DecidableEq, Repr

/-- A fibre pair. -/
structure Fibre where
  /-- R400 FIB_UP; 0 -/
  up : Bool := false
  /-- R378 training; false -/
  training : Bool := false
  /-- R367 own transmitter out of service by laser loss; false -/
  txLost : Bool := false
  /-- R368 marked laser-lost, or withdrawn, by the neighbour; false -/
  rxLost : Bool := false
  rxWithdrawn : Bool := false
  /-- R387 heartbeat watchdog expired and no flit since; false -/
  silent : Bool := false
  /-- R377 neighbour traffic moved off by a kind 5 test; false -/
  testing : Bool := false
  /-- R401 slots per direction: 0 transmit, 1 receive; 0 -/
  active0 : BitVec 16 := 0
  active1 : BitVec 16 := 0
  /-- R401 THROUGH; 0 -/
  through0 : BitVec 16 := 0
  through1 : BitVec 16 := 0
  /-- R401 FAILED; 0 -/
  failed0 : BitVec 16 := 0
  failed1 : BitVec 16 := 0
  /-- R401 FEC_UNCORR, SWAPS; 0 -/
  uncorr0 : BitVec 8 := 0
  uncorr1 : BitVec 8 := 0
  swaps0 : BitVec 8 := 0
  swaps1 : BitVec 8 := 0
  /-- R379 last IDENT received; none -/
  ident : Option Ident := none
  /-- R374 probe adjustments made; 0 -/
  probes : Nat := 0
  /-- R387 idle control flits sent; 0 -/
  idles : Nat := 0
deriving DecidableEq, Repr

/-- A photonic edge engine. -/
structure Engine where
  /-- R372 calibrated; false -/
  calibrated : Bool := false
  /-- R373 fenced off; false -/
  fenced : Bool := false
  /-- R388 link reset in progress; false -/
  inReset : Bool := false
  /-- R388 withdrawn; false -/
  withdrawn : Bool := false
  /-- R387 link fault declared; false -/
  linkFault : Bool := false
  /-- R368 qualification window running; false -/
  window : Bool := false
  /-- R366 inputs A and B; ok -/
  inA : InputSt := .ok
  inB : InputSt := .ok
  /-- R366 calibrated levels of inputs A and B, in 0.1 dBm; DESIGN CHOICE 0 before the calibration -/
  calA : Int := 0
  calB : Int := 0
  /-- R400 PWR_A, PWR_B; 0 -/
  pwrA : BitVec 8 := 0
  pwrB : BitVec 8 := 0
  /-- R400 CAUSE; E_OK -/
  cause : Code := 0
  /-- R406, R409 passing through light; false -/
  passing : Bool := false
  /-- R384, R414 through rings detuned; false -/
  detuned : Bool := false
  /-- R391, R641 transmitters off; false -/
  txOff : Bool := false
  fibs : SMap Fibre := []
deriving DecidableEq, Repr

/-- R395 PORT_STAT.STATE. -/
inductive PortSt where
  | unused | training | identified | up | quarantined | mismatch | noNeighbour | linkFault | withdrawn | absent
deriving DecidableEq, Repr

/-- A fabric port. -/
structure FPort where
  /-- R395 STATE; unused (encoding 0) -/
  st : PortSt := .unused
  /-- R395 VERSION; 0 -/
  version : BitVec 8 := 0
  /-- R395 CAUSE; E_OK -/
  cause : Code := 0
  /-- R395, R396 last IDENT; none -/
  nbr : Option Ident := none
  /-- R386 expected serial set by PORT_EXPECT, pending discovery; none -/
  expect : Option (BitVec 64) := none
  /-- R386 expected serial in force in place of the plan's; none -/
  expectNow : Option (BitVec 64) := none
  /-- R397 LOCATE; 0 -/
  locate : Bool := false
  /-- R397 withdrawn by WITHDRAW; false -/
  heldBySw : Bool := false
  /-- R397 RETRAIN, REDISCOVER, RESTORE bits; 0 -/
  retrainBit : Bool := false
  rediscoverBit : Bool := false
  restoreBit : Bool := false
  /-- R385, R386 a discovery whose comparison has not been made; false -/
  discover : Bool := false
  /-- R383 compared before the neighbour's image had loaded; false -/
  early : Bool := false
  /-- R369 no engine of the port transmits, for want of laser light; false -/
  dark : Bool := false
  /-- R393 retrain deferred by a laser loss; false -/
  retrainDeferred : Bool := false
  /-- R365 receiver -/
  rx : Rx := {}
  /-- R365 replay buffer: packets sent whose flits the neighbour has not acknowledged, oldest first; empty -/
  unacked : List Packet := []
  /-- R37, R427 the port's own receiver has yet to return its quota after a retrain; false -/
  creditHeld : Bool := false
  /-- R37, R427 the neighbour's receiver has yet to return its quota; false -/
  nbrHeld : Bool := false
deriving DecidableEq, Repr

/-- R435 CKT_STAT.STATE. -/
inductive CktSt where
  | notInPlan | training | up | broken | returning
deriving DecidableEq, Repr

/-- An express circuit (R407), selected by bits 3:0 of CKT_SEL (R435). -/
structure Circuit where
  st : CktSt := .notInPlan
  /-- R435 FAR_DEV, WIDTH; 0 -/
  far : Nat := 0
  width : Nat := 0
  /-- R435 BREAKS, CAUSE; 0 -/
  breaks : BitVec 16 := 0
  cause : Code := 0
  /-- R416 sequence number of the next flit; 0 -/
  seq : Nat := 0
  /-- R416 sequence number that the far end of the circuit expects next; 0 -/
  expect : Nat := 0
  /-- R416 packets sent, on the circuit or in its place, and not acknowledged by the far end, oldest first; empty -/
  unacked : List (Nat × Packet) := []
deriving DecidableEq, Repr

/-- R425, R426: credits of one VC and class of a link that the sender does not hold: of its 8 reserved ones, and of the
link's shared pool. -/
structure Credits where
  /-- 0 -/
  reserved : Nat := 0
  /-- 0 -/
  shared : Nat := 0
deriving DecidableEq, Repr

/-- The fabric. -/
structure Fabric where
  engs : SMap Engine := []
  ports : SMap FPort := []
  ckts : SMap Circuit := []
  /-- R419 avoid list: (device, torus port); empty -/
  avoid : List (Nat × Nat) := []
  /-- R425 credits spent, keyed link × 96 + VC × 16 + class; none -/
  credits : SMap Credits := []
  /-- R421 packets held at an unusable segment, oldest first; empty -/
  held : List Packet := []
  /-- R422 packets that wait for credit of their segment, oldest first; empty -/
  waiting : List Packet := []
  /-- R437 FAB_STAT.NO_ROUTE; 0 -/
  noRoute : BitVec 16 := 0
  /-- R437 AUDIT_STAT; 0 -/
  audits : BitVec 32 := 0
  mismatches : BitVec 16 := 0
  auditKind : Nat := 0
  auditIndex : Nat := 0
  /-- R428 audits in progress; empty -/
  auditing : List LinkRef := []
  /-- R428 the millisecond of the clock in which this end last sent AUDIT, by link; empty -/
  audited : List (LinkRef × Nat) := []
  /-- R436 ROUTE_QUERY.DEST and ROUTE_RESULT; 0 -/
  query : BitVec 14 := 0
  result : Word := 0
  /-- R414 BREAK sent, waiting to detune; false -/
  detuning : Bool := false
  /-- R455 routes in use, by (core, thread, device): the route word; empty -/
  routes : List (Nat × Nat × Nat × BitVec 39) := []
deriving DecidableEq, Repr

/-! ### Remote access, copies, accumulation, collectives (chapters 11 to 13) -/

/-- R441 context states. -/
inductive CtxSt where
  | free | opened | tearing | closed
deriving DecidableEq, Repr

/-- A context (R441) and its error record (R485). -/
structure Ctx where
  st : CtxSt := .free
  part : Nat := 0
  job : BitVec 24 := 0
  gen : BitVec 12 := 0
  seq : BitVec 32 := 0
  /-- R485 CTX_ERR; 0 -/
  eValid : Bool := false
  eOver : Bool := false
  eCode : Code := 0
  eTarget : Nat := 0
  /-- R471 issuers waiting for the teardown, with their result; empty -/
  waiting : List (Issuer × Nat) := []
  /-- R473 cores that ran threads of the context; 0 -/
  ranOn : BitVec 32 := 0
deriving DecidableEq, Repr

/-- A region (R446). -/
structure Region where
  base : Nat
  size : Nat
  key : BitVec 32
  perm : BitVec 4
  part : Nat
  ctx : Nat
  gen : BitVec 12
deriving DecidableEq, Repr

/-- A deduplication entry (R462). -/
structure Dedup where
  srcDev : Nat
  ctx : Nat
  seq : BitVec 32
  job : BitVec 24
  /-- prior value once applied; none while pending -/
  prior : Option Word
  /-- retries waiting on the pending entry -/
  waiters : List Packet
deriving DecidableEq, Repr

/-- Remote access state. -/
structure Ra where
  ctxs : SMap Ctx := []
  regions : SMap (Option Region) := []
  dedup : List Dedup := []
  /-- R484 DEDUP_STAT PEAK, FULL, HITS; 0 -/
  peak : Nat := 0
  full : BitVec 16 := 0
  hits : BitVec 16 := 0
  /-- R483 RA_STAT; 0 -/
  genDrops : BitVec 16 := 0
  nacks : BitVec 16 := 0
  timeouts : BitVec 16 := 0
  indet : BitVec 16 := 0
  /-- R469 accepted requests waiting at the ingress for a core store, a counter or a full channel, with who is to be
  answered; oldest first; empty -/
  ingress : List (MSrc × Packet) := []
  /-- R449 region commands begun, with the old entry whose accepted accesses they wait for; empty -/
  regionCmds : List (Issuer × Region) := []
  /-- R475 targets reported lost within the last 1 ms: (device, ms); empty -/
  lost : List (Nat × Nat) := []
deriving DecidableEq, Repr

/-- A running copy or read-out entry (R477, R513). -/
structure CopyRun where
  queue : Nat
  seq : BitVec 32
  readout : Bool
  entry : Entry
  ctx : Nat
  part : Nat
  /-- bytes (COPY) or words (READOUT) issued so far -/
  issued : Nat
  /-- bytes or words done -/
  finished : Nat
  /-- R477 outstanding pieces: (slot 0–255, and its upper twin for the second part of a line; offset or line, read data awaited) -/
  out : List (Nat × Nat × Bool)
  code : Code
  stopped : Bool
  /-- R516 summary: first flagged word, bits 24–28, count flagged -/
  first : Option Nat
  sum : BitVec 5
  flagged : Nat
deriving DecidableEq, Repr

/-- The copy engine (R477, R566). -/
structure Copy where
  runs : SMap (Option CopyRun) := []
  /-- R477 run served last, for the round-robin; 0 -/
  last : Nat := 0
deriving DecidableEq, Repr

/-- A combining entry (R502–R506). -/
structure Comb where
  /-- flushed and awaiting a response -/
  awaiting : Bool
  dstDev : Nat
  line : Nat
  job : BitVec 24
  gen : BitVec 12
  key : BitVec 32
  anchor : BitVec 10
  mask : BitVec 16
  flags : BitVec 32
  /-- sums by word -/
  sums : SMap (BitVec 128)
  /-- packets absorbed, oldest first -/
  pkts : List Packet
deriving DecidableEq, Repr

/-- Combining state. -/
structure Axa where
  comb : SMap (Option Comb) := []
  /-- R520 COMB_STAT ABSORBED, STALE; 0 -/
  absorbed : Nat := 0
  stale : BitVec 8 := 0
  /-- R507 no entry opens; false -/
  closed : Bool := false
deriving DecidableEq, Repr

/-- R552 GRP_STAT.STATE, but 0. -/
inductive GrpSt where
  | idle | running | aborted
deriving DecidableEq, Repr

/-- A group record (R523), keyed by its queue. -/
structure Group where
  queue : Nat
  group : Nat
  core : Nat
  part : Nat
  ctx : Nat
  rank : Nat
  p : Nat
  mtab : Word
  cbase : Nat
  ccount : Nat
  gcb : Word
  credits : Nat
  timeout : Nat
  st : GrpSt
  inst : Word
  /-- R531 the entry at the head for which INST was raised -/
  head : Option (BitVec 32)
  /-- leg being dispatched or run; legs of the current entry -/
  leg : Nat
  legs : Nat
  legRunning : Bool
  cause : Code
  tokensIn : BitVec 16
  /-- generation that abort tokens carry (R546) -/
  gen : BitVec 12
  /-- R528 issuers waiting for a GROUP_DESTROY -/
  destroying : Option (List Issuer)
  /-- an abort raised and not yet acted on, with its cause -/
  raised : Option Code
deriving DecidableEq, Repr

/-- Collectives. -/
structure Coll where
  groups : SMap (Option Group) := []
  /-- R526 ranges of groups destroyed within 10 ms: (base, count, ms); empty -/
  freed : List (Nat × Nat × Nat) := []
  /-- R553 ABORTS, TOKENS_REFUSED; 0 -/
  aborts : BitVec 16 := 0
  refused : BitVec 16 := 0
  /-- R532 group dispatched last, for the round-robin; 0 -/
  last : Nat := 0
  /-- R302 values that sync counters took during the command in progress; empty between commands -/
  seen : List (Nat × Word) := []
deriving DecidableEq, Repr

/-! ### Host interface (chapter 14) -/

/-- A queue entry (R563, R567). -/
structure QEntry where
  seq : BitVec 32
  e : Entry
  started : Bool
deriving DecidableEq, Repr

/-- A hardware queue. -/
structure Queue where
  entries : List QEntry := []
  /-- R563 STATUS.SEQ; 0 -/
  seq : BitVec 32 := 0
  /-- R563 STATUS.LAST per port; E_OK -/
  last0 : Code := 0
  last1 : Code := 0
  /-- R563 STAGE; DESIGN CHOICE 0 -/
  stage : Entry := 0
  /-- R134, R563 entries held by a reload: those at or after this index are held doorbells; none -/
  heldFrom : Option Nat := none
deriving DecidableEq, Repr

/-- An event ring (R576, R581). -/
structure Ring where
  base : Word := 0
  log2 : Nat := 0
  prod : BitVec 16 := 0
  cons : BitVec 16 := 0
  drops : BitVec 16 := 0
deriving DecidableEq, Repr

/-- What the device sends out. -/
inductive Out where
  /-- a packet of the device to itself, which does not enter the fabric -/
  | packet (p : Packet)
  /-- a packet onto a segment: a port or a circuit launched here -/
  | sent (link : LinkRef) (p : Packet)
  /-- DMA write into host memory through a port -/
  | hostWrite (port : Nat) (addr : Word) (data : List Byte)
  /-- DMA fetch from host memory -/
  | hostFetch (port : Nat) (addr : Word) (len : Nat)
  /-- MSI-X message -/
  | msix (port vec : Nat)
  /-- answer to a configuration request: retry status, or success (R65) -/
  | config (port : Nat) (ok : Bool)
  /-- data returned to a BAR read (R704) -/
  | barRead (port : Nat) (data : List Byte)
  /-- SMBus block read data (R693) -/
  | smbus (data : Word)
  /-- PMBus VOUT_COMMAND in mV to a rail's regulator (R688) -/
  | vout (rail mv : Nat)
  /-- control flits: LASER_NOTICE, WITHDRAW, IDENT, AUDIT, BREAK, idle, replay request -/
  | laserNotice (port eng : Nat) (fibres : BitVec 8)
  | withdraw (port : Nat) (engines : BitVec 3)
  | ident (port eng fib : Nat) (m : Ident)
  | audit (link : LinkRef) (own : List (Nat × Nat))
  | breakNotice (ckt : Nat)
  /-- BREAK for a circuit that this device carries, to both its ends: launching and far device, level 2, direction −,
  dimension Y -/
  | breakCarried (dev far : Nat) (lvl2 minus y : Bool)
  | idleFlit (eng fib : Nat)
  | replay (link : LinkRef) (dir seq : Nat)
  /-- R365: a packet whose flits a port replays -/
  | resent (port : Nat) (p : Packet)
  | credit (link : LinkRef) (vc : Nat) (cls : BitVec 4) (n : Nat)
  /-- R37, R427: a receiver returns its full quota -/
  | quota (link : LinkRef) (dir : Nat)
  | lambdaSwap (old new : LambdaRef)
  /-- a management-channel packet (R574), and the result returned for one -/
  | mgmt (dst : Nat) (entry : Entry)
  | mgmtResult (dst : Nat) (code : Code) (result : Word)
  /-- JTAG IDCODE shifted out (R694) -/
  | tdo (w : BitVec 32)
deriving DecidableEq, Repr

/-- Boot mailbox registers of one port (R561). -/
structure Mbox where
  kind : Nat := 0
  go : Bool := false
  busy : Bool := false
  code : Code := 0
deriving DecidableEq, Repr

/-- A PCI Express port. -/
structure HPort where
  /-- R580 HOST_STAT; 0 -/
  up : Bool := false
  speed : Nat := 0
  width : Nat := 0
  l0p : Nat := 0
  flit : Bool := false
  d3hot : Bool := false
  cplLost : BitVec 16 := 0
  flrs : BitVec 16 := 0
  /-- R579 vectors unmasked; every vector masked at reset (R573) -/
  unmasked : List Nat := []
  /-- R579 pending vectors; empty -/
  pendingVec : List Nat := []
  /-- R572 host writes waiting for the link, oldest first; empty -/
  waiting : List Out := []
  /-- R572 E_HOST_CPL_LOST logged in this episode; false -/
  lostLogged : Bool := false
  mbox : Mbox := {}
deriving DecidableEq, Repr

/-- Host interface. -/
structure Hosts where
  p0 : HPort := {}
  p1 : HPort := {}
  queues : SMap Queue := []
  rings : SMap Ring := []
deriving DecidableEq, Repr

/-! ### Power, thermal, clocks (chapter 16) -/

/-- A rail (R631, R660). -/
structure Rail where
  /-- R660 VOLT in mV, CURR in A from the last round; 0 -/
  volt : Nat := 0
  curr : Nat := 0
  /-- R660 MIN: the lowest reading; none before the first one, which reads as the reset value 0 -/
  low : Option Nat := none
  /-- R660 DIPS; 0 -/
  dips : Nat := 0
  /-- R632 below warning and not yet released; false -/
  dipped : Bool := false
  /-- R632 the warning still to be logged at the next round; false -/
  toLog : Bool := false
  /-- R688 voltage commanded, in mV; the power-up default of the regulator -/
  set : Nat := 0
  /-- R689 regulator silent; false -/
  noAck : Bool := false
deriving DecidableEq, Repr

/-- Per-die thermal state. -/
structure DieTherm where
  /-- R626 TSTEP; 0 -/
  tstep : Nat := 0
  /-- R629 floor of the current limit; 0 -/
  curFloor : Nat := 0
  /-- R638 rounds below 93 °C, rounds at 15 and 95 °C, rounds below 90 °C; 0 -/
  cool : Nat := 0
  hot : Nat := 0
  cold : Nat := 0
  /-- R638 in a warning episode; false -/
  warned : Bool := false
  /-- R638 forced to EFFICIENT by temperature; false -/
  forced : Bool := false
  /-- R636 TSTEP 15 for want of sensors; false -/
  blind : Bool := false
  /-- R689 the mode whose clock the die keeps while its regulator is silent; none -/
  clkHeld : Option (BitVec 2) := none
deriving DecidableEq, Repr

/-- Power, thermal and clocks. -/
structure Power where
  /-- R656 MODE; 0 -/
  mode : BitVec 2 := 0
  /-- R624, R656 mode of the last completed change; R656 gives reset 0 -/
  modeNow : BitVec 2 := 0
  /-- R656 mode change in progress: the mode requested; none -/
  change : Option (BitVec 2) := none
  /-- R625 the last write made during a change; none -/
  later : Option (BitVec 2) := none
  /-- R628 PSTEP; 0 -/
  pstep : Nat := 0
  /-- R628 rounds at or below 0.96 L; R630 rounds at 15 over L; R630 rounds at or below 0.90 L; 0 -/
  lowRounds : Nat := 0
  overRounds : Nat := 0
  easyRounds : Nat := 0
  /-- R630 every die forced to EFFICIENT by power; false -/
  forced : Bool := false
  /-- R630 the EFFICIENT episode has been logged; false -/
  forceLogged : Bool := false
  /-- R656 POWER: P of the last round in W; 0 -/
  p : Nat := 0
  dies : SMap DieTherm := []
  rails : SMap Rail := []
  /-- R659 sensor readings of the last round in 0.1 °C, R636 consecutive implausible rounds: (unit, sensor, reading, count) -/
  sensors : List (TUnit × Nat × Int × Nat) := []
  /-- R636 sensors excluded; empty -/
  excluded : List (TUnit × Nat) := []
  /-- R640 consecutive rounds a pair of regions differed by more than 30 °C; empty -/
  deltas : List (TUnit × TUnit × Nat) := []
  /-- R640 pairs (hotter, colder) in an episode logged and not yet ended; empty -/
  deltaOn : List (TUnit × TUnit) := []
  /-- R637 hub and engines warned; empty -/
  warned : List TUnit := []
  /-- R645 LAT_TOL; 0 -/
  lt0 : BitVec 20 := 0
  lt1 : BitVec 20 := 0
  /-- R643 state in force, 0–4; 0 -/
  lat : Nat := 0
  /-- R647 a wake has been asked for; false -/
  waking : Bool := false
  /-- R661 references present; R652 holdover -/
  fabRef : Bool := true
  ref0 : Bool := true
  ref1 : Bool := true
  holdover : Bool := false
  holdMs : BitVec 16 := 0
  /-- R641 latched shutdown; false -/
  shutdown : Bool := false
  /-- R653, R654 correction of the internal oscillator in force beside its ROM default, in ppm; 0 -/
  osc : Int := 0
deriving DecidableEq, Repr

/-! ### Recovery (chapter 15) -/

/-- A reset in progress (R587): domain 3 compute die, 4 stack, 5 link, 6 device; unit; cause. -/
structure ActiveReset where
  domain : Nat
  unit : Nat
  cause : Code
  byCtl : Bool
deriving DecidableEq, Repr

/-- A capture in the crash capsule (R602): its offset and its bytes as 64-bit words. -/
structure Capture where
  off : Nat
  seq : BitVec 32
  words : List Word
deriving DecidableEq, Repr

/-- The crash capsule (R600, R601, R618). -/
structure Capsule where
  /-- HALVES: 0 none; 0 -/
  halves : Nat := 0
  head : Nat := 0x1000
  nextSeq : BitVec 32 := 1
  oldest : BitVec 32 := 1
  epoch : BitVec 16 := 0
  /-- R618 TRUNC; 0 -/
  trunc : BitVec 16 := 0
  captures : List Capture := []
deriving DecidableEq, Repr

/-- An entry of the hub error log (R603): code, unit, microseconds. -/
structure LogEntry where
  code : Code
  unit : Nat
  usec : Nat
deriving DecidableEq, Repr

/-- Recovery state. -/
structure Recov where
  /-- R615 RESET_CTL.DOMAIN, UNIT are in `csr`; GO; 0 -/
  go : Bool := false
  active : List ActiveReset := []
  /-- R595 a device reset waits for the combining responses of its step 3; false -/
  flushing : Bool := false
  /-- R616 RESET_STAT; 0 -/
  lastDomain : Nat := 0
  lastUnit : Nat := 0
  lastCause : Code := 0
  escalations : BitVec 8 := 0
  /-- R589 times (ms) of device resets, newest first; empty -/
  devTimes : List Nat := []
  /-- R617 SUPV_HB COUNT, HALT; 0 -/
  hbCount : BitVec 32 := 0
  hbHalt : Bool := false
  /-- R584 hub firmware hung; false -/
  hung : Bool := false
  capsule : Capsule := {}
  /-- R603 hub error log, newest first; empty -/
  log : List LogEntry := []
  /-- R391 drain: phase, forced, blocked, code, clock at the press; 0 -/
  phase : Nat := 0
  forced : Bool := false
  blocked : Bool := false
  drainCode : Code := 0
  /-- R399 RELEASE, CANCEL bits; 0 -/
  releaseBit : Bool := false
  cancelBit : Bool := false
  pressMs : Nat := 0
  /-- R390 LEDs show safe to remove; false -/
  safe : Bool := false
deriving DecidableEq, Repr

/-! ### Event counters, sideband (chapters 17 and 18) -/

/-- One event counter (R667, R669). -/
structure Ctr where
  sel : Word := 0
  value : BitVec 48 := 0
  wraps : BitVec 16 := 0
  snap : BitVec 48 := 0
deriving DecidableEq, Repr

/-- One bank (R665, R666). -/
structure Bank where
  ovf : BitVec 32 := 0
  resetSeen : Bool := false
  freeze : Bool := false
  ctrs : SMap Ctr := []
deriving DecidableEq, Repr

/-- Event counters. -/
structure Evc where
  banks : SMap Bank := []
  /-- R678 SNAP_CTL ARM, SNAP_STAT.SEQ, SNAP_TIME; 0 -/
  arm : Bool := false
  seq : BitVec 32 := 0
  time : Word := 0
deriving DecidableEq, Repr

/-- Sideband (R692–R694). -/
structure Side where
  /-- R692 SUPV_N low; false -/
  supvLow : Bool := false
  /-- R693 offset for READ_CSR; 0 -/
  offset : BitVec 32 := 0
  /-- R693 shadows of SUPV_HB, BOOT_STAT and TEMP, kept in the VAUX domain; 0 -/
  shHb : Word := 0
  shBoot : Word := 0
  shTemp : Word := 0
  /-- R694 instruction loaded in the test access port; IDCODE (IEEE 1149.1) -/
  ir : JtagIr := .idcode
  /-- R641 THERMTRIP_N asserted; false -/
  thermtrip : Bool := false
deriving DecidableEq, Repr

/-! ### Outcomes and the state -/

/-- Reasons to stop with a fault. No meaning of this model raises one: every error the manual describes is an
error code, a refusal to a requester or a thread fault inside the device, and is part of the next state. -/
inductive Fault where
  /-- raised by nobody (safe) -/
  | unraised
deriving DecidableEq, Repr

/-- Reasons to refuse. -/
inductive Refusal where
  /-- raised by the arm of a command that has no meaning yet (safe) -/
  | notModelled (mnemonic : String)
deriving DecidableEq, Repr

/-- The package, without the queue of waiting commands. -/
structure Dev where
  /-- milliseconds counted by housekeeping rounds (R635); the model's clock; 0 -/
  clock : Nat := 0
  boot : Boot := {}
  tests : Tests := {}
  img : Img := {}
  d2d : D2D := {}
  cores : SMap Core := []
  /-- R156 the scheduler of each core -/
  sched : SMap Sched := []
  /-- R299 sync counters; 0 (R599) -/
  sync : SMap Word := []
  mem : Mem := {}
  fab : Fabric := {}
  ra : Ra := {}
  copy : Copy := {}
  axa : Axa := {}
  coll : Coll := {}
  host : Hosts := {}
  pow : Power := {}
  rcv : Recov := {}
  evc : Evc := {}
  side : Side := {}
  /-- plain registers written by CSR_WRITE, keyed block × 2^20 + offset; the reset values of their rules -/
  csr : SMap Word := []
  /-- everything the device has sent out, oldest first; empty -/
  outbox : List Out := []
  /-- the model's own counter of free values (log entry 3); DESIGN CHOICE 0 -/
  free : Nat := 0
deriving DecidableEq, Repr

/-- The state: the package and the commands waiting for it. -/
structure State where
  dev : Dev := {}
  /-- commands waiting, first in, first out; empty -/
  pending : List Instr := []
deriving DecidableEq, Repr

/-- The package right after reset, before power-good: every field at the value its rule gives, or at the value named
in log entry 2. -/
def State.reset : State := {}

end Sys2Proof.Machine
end

