-- ==== Sys2Proof/Machine/Ops.lean ====
section
/-! DEFINITION. The named operations over the state: reading and changing its parts, what the image and the board
record say, the error log, event rings, host writes, completions, sync counters, event counters. -/

namespace Sys2Proof.Machine

/-! ### Parts of the state -/

def Dev.core (s : Dev) (c : Nat) : Core := look {} s.cores c
def Dev.setCore (s : Dev) (c : Nat) (v : Core) : Dev := { s with cores := put {} s.cores c v }
def Dev.modCore (s : Dev) (c : Nat) (f : Core → Core) : Dev := s.setCore c (f (s.core c))
def Dev.thr (s : Dev) (x : Tid) : Thread := look {} (s.core x.core).threads x.thr
def Dev.setThr (s : Dev) (x : Tid) (t : Thread) : Dev :=
  s.modCore x.core fun c => { c with threads := put {} c.threads x.thr t }
def Dev.modThr (s : Dev) (x : Tid) (f : Thread → Thread) : Dev := s.setThr x (f (s.thr x))
/-- Array `a` (0 or 1) of core `c`. -/
def Dev.arr (s : Dev) (c a : Nat) : MArray := if a = 0 then (s.core c).a0 else (s.core c).a1
def Dev.setArr (s : Dev) (c a : Nat) (v : MArray) : Dev :=
  s.modCore c fun k => if a = 0 then { k with a0 := v } else { k with a1 := v }
def Dev.modArr (s : Dev) (c a : Nat) (f : MArray → MArray) : Dev := s.setArr c a (f (s.arr c a))
def Dev.stk (s : Dev) (k : Nat) : Stack := look {} s.mem.stks k
def Dev.modStk (s : Dev) (k : Nat) (f : Stack → Stack) : Dev :=
  { s with mem := { s.mem with stks := put {} s.mem.stks k (f (s.stk k)) } }
def Dev.chan (s : Dev) (k p : Nat) : Chan := look {} (s.stk k).chans p
def Dev.modChan (s : Dev) (k p : Nat) (f : Chan → Chan) : Dev :=
  s.modStk k fun b => { b with chans := put {} b.chans p (f (look {} b.chans p)) }
def Dev.bucket (s : Dev) (k n : Nat) : Bucket := look {} (s.stk k).buckets n
def Dev.modBucket (s : Dev) (k n : Nat) (f : Bucket → Bucket) : Dev :=
  s.modStk k fun b => { b with buckets := put {} b.buckets n (f (look {} b.buckets n)) }
def Dev.eng (s : Dev) (e : Nat) : Engine := look {} s.fab.engs e
def Dev.modEng (s : Dev) (e : Nat) (f : Engine → Engine) : Dev :=
  { s with fab := { s.fab with engs := put {} s.fab.engs e (f (s.eng e)) } }
def Dev.fib (s : Dev) (e f : Nat) : Fibre := look {} (s.eng e).fibs f
def Dev.modFib (s : Dev) (e f : Nat) (g : Fibre → Fibre) : Dev :=
  s.modEng e fun n => { n with fibs := put {} n.fibs f (g (look {} n.fibs f)) }
def Dev.fport (s : Dev) (p : Nat) : FPort := look {} s.fab.ports p
def Dev.modFport (s : Dev) (p : Nat) (f : FPort → FPort) : Dev :=
  { s with fab := { s.fab with ports := put {} s.fab.ports p (f (s.fport p)) } }
def Dev.ckt (s : Dev) (c : Nat) : Circuit := look {} s.fab.ckts c
def Dev.modCkt (s : Dev) (c : Nat) (f : Circuit → Circuit) : Dev :=
  { s with fab := { s.fab with ckts := put {} s.fab.ckts c (f (s.ckt c)) } }
def Dev.ctx (s : Dev) (n : Nat) : Ctx := look {} s.ra.ctxs n
def Dev.modCtx (s : Dev) (n : Nat) (f : Ctx → Ctx) : Dev :=
  { s with ra := { s.ra with ctxs := put {} s.ra.ctxs n (f (s.ctx n)) } }
def Dev.region (s : Dev) (n : Nat) : Option Region := look none s.ra.regions n
def Dev.setRegion (s : Dev) (n : Nat) (r : Option Region) : Dev :=
  { s with ra := { s.ra with regions := put none s.ra.regions n r } }
def Dev.crun (s : Dev) (n : Nat) : Option CopyRun := look none s.copy.runs n
def Dev.setRun (s : Dev) (n : Nat) (r : Option CopyRun) : Dev :=
  { s with copy := { s.copy with runs := put none s.copy.runs n r } }
def Dev.comb (s : Dev) (n : Nat) : Option Comb := look none s.axa.comb n
def Dev.setComb (s : Dev) (n : Nat) (r : Option Comb) : Dev :=
  { s with axa := { s.axa with comb := put none s.axa.comb n r } }
/-- The group record of communication queue `q`. -/
def Dev.group (s : Dev) (q : Nat) : Option Group := look none s.coll.groups q
def Dev.setGroup (s : Dev) (q : Nat) (g : Option Group) : Dev :=
  { s with coll := { s.coll with groups := put none s.coll.groups q g } }
def Dev.modGroup (s : Dev) (q : Nat) (f : Group → Group) : Dev := s.setGroup q ((s.group q).map f)
def Dev.queue (s : Dev) (q : Nat) : Queue := look {} s.host.queues q
def Dev.modQueue (s : Dev) (q : Nat) (f : Queue → Queue) : Dev :=
  { s with host := { s.host with queues := put {} s.host.queues q (f (s.queue q)) } }
def Dev.ring (s : Dev) (n : Nat) : Ring := look {} s.host.rings n
def Dev.modRing (s : Dev) (n : Nat) (f : Ring → Ring) : Dev :=
  { s with host := { s.host with rings := put {} s.host.rings n (f (s.ring n)) } }
def Dev.hport (s : Dev) (p : Nat) : HPort := if p = 0 then s.host.p0 else s.host.p1
def Dev.modHport (s : Dev) (p : Nat) (f : HPort → HPort) : Dev :=
  { s with host := if p = 0 then { s.host with p0 := f s.host.p0 } else { s.host with p1 := f s.host.p1 } }
def Dev.rail (s : Dev) (r : Nat) : Rail := look {} s.pow.rails r
def Dev.modRail (s : Dev) (r : Nat) (f : Rail → Rail) : Dev :=
  { s with pow := { s.pow with rails := put {} s.pow.rails r (f (s.rail r)) } }
def Dev.dieT (s : Dev) (n : Nat) : DieTherm := look {} s.pow.dies n
def Dev.modDieT (s : Dev) (n : Nat) (f : DieTherm → DieTherm) : Dev :=
  { s with pow := { s.pow with dies := put {} s.pow.dies n (f (s.dieT n)) } }
def Dev.link (s : Dev) (l : Nat) : DLink := look {} s.d2d.links l
def Dev.modLink (s : Dev) (l : Nat) (f : DLink → DLink) : Dev :=
  { s with d2d := { s.d2d with links := put {} s.d2d.links l (f (s.link l)) } }
/-- Bundle `b` of direction `dir` of link `l`. -/
def Dev.bundle (s : Dev) (l dir b : Nat) : Bundle := look {} (s.link l).bundles (32 * dir + b)
def Dev.modBundle (s : Dev) (l dir b : Nat) (f : Bundle → Bundle) : Dev :=
  s.modLink l fun k => { k with bundles := put {} k.bundles (32 * dir + b) (f (look {} k.bundles (32 * dir + b))) }
def Dev.bank (s : Dev) (b : Nat) : Bank := look {} s.evc.banks b
def Dev.modBank (s : Dev) (b : Nat) (f : Bank → Bank) : Dev :=
  { s with evc := { s.evc with banks := put {} s.evc.banks b (f (s.bank b)) } }
/-- A plain register (R15), keyed block × 2^20 + offset. -/
def Dev.reg (s : Dev) (block off : Nat) (reset : Word := 0) : Word := look reset s.csr (block * 2 ^ 20 + off)
def Dev.setReg (s : Dev) (block off : Nat) (v : Word) (reset : Word := 0) : Dev :=
  { s with csr := put reset s.csr (block * 2 ^ 20 + off) v }

/-- The entries of a core's port, with their indexes. -/
def Dev.pents (s : Dev) (c : Nat) : List (Nat × PEntry) := (s.core c).port.filterMap fun e => e.2.map fun p => (e.1, p)

/-- R151: the code of a thread's state. -/
def ThrSt.code : ThrSt → Nat
  | .empty => 0
  | .ready => 1
  | .parkedAccess => 2
  | .parkedPort => 3
  | .parkedArray => 4
  | .parkedFetch => 5
  | .parkedSync => 6
  | .faulted => 7
  | .resetting => 8
  | .held => 9

/-- Change `s` by a list of steps. -/
def Dev.fold {α : Type} (s : Dev) (l : List α) (f : Dev → α → Dev) : Dev := l.foldl f s

/-- Change `s` where `b` holds. -/
def Dev.when (s : Dev) (b : Bool) (f : Dev → Dev) : Dev := if b then f s else s

/-- The scheduler of a core (R156). -/
def Dev.schedOf (s : Dev) (c : Nat) : Sched := look {} s.sched c
def Dev.modSched (s : Dev) (c : Nat) (f : Sched → Sched) : Dev := { s with sched := put {} s.sched c (f (s.schedOf c)) }

/-- The next free value of the model (log entry 3). -/
def Dev.draw (s : Dev) : Dev := { s with free := s.free + 1 }

/-! ### The part, the board record, the image -/

/-- Entries of a queue's 64-byte command, little-endian (R13). -/
def ebytes (e : Entry) (off n : Nat) : Nat := fldN e (8 * off) (8 * n)

/-- R2: the part has trunk engines. -/
def Dev.hasTrunks (s : Dev) : Bool := s.boot.part == 0x7140

/-- The bound board record (R73). -/
def Dev.rec? (s : Dev) : Option BoardRecord := s.boot.record.map (·.record)

/-- R2, R105, R124: cores enabled on the part. -/
def Dev.enabledCores (s : Dev) : BitVec 32 :=
  if s.boot.part == 0x7126 then (s.rec?.map (·.cores)).getD 0 else BitVec.allOnes 32

/-- R2, R126: stacks fitted on the part. -/
def Dev.fittedStacks (s : Dev) : BitVec 32 :=
  if s.boot.part == 0x7126 then (s.rec?.map (·.stackMap)).getD 0 else BitVec.allOnes 32

/-- R2, R129: engines fitted on the part. -/
def Dev.fittedEngs (s : Dev) : BitVec 14 := if s.hasTrunks then 0x3FFF else 0x0FFF

/-- R24: the link is there: trunk links on parts with trunks, stack links of fitted stacks. -/
def Dev.linkFitted (s : Dev) (l : Nat) : Bool :=
  decide (l < 0x14) || (decide (l < 0x16) && s.hasTrunks) || (decide (0x20 ≤ l) && decide (l < 0x40) && s.fittedStacks.getLsbD (l - 0x20))
def Dev.coreOn (s : Dev) (c : Nat) : Bool := s.enabledCores.getLsbD c
def Dev.coreUsable (s : Dev) (c : Nat) : Bool := s.img.coresUsable.getLsbD c
def Dev.arrUsable (s : Dev) (c a : Nat) : Bool := s.img.arraysUsable.getLsbD (2 * c + a)
def Dev.stackFitted (s : Dev) (k : Nat) : Bool := s.fittedStacks.getLsbD k
def Dev.stackUsable (s : Dev) (k : Nat) : Bool := s.img.stacksUsable.getLsbD k
def Dev.engFitted (s : Dev) (e : Nat) : Bool := s.fittedEngs.getLsbD e
def Dev.engUsable (s : Dev) (e : Nat) : Bool := s.img.engUsable.getLsbD e
def Dev.dieReleased (s : Dev) (n : Nat) : Bool := s.boot.released.getLsbD n

/-- R68: the device is ready (step 10). -/
def Dev.ready (s : Dev) : Bool := s.boot.step == 10 && !s.boot.halted

def Dev.parts (s : Dev) : List PartEntry := (s.img.loaded.map (·.structure_)).getD []
def Dev.partEntry (s : Dev) (n : Nat) : Option PartEntry := s.parts.find? (·.part == n)
def Dev.defined (s : Dev) (n : Nat) : Bool := (s.partEntry n).isSome
/-- R105: the port of a partition. -/
def Dev.portOf (s : Dev) (n : Nat) : Nat := ((s.partEntry n).map (·.port)).getD 0
/-- R105: the partition that owns a core. -/
def Dev.partOfCore (s : Dev) (c : Nat) : Option Nat := (s.parts.find? (·.cores.getLsbD c)).map (·.part)
def Dev.sect (s : Dev) (n : Nat) : Option PartSection :=
  s.img.loaded.bind fun i => i.parts.find? (·.part == n)
/-- R108: the partition that owns a queue. -/
def Dev.qOwner (s : Dev) (q : Nat) : Option Nat :=
  s.img.loaded.bind fun i => (i.owners.find? (·.1 == q)).map (·.2)
/-- R114: the descriptor of a queue in its partition's section. -/
def qDescOf (i : Image) (q : Nat) : BitVec 32 :=
  match i.owners.find? (·.1 == q) with
  | none => 0
  | some (_, n) =>
    match i.parts.find? (·.part == n) with
    | none => 0
    | some sec => ((sec.queues.find? (·.1 == q)).map (·.2)).getD 0
def Dev.qDesc (s : Dev) (q : Nat) : BitVec 32 := (s.img.loaded.map (qDescOf · q)).getD 0
/-- R114 TYPE: 1 compute, 2 copy, 3 communication, 4 management. -/
def Dev.qType (s : Dev) (q : Nat) : Nat := fldN (s.qDesc q) 0 3
def Dev.qCore (s : Dev) (q : Nat) : Nat := fldN (s.qDesc q) 3 5
def Dev.qPrio (s : Dev) (q : Nat) : Nat := fldN (s.qDesc q) 8 2
def Dev.qGroup (s : Dev) (q : Nat) : Nat := fldN (s.qDesc q) 10 11
/-- R112, R113: reserved threads of a core. -/
def rsvOf (i : Image) (c : Nat) : Nat :=
  ((i.parts.flatMap (·.reserved)).find? (·.1 == c)).elim 0 (·.2)
def Dev.rsv (s : Dev) (c : Nat) : Nat := (s.img.loaded.map (rsvOf · c)).getD 0
/-- R113: thread `t` of core `c` is reserved. -/
def Dev.reserved (s : Dev) (x : Tid) : Bool := decide (16 - s.rsv x.core ≤ x.thr)
def Dev.devNum (s : Dev) : Nat := (s.img.loaded.map (·.fabric.dev)).getD 0
def Dev.domNum (s : Dev) : Nat := (s.img.loaded.map (·.fabric.domain)).getD 0

/-! ### Addresses -/

/-- Where a local address lies (R168, R299, R329, R559). -/
inductive Place where
  | hbm | store (c off : Nat) | ctr (i : Nat) | csr | nowhere
deriving DecidableEq, Repr

/-- The window of an address. -/
def place (a : Nat) : Place :=
  if a < 0x01FF00000000 then .hbm
  else if 0x020000000000 ≤ a && a < 0x020000000000 + 32 * 0x02000000 then
    .store ((a - 0x020000000000) / 0x02000000) ((a - 0x020000000000) % 0x02000000)
  else if 0x030000000000 ≤ a && a < 0x030000000000 + 8 * 65536 then .ctr ((a - 0x030000000000) / 8)
  else if 0x03F000000000 ≤ a && a < 0x03F000000000 + 0x08000000 then .csr
  else .nowhere

/-- R168: offsets of a core store that are populated. -/
def storeTop : Nat := 0x01800000

/-- R326: a logical channel that neither the board record nor the image excludes, of a fitted stack. -/
def Dev.chanListed (s : Dev) (i : Image) (k p : Nat) : Bool :=
  s.stackFitted k && !i.repair.exclStacks.getLsbD k && !(i.repair.exclChans.contains (k, p)) &&
    !(((s.rec?.map (·.chanExcl)).getD []).contains (k, p))

/-- R326: the channel list of a set, in ascending order of (channel, stack). -/
def Dev.chanList (s : Dev) (i : Image) (e : ISet) : List (Nat × Nat) :=
  let ks := if e.spread then List.range 32 else span (8 * e.die) 8
  ((List.range 31).flatMap fun p => ks.map fun k => (k, p)).filter fun kp => s.chanListed i kp.1 kp.2

/-- R327: the height of a set's band, in granules. -/
def bandHeight (size c : Nat) : Nat := if c = 0 then 0 else (size + 512 * c - 1) / (512 * c)

/-- The interleave set that holds an address, with its index. -/
def Dev.setAt (s : Dev) (a : Nat) : Option (ISet × Nat) :=
  s.img.loaded.bind fun i => i.sets.zipIdx.find? fun e => decide (e.1.base ≤ a) && decide (a < e.1.base + e.1.size)

/-- R327: stack, logical channel and offset of an HBM address. -/
def Dev.chanOf (s : Dev) (a : Nat) : Option (Nat × Nat × Nat) :=
  s.img.loaded.bind fun i =>
    (s.setAt a).bind fun e =>
      let l := s.chanList i e.1
      let g := (a - e.1.base) / 512
      match l[g % l.length]? with
      | none => none
      | some (k, p) => some (k, p, (s.img.bands.getD e.2 0 + g / l.length) * 512 + a % 512)

/-- The key of a byte of the memory system. -/
def memKey (k p off : Nat) : Nat := (32 * k + p) * 2 ^ 31 + off

/-- R289, R448: the partition that owns an address. -/
def Dev.ownerOf (s : Dev) (a : Nat) : Option Nat :=
  match place a with
  | .hbm => (s.setAt a).map (·.1.owner)
  | .store c off => if off < storeTop then s.partOfCore c else none
  | .ctr i => s.partOfCore (i / 2048)
  | _ => none

/-- R116: the AXA region of an address: its partition and anchor. -/
def Dev.axaAt (s : Dev) (a : Nat) : Option (Nat × Int) :=
  s.img.loaded.bind fun i =>
    (i.parts.flatMap fun p => p.axa.map fun r => (p.part, r)).find? (fun e => decide (e.2.base ≤ a) && decide (a < e.2.base + e.2.size))
      |>.map fun e => (e.1, e.2.anchor)

/-! ### Event counters (R663–R671) -/

/-- Banks: hub, compute dies, cores, stacks, engines. -/
def bankHub : Nat := 0
def bankDie (n : Nat) : Nat := 1 + n
def bankCore (c : Nat) : Nat := 5 + c
def bankStack (k : Nat) : Nat := 37 + k
def bankEng (e : Nat) : Nat := 69 + e

/-- R587, R590: a reset of that domain and unit is in progress. -/
def Dev.inReset (s : Dev) (domain unit : Nat) : Bool := s.rcv.active.any fun r => r.domain == domain && r.unit == unit
/-- Core `c`, its die or the device is in reset. -/
def Dev.coreBusy (s : Dev) (c : Nat) : Bool := (s.core c).resetting || s.inReset 3 (c / 8) || s.inReset 6 0
/-- R671, R680: the unit of a bank is in reset. -/
def Dev.bankInReset (s : Dev) (b : Nat) : Bool :=
  if b = 0 then s.inReset 6 0
  else if b < 5 then s.inReset 3 (b - 1) || s.inReset 6 0
  else if b < 37 then s.coreBusy (b - 5)
  else if b < 69 then (s.stk (b - 37)).inReset || s.inReset 6 0
  else (s.eng (b - 69)).inReset || s.inReset 6 0

/-- R670: add `n` events to a counter. -/
def Ctr.add (c : Ctr) (n : Nat) : Ctr :=
  let v := c.value.toNat + n
  { c with value := BitVec.ofNat 48 v, wraps := sat16 c.wraps (v / 2 ^ 48) }

/-- R667: the counter counts source `src` and its filters pass. -/
def Ctr.passes (c : Ctr) (src : Nat) (unit part vc : Option Nat) : Bool :=
  fldN c.sel 0 8 == src && c.sel.getLsbD 8 &&
    (unit.elim true fun u => fldN c.sel 16 16 == 0 || c.sel.getLsbD (16 + u)) &&
    (part.elim true fun p => !c.sel.getLsbD 35 || fldN c.sel 32 3 == p) &&
    (vc.elim true fun v => !c.sel.getLsbD 39 || fldN c.sel 36 3 == v)

/-- R670: `n` events of a source in one cycle. A bank that is frozen (R666) or whose unit
is in reset (R671) does not count. -/
def Dev.count (s : Dev) (bank src : Nat) (n : Nat := 1) (unit part vc : Option Nat := none) : Dev :=
  if (s.bank bank).ctrs.all (fun e => !e.2.passes src unit part vc) || s.bankInReset bank then s
  else s.modBank bank fun b =>
    if b.freeze then b
    else
      let hit := fun (e : Nat × Ctr) => e.2.passes src unit part vc
      { b with
        ovf := b.ctrs.foldl (fun o e => if hit e && decide (2 ^ 48 ≤ e.2.value.toNat + n) then o ||| BitVec.ofNat 32 (2 ^ e.1) else o) b.ovf
        ctrs := b.ctrs.map fun e => if hit e then (e.1, e.2.add n) else e }

/-- R671: zero a bank. -/
def Dev.zeroBank (s : Dev) (b : Nat) : Dev := s.modBank b fun _ => { resetSeen := true }

/-- R631, R632: a floor set by a supply dip: VCORE_CDn, VCORE_HUB or VSRAM below its warning level. -/
def Dev.dipFloor (s : Dev) (die : Nat) : Nat :=
  if (s.rail die).dipped || (s.rail 4).dipped || (s.rail 5).dipped then 15 else 0

/-- R626: the power step of a compute die. The floor is the larger of the dip's and the current limit's (R629). -/
def Dev.powerStep (s : Dev) (die : Nat) : Nat :=
  if s.side.thermtrip then 15 else max s.pow.pstep (max (s.dieT die).tstep (max (s.dieT die).curFloor (s.dipFloor die)))

/-! ### Test windows (R91) -/

def Dev.testRunning (s : Dev) (kind unit : Nat) : Bool := s.tests.running.any fun r => r.kind == kind && r.unit == unit
def Dev.testPending (s : Dev) (kind unit : Nat) : Bool := s.tests.pending.any fun r => r.kind == kind && r.unit == unit
def Dev.testGranted (s : Dev) (kind unit : Nat) : Bool := s.tests.grants.any fun g => g.1 == kind && g.2.1 == unit

/-- R91: work for the unit waits during a granted window. -/
def Dev.windowOpen (s : Dev) (kind unit : Nat) : Bool :=
  s.testGranted kind unit && (s.testPending kind unit || s.testRunning kind unit)

/-! ### Paths (R38, R41, R54) -/

/-- R54, R91: a link carries no traffic while it retrains or is tested, or a window for its test is open. -/
def Dev.linkQuiet (s : Dev) (l : Nat) : Bool :=
  s.windowOpen 4 l ||
  match (s.link l).st with
  | .test | .testing | .agreeing _ => true
  | _ => false

/-- R38, R41: the path between the dies of a CD–CD link changes: the link went down or came back and its traffic has not yet
moved. No new request issues. -/
def Dev.pathMoves (s : Dev) (l : Nat) : Bool := s.d2d.changing.contains l || (s.link l).down != s.d2d.viaHub.contains l

/-! ### Log, host writes, messages, events -/

/-- Microseconds since the start of the epoch, by the model's clock (log entry 5). -/
def Dev.usec (s : Dev) : Nat := (s.clock - s.boot.startMs) * 1000

/-- R603: an entry of the hub error log. -/
def Dev.logE (s : Dev) (code : Code) (unit : Nat) : Dev :=
  { s with rcv := { s.rcv with log := { code, unit, usec := s.usec } :: s.rcv.log } }

def Dev.out (s : Dev) (o : Out) : Dev := { s with outbox := s.outbox ++ [o] }

/-- PERST_N of a port is asserted. -/
def Dev.perst (s : Dev) (port : Nat) : Bool := if port = 0 then s.boot.perst0 else s.boot.perst1

/-- R694: an instruction of the test port has the pins follow the boundary register; the device's own use of them stops. -/
def Dev.pinsTaken (s : Dev) : Bool :=
  match s.side.ir with
  | .extest | .extestPulse | .extestTrain | .clamp | .highz => true
  | _ => false

/-- R572, R694: host writes through a port go out. -/
def Dev.portOpen (s : Dev) (port : Nat) : Bool :=
  (s.hport port).up && !s.perst port && !(s.hport port).d3hot && !s.pinsTaken

/-- A write or message toward a host: sent, or waiting while the port is closed (R572). -/
def Dev.hostSend (s : Dev) (port : Nat) (o : Out) : Dev :=
  if s.portOpen port then s.out o
  else s.modHport port fun h => { h with waiting := h.waiting ++ [o] }

/-- Nothing waits for a port any more; a new episode of losses may begin. -/
def HPort.sync (h : HPort) : HPort := { h with waiting := [], lostLogged := false }

/-- R572: what waits for a port goes out, in order, once the port is open. -/
def Dev.deliver (s : Dev) (port : Nat) : Dev :=
  if s.portOpen port then { s.modHport port HPort.sync with outbox := s.outbox ++ (s.hport port).waiting } else s

/-- R578, R579: an MSI-X message. -/
def Dev.msix (s : Dev) (port vec : Nat) : Dev :=
  if (s.hport port).unmasked.contains vec then s.hostSend port (.msix port vec)
  else s.modHport port fun h => { h with pendingVec := addNew h.pendingVec vec }

/-- R578: the vector of a queue. -/
def qVector (q : Nat) : Nat := 9 + q % 2039

/-- The ring of R576 is full: PROD − CONS equals the record count. -/
def Ring.full (r : Ring) : Bool := (r.prod - r.cons).toNat == 2 ^ (r.log2 - 5)

/-- R576: a record in one partition's event ring, and the partition's vector. -/
def Dev.event (s : Dev) (n kind : Nat) (code : Code) (unit : Nat) (d0 : Word := 0) (d1 : Word := 0) : Dev :=
  let r := s.ring n
  if r.log2 = 0 then s
  else if r.full then s.modRing n fun r => { r with drops := sat16 r.drops }
  else
    let bytes := toBytes 2 code.toNat ++ [BitVec.ofNat 8 kind, BitVec.ofNat 8 n] ++ toBytes 4 unit ++
      toBytes 8 s.usec ++ toBytes 8 d0.toNat ++ toBytes 8 d1.toNat
    let addr := r.base + BitVec.ofNat 64 (32 * (r.prod.toNat % 2 ^ (r.log2 - 5)))
    let s := s.hostSend (s.portOf n) (.hostWrite (s.portOf n) addr bytes)
    let s := s.modRing n fun r => { r with prod := r.prod + 1 }
    s.msix (s.portOf n) (1 + n)

/-- R577: an event of kind 1, 2, 3, 8 or 9 goes to every defined partition. -/
def Dev.eventAll (s : Dev) (kind : Nat) (code : Code) (unit : Nat) (d0 : Word := 0) (d1 : Word := 0) : Dev :=
  s.fold s.parts fun s p => s.event p.part kind code unit d0 d1

/-- An event to a partition, where there is one. -/
def Dev.eventTo (s : Dev) (n : Option Nat) (kind : Nat) (code : Code) (unit : Nat) (d0 : Word := 0) (d1 : Word := 0) : Dev :=
  n.elim s fun n => s.event n kind code unit d0 d1

/-! ### Sync counters (R299–R303) -/

def Dev.ctr (s : Dev) (i : Nat) : Word := look 0 s.sync i

/-- R544: an abort counter that becomes nonzero raises an abort of its group, with the cause given. -/
def Dev.raise (s : Dev) (i : Nat) (cause : Code) : Dev :=
  s.fold s.coll.groups fun s e =>
    match e.2 with
    | some g => if g.cbase = i ∧ g.st ≠ .aborted ∧ g.raised = none then s.modGroup e.1 fun g => { g with raised := some cause } else s
    | none => s

/-- A counter takes a value, which every thread that waits for it evaluates (R302); an operation on it is applied (source 0x27 of
R674). -/
def Dev.setCtr (s : Dev) (i : Nat) (v : Word) (cause : Code := E_COLL_PROGRAM) : Dev :=
  let s := { s with sync := put 0 s.sync i v, coll := { s.coll with seen := s.coll.seen ++ [(i, v)] } }
  let s := s.count (bankDie (i / 16384)) 0x27
  if v = 0 then s else s.raise i cause

/-- R300: an add, modulo 2^64. -/
def Dev.addCtr (s : Dev) (i : Nat) (v : Word) (cause : Code := E_COLL_PROGRAM) : Dev := s.setCtr i (s.ctr i + v) cause

/-- R544: the hub adds 1 to a group's abort counter for an event of its own. -/
def Dev.raiseGroup (s : Dev) (q : Nat) (cause : Code) : Dev :=
  match s.group q with
  | some g => if g.st = .aborted then s else s.addCtr g.cbase 1 cause
  | none => s

/-! ### Memory -/

/-- A mask of `n` ones. -/
def ones (n : Nat) : Nat := 2 ^ n - 1

/-- Bytes of a core store. -/
def Dev.storeRead (s : Dev) (c off n : Nat) : List Byte := getBytes (s.core c).store off n

/-- The words of 32 B that [off, off + n) touches. -/
def words32 (off n : Nat) : List Nat := if n = 0 then [] else span (off / 32) ((off + n - 1) / 32 - off / 32 + 1)

/-- R172: reading words corrects and counts single-bit errors, and counts uncorrectable words. -/
def Dev.storeTouch (s : Dev) (c off n : Nat) : Dev :=
  let ws := words32 off n
  s.modCore c fun k =>
    let soft := ws.filter (k.storeSoft.contains ·)
    let bad := ws.filter (k.storeBad.contains ·)
    { k with
      storeSoft := k.storeSoft.filter (fun w => !(soft.contains w))
      errCorr := sat16 k.errCorr soft.length
      errUncorr := sat16 k.errUncorr bad.length
      errWord := ((soft ++ bad).getLast?).elim k.errWord (BitVec.ofNat 20) }

/-- R172: an uncorrectable word lies in [off, off + n). -/
def Dev.storeBadAt (s : Dev) (c off n : Nat) : Bool := (words32 off n).any ((s.core c).storeBad.contains ·)

/-- R172: of the words that [off, off + n) touches, those a masked write covers whole. -/
def wholeWords (off n mask : Nat) : List Nat :=
  (words32 off n).filter fun w => (span (32 * w) 32).all fun a => decide (off ≤ a) && decide (a < off + n) && mask.testBit (a - off)

/-- R172: those it covers only in part. -/
def partWords (off n mask : Nat) : List Nat :=
  (words32 off n).filter fun w => !((wholeWords off n mask).contains w) &&
    (span (32 * w) 32).any fun a => decide (off ≤ a) && decide (a < off + n) && mask.testBit (a - off)

/-- R172: a write is refused where it covers part of an uncorrectable word. -/
def Dev.storeWriteBad (s : Dev) (c off n mask : Nat) : Bool := (partWords off n mask).any ((s.core c).storeBad.contains ·)

/-- R172: the bits of a write's mask that lie in words which it covers only in part and which are uncorrectable: those words keep
their data. -/
def Dev.storeKept (s : Dev) (c off n mask : Nat) : Nat :=
  let bad := (partWords off n mask).filter ((s.core c).storeBad.contains ·)
  ((List.range n).filter fun i => mask.testBit i && bad.contains ((off + i) / 32)).foldl (fun m i => m - 2 ^ i) mask

/-- R172: write bytes of a core store where bit i of `mask` is set. A word covered whole is free of errors; the others
are read first, and an uncorrectable one of them is left as it is. -/
def Dev.storeWrite (s : Dev) (c off : Nat) (bytes : List Byte) (mask : Nat) : Dev :=
  let whole := wholeWords off bytes.length mask
  let kept := if s.storeWriteBad c off bytes.length mask then s.storeKept c off bytes.length mask else mask
  let s := s.fold (partWords off bytes.length mask) fun s w => s.storeTouch c (32 * w) 32
  s.modCore c fun k =>
    { k with
      store := setMasked k.store off kept bytes
      storeSoft := k.storeSoft.filter fun w => !(whole.contains w)
      storeBad := k.storeBad.filter fun w => !(whole.contains w) }

/-- R335: word `w` (32 B) of a channel is poisoned. -/
def Dev.poisoned (s : Dev) (k p w : Nat) : Bool :=
  s.mem.poison.contains (memKey k p 0 / 32 + w) != (s.chan k p).lost.any fun n => decide (n ≤ w)

/-- R335: poison a word, or clear its poison. A word that becomes poisoned is counted (R355). -/
def Dev.setPoison (s : Dev) (k p w : Nat) (b : Bool) : Dev :=
  if s.poisoned k p w = b then s
  else
    let key := memKey k p 0 / 32 + w
    let l := if s.mem.poison.contains key then s.mem.poison.filter (· ≠ key) else s.mem.poison ++ [key]
    let s := { s with mem := { s.mem with poison := l } }
    if b then s.modChan k p fun c => { c with ue := sat16 c.ue } else s

/-- Place a request with a new tag (R324, R594). -/
def Dev.enqueue (s : Dev) (k p : Nat) (r : MemReq) : Dev :=
  let s := s.modChan k p fun c => { c with queue := c.queue ++ [{ r with tag := s.mem.nextTag }] }
  { s with mem := { s.mem with nextTag := s.mem.nextTag + 1 } }

/-- A plain request. -/
def mkReq (kind : MKind) (off size : Nat) (part : Option Nat) (src : MSrc) : MemReq :=
  { kind, off, size, mask := ones size, data := [], op1 := 0, op2 := 0, acc := none, poison := 0, wmask := 0, clear := false,
    anchor := 0, part, src, lead := 0, len := size, riders := [], tag := 0 }

/-! ### Completions (R567–R571) -/

def eKind (e : Entry) : Nat := ebytes e 0 1
def eFlags (e : Entry) : Nat := ebytes e 1 1
def eCtx (e : Entry) : Nat := ebytes e 2 2 % 1024
def eCmd (e : Entry) : Nat := ebytes e 6 2
def eEntry (e : Entry) : Nat := ebytes e 8 8
def eArg (e : Entry) : Nat := ebytes e 16 8

/-- R570: the 16-byte completion record. -/
def recordBytes (q : Nat) (seq : BitVec 32) (code : Code) (result : Word) : List Byte :=
  toBytes 2 code.toNat ++ toBytes 2 q ++ toBytes 4 seq.toNat ++ toBytes 8 result.toNat

/-- R321: the request that carries an access: its start and size, the least of 32, 64, 128, 256 and 512 B that holds the access
aligned to itself. -/
def blockOf (off n : Nat) : Nat × Nat :=
  let fits := [32, 64, 128, 256, 512].filter fun z => off / z == (off + n - 1) / z
  let z := fits.head?.getD 512
  (off / z * z, z)

/-- R321: a request for `n` bytes at `off`, of the size and alignment that the stack links know. -/
def accessReq (kind : MKind) (off n : Nat) (part : Option Nat) (src : MSrc) : MemReq :=
  let b := blockOf off n
  { mkReq kind b.1 b.2 part src with mask := ones n * 2 ^ (off - b.1), lead := off - b.1, len := n }

/-- R321: the data of a write, in its request. -/
def MemReq.filled (r : MemReq) (data : List Byte) : MemReq :=
  { r with data := List.replicate r.lead 0 ++ data ++ List.replicate (r.size - r.lead - data.length) 0 }

/-- A plain store of the hub to a local address of this device. -/
def Dev.hubPkt (s : Dev) (a : Nat) (bytes : List Byte) : Packet :=
  { kind := .store, ofKind := .store, vc := 0, cls := 0, route := 0, srcDev := s.devNum, srcDom := s.domNum, dstDev := s.devNum,
    dstDom := s.domNum, ctx := 0, job := 0, gen := 0, seq := 0, retry := false, key := 0, addr := BitVec.ofNat 50 a,
    size := bytes.length, code := E_OK, data := bytes, mask := ones bytes.length, poison := 0, op1 := 0, op2 := 0, acc := none }

/-- Write bytes the hub itself stores at a local address, in the order of its word (R291, R453). Nothing where the
address is not populated (R571). A full channel queue has the write wait at the ingress (R324). -/
def Dev.hubStore (s : Dev) (a : Nat) (bytes : List Byte) : Dev :=
  match place a with
  | .store c off =>
    if off + bytes.length ≤ storeTop && s.coreOn c then s.storeWrite c off bytes (ones bytes.length) else s
  | .hbm =>
    match s.chanOf a with
    | some (k, p, off) =>
      if (s.chan k p).queue.length < 256 then
        s.enqueue k p ((accessReq .write off bytes.length ((s.setAt a).map (·.1.owner)) .hub).filled bytes)
      else { s with ra := { s.ra with ingress := s.ra.ingress ++ [(.hub, s.hubPkt a bytes)] } }
    | none => s
  | _ => s

/-- R570: complete the entry of queue `q` with sequence number `seq`: record, increment, message, place freed. -/
def Dev.complete (s : Dev) (q : Nat) (seq : BitVec 32) (code : Code) (result : Word := 0) : Dev :=
  match (s.queue q).entries.find? (·.seq == seq) with
  | none => s
  | some ent =>
    let e := ent.e
    let n := (s.qOwner q).getD 0
    let cpl := ebytes e 24 8
    let bytes := recordBytes q seq code result
    let s := s.when ((eFlags e).testBit 0) fun s =>
      if cpl.testBit 63 then
        s.hostSend (s.portOf n) (.hostWrite (s.portOf n) (BitVec.ofNat 64 (cpl % 2 ^ 63)) bytes)
      else if cpl % 16 = 0 then s.hubStore cpl bytes else s
    let s :=
      if eKind e = 4 then s.when ((ebytes e 44 4).testBit 31) fun s => s.addCtr (ebytes e 44 2) 1
      else s.when ((eFlags e).testBit 2) fun s => s.addCtr (ebytes e 4 2) 1
    let s := s.when ((eFlags e).testBit 1) fun s => s.msix (s.portOf n) (qVector q)
    let s := s.count bankHub 0xCF 1 none (some n)
    s.modQueue q fun k =>
      { k with
        entries := k.entries.filter (fun x => !(x.seq == seq))
        heldFrom := k.heldFrom.map fun h => h - (if (k.entries.findIdx (·.seq == seq)) < h then 1 else 0) }

/-- A management command ends: its entry completes, or the result returns to the device that sent it (R574). -/
def Dev.answer (s : Dev) (iss : Issuer) (code : Code) (result : Word := 0) : Dev :=
  match iss with
  | .remote d => s.out (.mgmtResult d code result)
  | .queue q =>
    match (s.queue q).entries.find? (·.started) with
    | some ent => s.complete q ent.seq code result
    | none => s

/-- R130, R131: one loss counted. -/
def Dev.capLoss (s : Dev) (n : Nat := 1) : Dev :=
  if s.img.capsValid then { s with img := { s.img with capGen := s.img.capGen + BitVec.ofNat 32 n } } else s

/-- R86, R577: a repair (kind 1) or loss (kind 2) is reported to every partition. What is found during the start is reported at
step 10, as an in-field repair. -/
def Dev.report (s : Dev) (kind : Nat) (code : Code) (unit : Nat) (d : Word) : Dev :=
  if s.ready then s.eventAll kind code unit d else { s with boot := { s.boot with reports := s.boot.reports ++ [(code, unit, d)] } }

/-- R86: step 10 sends what the start has found. -/
def Dev.sendReports (s : Dev) : Dev :=
  ({ s with boot := { s.boot with reports := [] } } : Dev).fold s.boot.reports fun s e => s.eventAll 1 e.1 e.2.1 e.2.2

/-- R607: a unit lost: logged, and reported to every partition. -/
def Dev.unitLost (s : Dev) (code : Code) (unit : Nat) : Dev := (s.logE code unit).report 2 code unit 0

/-- R344, R69: an in-field repair reported to the host. -/
def Dev.repaired (s : Dev) (code : Code) (unit : Nat) (d : Word := 0) : Dev := (s.logE code unit).report 1 code unit d

/-- R138, R613: a reset of a thread, core or compute die that holds resources of the partition being reloaded, taken before
the switch, ends the reload. -/
def Dev.reloadHit (s : Dev) (c : Nat) : Dev :=
  match s.img.reload with
  | some r =>
    if s.partOfCore c == some r.part && r.failed.isNone
    then { s with img := { s.img with reload := some { r with failed := some E_IMG_RELOAD_ABORT } } } else s
  | none => s

/-- R588: an escalation is counted. -/
def Dev.escalate (s : Dev) (code : Code) (unit : Nat) : Dev :=
  let s := s.logE code unit
  { s with rcv := { s.rcv with escalations := sat8 s.rcv.escalations } }
/-- R616: the last reset. -/
def Dev.lastReset (s : Dev) (domain unit : Nat) (cause : Code) : Dev :=
  { s with rcv := { s.rcv with lastDomain := domain, lastUnit := unit, lastCause := cause } }

end Sys2Proof.Machine
end

