-- ==== Sys2Proof/Machine/Route.lean ====
section
/-! DEFINITION. Route computation (R403–R420): the route rule, blocked segments, the route word of R436. -/

namespace Sys2Proof.Machine

/-- R410: the four legs of one dimension. -/
structure Legs where
  c1 : Int
  a : Int
  b : Int
  c2 : Int
deriving DecidableEq, Repr

/-- A route: legs of X and of Y, and whether Y runs first (R420). -/
structure Route where
  x : Legs
  y : Legs
  yFirst : Bool
deriving DecidableEq, Repr

/-- Integers −n … n. -/
def ints (n : Nat) : List Int := (List.range (2 * n + 1)).map fun i => (i : Int) - n

/-- The key of a candidate, compared in order (R410). -/
def Legs.key (l : Legs) : List Nat :=
  [l.c1.natAbs + l.a.natAbs + l.b.natAbs + l.c2.natAbs, l.c1.natAbs, l.a.natAbs, l.b.natAbs,
   bit (l.a < 0), bit (l.b < 0), bit (l.c1 < 0), bit (l.c2 < 0)]

/-- Lexicographic order on keys. -/
def keyLt : List Nat → List Nat → Bool
  | [], [] => false
  | [], _ => true
  | _, [] => false
  | x :: l, y :: m => x < y || (x == y && keyLt l m)

/-- R410: the legs of one dimension. With `bounded` false, without the bound on b or c2 (R420). -/
def axis (pos : Nat) (delta : Int) (l1 l2 bounded : Bool) : Option Legs :=
  let as := if l2 then ints 2 else [0]
  let bs := if l1 then (if bounded then ints 8 else ints 32) else [0]
  let cands := as.flatMap fun a => bs.flatMap fun b => (if a = 0 then [0] else ints 3).filterMap fun c1 =>
    let c2 := delta - c1 - 32 * a - 8 * b
    if a ≠ 0 ∧ ((pos : Int) + c1) % 4 ≠ 0 then none
    else if l1 ∧ bounded ∧ 4 < c2.natAbs then none
    else some { c1, a, b, c2 }
  cands.foldl (fun (best : Option Legs) l =>
    match best with
    | none => some l
    | some m => if keyLt l.key m.key then some l else best) none

/-- The signed displacement in (−D/2, D/2]. -/
def disp (d src dst : Nat) : Int :=
  let r : Int := ((dst : Int) - src) % d
  if 2 * r > d then r - d else r

/-- The displacement the other way round (R420); for 0, −D (log entry 14). -/
def around (d : Nat) (x : Int) : Int := if x < 0 then x + d else x - d

/-- One dimension of the plan: ring size, level 1 and level 2 present. -/
def Dev.plan (s : Dev) (y : Bool) : Nat × Bool × Bool :=
  match s.img.loaded with
  | none => (1, false, false)
  | some i =>
    let f := i.fabric
    if y then (f.dy, decide (0 < f.allotY.2.1), decide (0 < f.allotY.2.2))
    else (f.dx, decide (0 < f.allotX.2.1), decide (0 < f.allotX.2.2))

/-- One dimension of a route, the short way or the other way round. R412: under bandwidth-first, accumulate (2) and bulk
(4) packets use neighbour hops where |Δ| ≤ 16. -/
def Dev.axisRoute (s : Dev) (y : Bool) (vc src dst : Nat) (other : Bool) : Option Legs :=
  let (d, l1, l2) := s.plan y
  let x := disp d src dst
  let bw := (s.img.loaded.map (·.fabric.bandwidthFirst)).getD false
  let x' := if other then around d x else x
  if bw && (vc == 2 || vc == 4) && decide (x'.natAbs ≤ 16) then some { c1 := 0, a := 0, b := 0, c2 := x' }
  else axis src x' l1 l2 (!other)

/-- The unit steps of a leg group: count and direction. -/
def unitSteps (n : Int) : List Int := List.replicate n.natAbs (if n < 0 then -1 else 1)

/-- Steps of one dimension: the spans crossed in order; the flag marks a neighbour hop (R419). -/
def Legs.steps (l : Legs) : List (Int × Bool) :=
  (unitSteps l.c1).map (·, true) ++ (unitSteps (32 * l.a)).map (·, false) ++ (unitSteps (8 * l.b)).map (·, false) ++
    (unitSteps l.c2).map (·, true)

/-- The segments a walk crosses: (dimension, coordinates of the lower end, neighbour hop, coordinates it leaves). -/
def walk (dx dy : Nat) (y : Bool) : Nat × Nat → List (Int × Bool) → List (Bool × (Nat × Nat) × Bool × (Nat × Nat) × Int) × (Nat × Nat)
  | p, [] => ([], p)
  | (px, py), (n, hop) :: l =>
    let q : Nat × Nat := if y then (px, ((py + n) % dy).toNat) else (((px + n) % dx).toNat, py)
    let low := if n < 0 then q else (px, py)
    let r := walk dx dy y q l
    ((y, low, hop, (px, py), n) :: r.1, r.2)

/-- The segment an avoid entry names: a device and a torus port (0 HX+, 1 HX−, 2 HY+, 3 HY−). -/
def avoidSeg (dx dy : Nat) (e : Nat × Nat) : Bool × (Nat × Nat) :=
  let x := e.1 % 128
  let y := e.1 / 128
  if e.2 = 0 then (false, (x, y)) else if e.2 = 1 then (false, ((x + dx - 1) % dx, y))
  else if e.2 = 2 then (true, (x, y)) else (true, (x, (y + dy - 1) % dy))

/-- The torus port by which a hop leaves. -/
def hopPort (y : Bool) (n : Int) : Nat := (if y then 2 else 0) + (if n < 0 then 1 else 0)

/-- R419: the route crosses no blocked segment. -/
def Dev.clear (s : Dev) (r : Route) : Bool :=
  let (dx, _, _) := s.plan false
  let (dy, _, _) := s.plan true
  let me := (s.devNum % 128, s.devNum / 128)
  let segs :=
    if r.yFirst then
      let a := walk dx dy true me r.y.steps
      a.1 ++ (walk dx dy false a.2 r.x.steps).1
    else
      let a := walk dx dy false me r.x.steps
      a.1 ++ (walk dx dy true a.2 r.y.steps).1
  let av := s.fab.avoid.map (avoidSeg dx dy)
  segs.all fun g => !(av.contains (g.1, g.2.1)) &&
    (!g.2.2.1 || g.2.2.2.1 != me || (s.fport (hopPort g.1 g.2.2.2.2)).st == .up)

/-- R403: a device number of the domain. -/
def Dev.inDomain (s : Dev) (n : Nat) : Bool :=
  let (dx, _, _) := s.plan false
  let (dy, _, _) := s.plan true
  decide (n % 128 < dx) && decide (n / 128 < dy)

/-- R410, R420: the first clear route to a device of the domain, on a channel. -/
def Dev.routeTo (s : Dev) (vc dst : Nat) : Option Route :=
  let sx := s.devNum % 128
  let sy := s.devNum / 128
  let alts := [false, true].flatMap fun yF => [(false, false), (true, false), (false, true), (true, true)].filterMap fun o =>
    match s.axisRoute false vc sx (dst % 128) o.1, s.axisRoute true vc sy (dst / 128) o.2 with
    | some x, some y => some ({ x, y, yFirst := yF } : Route)
    | _, _ => none
  alts.find? s.clear

/-- A signed field of `w` bits. -/
def sfld (w : Nat) (x : Int) : Nat := (x % (2 ^ w : Nat)).toNat

/-- R436: bits 38:0 of the route word. -/
def Route.word (r : Route) : BitVec 39 :=
  BitVec.ofNat 39 (sfld 3 r.x.c1 + sfld 3 r.x.a * 2 ^ 3 + sfld 5 r.x.b * 2 ^ 6 + sfld 8 r.x.c2 * 2 ^ 11 +
    sfld 3 r.y.c1 * 2 ^ 19 + sfld 3 r.y.a * 2 ^ 22 + sfld 5 r.y.b * 2 ^ 25 + sfld 8 r.y.c2 * 2 ^ 30 + bit r.yFirst * 2 ^ 38)

/-- Electrical hops with every circuit intact. -/
def Legs.hops (l : Legs) : Nat := l.c1.natAbs + l.a.natAbs + l.b.natAbs + l.c2.natAbs

/-- R403, R420: the route word of a packet, or the code with which it completes at its source. -/
def Dev.routeWord (s : Dev) (vc dst : Nat) : Except Code (BitVec 39) :=
  if dst = s.devNum then .ok 0
  else if !s.inDomain dst then .error E_FAB_DEST_RANGE
  else match s.routeTo vc dst with
    | some r => .ok r.word
    | none => .error E_FAB_NO_ROUTE

/-- R436: `HUB.ROUTE_RESULT` for a destination, on the request channel. -/
def Dev.routeResult (s : Dev) (dst : Nat) : Word :=
  if !s.inDomain dst then at_ 39 1 ||| at_ 40 1 ||| at_ 41 1
  else
    let r := if dst = s.devNum then some (⟨⟨0, 0, 0, 0⟩, ⟨0, 0, 0, 0⟩, false⟩ : Route) else s.routeTo 0 dst
    match r with
    | none => at_ 39 1 ||| at_ 40 1
    | some r =>
      if 127 < r.x.c2.natAbs || 127 < r.y.c2.natAbs then at_ 39 1 ||| at_ 40 1
      else r.word.setWidth 64 ||| at_ 39 1 ||| at_ 48 (r.x.hops + r.y.hops)

end Sys2Proof.Machine
end

