-- ==== Sys2Proof/Machine/Segment.lean ====
section
/-! DEFINITION. Segments and credits (R415, R416, R419–R425, R429–R431): the next segment of a packet at this hub, with
fallback; trunks; spending credits; sending. -/

namespace Sys2Proof.Machine

/-! ### Credits (R425) -/

/-- A link's number in credit keys. -/
def linkKey : LinkRef → Nat
  | .port p => p
  | .circuit c => 8 + c
  | .d2d l => 32 + l

/-- R425: the shared pool of a link's input: its buffer less the 768 reserved flits. The manual gives no quota for the D2D
links. -/
def sharedPool : LinkRef → Nat
  | .port _ => 32768 - 768
  | .circuit c => (if c % 2 = 1 then 16384 else 8192) - 768
  | .d2d _ => 0

def credKey (l : LinkRef) (vc : Nat) (cls : BitVec 4) : Nat := 96 * linkKey l + 16 * vc + cls.toNat
def Dev.cred (s : Dev) (l : LinkRef) (vc : Nat) (cls : BitVec 4) : Credits := look {} s.fab.credits (credKey l vc cls)
def Dev.setCred (s : Dev) (l : LinkRef) (vc : Nat) (cls : BitVec 4) (c : Credits) : Dev :=
  { s with fab := { s.fab with credits := put {} s.fab.credits (credKey l vc cls) c } }

/-- Shared credits of a link that are spent. -/
def Dev.sharedUsed (s : Dev) (l : LinkRef) : Nat :=
  ((s.fab.credits.filter fun e => e.1 / 96 == linkKey l).map (·.2.shared)).sum

/-- Credits that the sender holds for a VC and class. -/
def Dev.creditsFor (s : Dev) (l : LinkRef) (vc : Nat) (cls : BitVec 4) : Nat :=
  (8 - (s.cred l vc cls).reserved) + (sharedPool l - s.sharedUsed l)

/-- Spend `n` credits, reserved ones first. -/
def Dev.spend (s : Dev) (l : LinkRef) (vc : Nat) (cls : BitVec 4) (n : Nat) : Dev :=
  let c := s.cred l vc cls
  let a := min n (8 - c.reserved)
  s.setCred l vc cls { reserved := c.reserved + a, shared := c.shared + (n - a) }

/-- `n` credits return, shared ones first. No credit is created (R426). -/
def Dev.giveBack (s : Dev) (l : LinkRef) (vc : Nat) (cls : BitVec 4) (n : Nat) : Dev :=
  let c := s.cred l vc cls
  let a := min n c.shared
  s.setCred l vc cls { reserved := c.reserved - (n - a), shared := c.shared - a }

/-- R427, R428: a link's quotas are whole again. -/
def Dev.fullQuota (s : Dev) (l : LinkRef) : Dev :=
  { s with fab := { s.fab with credits := s.fab.credits.filter fun e => !(e.1 / 96 == linkKey l) } }

/-! ### The spans of a route (R410, R415, R424) -/

/-- One span of a route: dimension, direction, stage, its place within its hop, coordinates it leaves. -/
structure Span where
  y : Bool
  neg : Bool
  stage : Nat
  off : Nat
  pos : Nat × Nat
deriving DecidableEq, Repr

/-- The legs of a route word (R436). -/
def routeOf (w : BitVec 39) : Route :=
  { x := { c1 := (fld w 0 3).toInt, a := (fld w 3 3).toInt, b := (fld w 6 5).toInt, c2 := (fld w 11 8).toInt }
    y := { c1 := (fld w 19 3).toInt, a := (fld w 22 3).toInt, b := (fld w 25 5).toInt, c2 := (fld w 30 8).toInt }
    yFirst := w.getLsbD 38 }

/-- Spans of one leg: stage, place within the hop, direction. -/
def legSpans (stage len : Nat) (n : Int) : List (Nat × Nat × Bool) :=
  (List.range n.natAbs).flatMap fun _ => (List.range len).map fun o => (stage, o, decide (n < 0))

def Legs.spans (l : Legs) : List (Nat × Nat × Bool) := legSpans 0 1 l.c1 ++ legSpans 1 32 l.a ++ legSpans 2 8 l.b ++ legSpans 3 1 l.c2

/-- The next coordinate of a ring of size `d`. -/
def ringNext (d c : Nat) (neg : Bool) : Nat := if neg then (c + d - 1) % d else (c + 1) % d

/-- Lay spans out from a position; answers them with the position reached. -/
def laySpans (dx dy : Nat) (y : Bool) : Nat × Nat → List (Nat × Nat × Bool) → List Span × (Nat × Nat)
  | p, [] => ([], p)
  | p, (stage, off, neg) :: l =>
    let q : Nat × Nat := if y then (p.1, ringNext dy p.2 neg) else (ringNext dx p.1 neg, p.2)
    let r := laySpans dx dy y q l
    ({ y, neg, stage, off, pos := p } :: r.1, r.2)

/-- Coordinates of a device number (R403). -/
def coords (n : Nat) : Nat × Nat := (n % 128, n / 128)

/-- All spans of a route from a device. -/
def Dev.spansFrom (s : Dev) (src : Nat) (r : Route) : List Span :=
  let dx := (s.plan false).1
  let dy := (s.plan true).1
  if r.yFirst then
    let a := laySpans dx dy true (coords src) r.y.spans
    a.1 ++ (laySpans dx dy false a.2 r.x.spans).1
  else
    let a := laySpans dx dy false (coords src) r.x.spans
    a.1 ++ (laySpans dx dy true a.2 r.y.spans).1

/-! ### The next segment (R415, R419, R429–R431) -/

/-- Where a packet goes on from this hub. -/
inductive NextSeg where
  /-- it is at the device it is addressed to -/
  | here
  /-- a segment, the buffer class on it, and the circuit launched here that fallback replaces -/
  | seg (l : LinkRef) (cls : BitVec 4) (fallback : Option Nat)
  /-- no trunk path (R431) -/
  | noTrunk
deriving DecidableEq, Repr

/-- R430: the pairs toward a domain, at most three domains on. -/
def Dev.trunkPairs (s : Dev) : Nat → Nat → List (Nat × Nat)
  | 0, _ => []
  | n + 1, dom =>
    match ((s.img.loaded.map (·.fabric.trunks)).getD [])[dom]? with
    | none => []
    | some e =>
      match e.via with
      | some d => s.trunkPairs n d
      | none => e.pairs

/-- The port of a trunk: T0 is port 4, T1 port 5. -/
def trunkPort (t : Nat) : Nat := 4 + t % 2

/-- R431: the pair that a job of a source device uses. Whether another device's trunk port is up is not known here; it
counts as up (log entry 21). -/
def Dev.trunkFor (s : Dev) (dom src : Nat) (job : BitVec 24) : Option (Nat × Nat) :=
  let l := (s.trunkPairs 3 dom).filter fun e => e.1 != s.devNum || (s.fport (trunkPort e.2)).st == .up
  l[(src + job.toNat) % l.length]?

/-- The port span of this device is on the avoid list (R419). -/
def Dev.portAvoided (s : Dev) (p : Nat) : Bool :=
  let dx := (s.plan false).1
  let dy := (s.plan true).1
  (s.fab.avoid.map (avoidSeg dx dy)).contains (avoidSeg dx dy (s.devNum, p))

/-- The selectable circuit launched here (R435). -/
def launched (lvl2 neg y : Bool) : Nat := bit lvl2 + 2 * bit neg + 4 * bit y

/-- R421: the segment can be used now. -/
def Dev.segUsable (s : Dev) (l : LinkRef) : Bool :=
  match l with
  | .port p => (s.fport p).st == .up && !(s.fport p).dark && (decide (4 ≤ p) || !s.portAvoided p)
  | .circuit c => (s.ckt c).st == .up
  | .d2d _ => true

/-- R415: the segment of a span: its circuit where it starts a hop and the circuit is up, else the next lower level; with
its length and the circuit that is replaced. -/
def Dev.spanSeg (s : Dev) (g : Span) : LinkRef × Nat × Option Nat :=
  let l2 := launched true g.neg g.y
  let l1 := launched false g.neg g.y
  let at2 := g.stage = 1 ∧ g.off = 0
  let at1 := (g.stage = 1 ∨ g.stage = 2) ∧ g.off % 8 = 0
  let lost := if at2 then some l2 else if at1 then some l1 else none
  if at2 ∧ (s.ckt l2).st = .up then (.circuit l2, 32, none)
  else if at1 ∧ (s.ckt l1).st = .up then (.circuit l1, 8, if g.stage = 1 then lost else none)
  else (.port (hopPort g.y (if g.neg then -1 else 1)), 1, lost)

/-- R424: a segment of `len` spans from coordinate `c` crosses between D − 1 and 0. -/
def crosses (d c len : Nat) (neg : Bool) : Bool := if neg then decide (c < len) else decide (d ≤ c + len)

/-- R424: the buffer class on the segment of a span; the dateline bit is kept within a stage, and set once the stage has
crossed. `first` says that the packet is new here. -/
def Dev.classOn (s : Dev) (p : Packet) (first : Bool) (g : Span) (len : Nat) : BitVec 4 :=
  let d := (s.plan g.y).1
  let c := if g.y then g.pos.2 else g.pos.1
  let kept := !first && fldN p.cls 0 2 == g.stage && p.cls.getLsbD 2
  BitVec.ofNat 4 (g.stage + 4 * bit (kept || crosses d c len g.neg) + 8 * bit ((routeOf p.route).yFirst))

/-- R429: on a trunk, flits that carry responses use buffers of their own: class 1 (log entry 52). -/
def trunkClass (p : Packet) : BitVec 4 :=
  match p.kind with
  | .response | .nack | .hold | .release => 1
  | _ => 0

/-- The hub where the route of a packet starts in this domain: its source, or the waystation it came in by (`via`). -/
def Dev.next (s : Dev) (p : Packet) (start : Nat) : NextSeg :=
  let me := coords s.devNum
  let spans := s.spansFrom start (routeOf p.route)
  let first := start == s.devNum
  let g := if first then spans.head? else
    match spans.find? fun g => decide (g.pos = me) && g.stage == fldN p.cls 0 2 with
    | some g => some g
    | none => spans.find? fun g => g.pos == me
  match g with
  | some g =>
    let t := s.spanSeg g
    .seg t.1 (s.classOn p first g t.2.1) t.2.2
  | none =>
    if p.dstDom = s.domNum then .here
    else match s.trunkFor p.dstDom p.srcDev p.job with
      | some (w, t) => if w = s.devNum then .seg (.port (trunkPort t)) (trunkClass p) none else .noTrunk
      | none => .noTrunk

/-! ### Engines of a port -/

/-- R361: the engines of a port. -/
def enginesOf (p : Nat) : List Nat := if p < 4 then span (3 * p) 3 else if p = 4 then [12] else if p = 5 then [13] else []
def portOfEng (e : Nat) : Nat := if e < 12 then e / 3 else e - 8
/-- Position of an engine within its port. -/
def engPos (e : Nat) : Nat := if e < 12 then e % 3 else 0

/-- The fibre pair carries traffic in both directions. -/
def Fibre.carries (f : Fibre) : Bool := f.up && !f.txLost && !f.rxLost && !f.rxWithdrawn && !f.silent

/-- Engine `e` carries traffic in both directions. -/
def Dev.engCarries (s : Dev) (e : Nat) : Bool :=
  let g := s.eng e
  s.engFitted e && !s.boot.engsLost.getLsbD e && !g.fenced && !g.inReset && !g.withdrawn && !g.txOff && (List.range 8).any fun f => (s.fib e f).carries

/-- Engine `e` transmits: it is in service and one of its fibre pairs has its light. -/
def Dev.engSends (s : Dev) (e : Nat) : Bool :=
  let g := s.eng e
  s.engFitted e && !s.boot.engsLost.getLsbD e && !g.fenced && !g.inReset && !g.withdrawn && !g.linkFault && !g.txOff &&
    (List.range 8).any fun f => (s.fib e f).up && !(s.fib e f).txLost

/-- R676: flits sent and replayed by a port. DESIGN CHOICE (log entry 26): the first of its engines that carries traffic carries
them, and counts them. -/
def Dev.countPort (s : Dev) (p src n : Nat) (vc : Option Nat := none) : Dev :=
  ((enginesOf p).find? (s.engCarries ·)).elim s fun e => s.count (bankEng e) src n none none vc

/-! ### Sending -/

/-- R423: the channel of a kind. -/
def vcOfKind : PKind → Nat
  | .load | .store | .fetchAdd | .swap | .compareSwap => 0
  | .accumulate => 2
  | .syncAdd => 3
  | .copyRead | .copyWrite => 4
  | .response | .nack | .hold | .release => 1

/-- R503: flits of a packet: 128 B flits, a SUMMED packet three, a RAW packet or a request without data one. -/
def flitsOf (summed : Bool) (dataBytes : Nat) : Nat := if summed then 3 else (64 + dataBytes + 127) / 128

def flits (p : Packet) : Nat := flitsOf ((p.acc.map (·.summed)).getD false) p.data.length

/-- R429: flits of a cross-domain copy, which a trunk carries. -/
def trunkOk (p : Packet) : Bool :=
  match p.kind, p.ofKind with
  | .copyRead, _ => true
  | .copyWrite, _ => true
  | .response, .copyRead | .response, .copyWrite => true
  | .nack, .copyRead | .nack, .copyWrite => true
  | .hold, .copyRead | .hold, .copyWrite => true
  | _, _ => false

/-- A trunk port. -/
def isTrunk : LinkRef → Bool
  | .port p => decide (4 ≤ p)
  | _ => false

/-- The packet as it travels on a segment: on a trunk it is bulk (R429). -/
def onto (p : Packet) (l : LinkRef) (cls : BitVec 4) : Packet := { p with cls, vc := if isTrunk l then 4 else p.vc }

/-- R416: a circuit numbers a flit that it carries or that fallback carries for it, and keeps it until it is acknowledged. -/
def Dev.numberOn (s : Dev) (n : Nat) (p : Packet) : Dev :=
  s.modCkt n fun k => { k with seq := k.seq + 1, unacked := k.unacked ++ [(k.seq, p)] }

/-- R425: the packet leaves its input buffer, whose credits go back to the sender on that link. -/
def Dev.freeInput (s : Dev) (p : Packet) : Dev := p.inp.elim s fun i => s.out (.credit i.1 i.2.1 i.2.2 (flits p))

/-- The packet as it stands once it has left its input. -/
def offInput (p : Packet) : Packet := { p with inp := none }

/-- The packet leaves on a segment; credits are spent, and an audit of the link is abandoned (R428). -/
def Dev.emit (s : Dev) (p : Packet) (l : LinkRef) (cls : BitVec 4) (fallback : Option Nat) : Dev :=
  let s := s.freeInput p
  let p := offInput (onto p l cls)
  let s := s.spend l p.vc cls (flits p)
  let s := fallback.elim s fun n => (s.count bankHub 0xC5 (flits p)).numberOn n p
  let s := { s with fab := { s.fab with auditing := s.fab.auditing.filter (· ≠ l) } }
  let s := match l with
    | .circuit c => (s.count bankHub 0xC4 (flits p) none none (some p.vc)).numberOn c p
    | .port t => (s.countPort t 0x60 (flits p) (some p.vc)).modFport t fun k => { k with unacked := k.unacked ++ [p] }
    | .d2d _ => s
  s.out (.sent l p)

/-- A packet that waits for the same credits stands before this one. -/
def Dev.waitsBefore (s : Dev) (waiting : List Packet) (start : Packet → Nat) (p : Packet) (l : LinkRef) (cls : BitVec 4) : Bool :=
  waiting.any fun w => w.vc == p.vc && (match s.next w (start w) with
    | .seg l' cls' _ => l' == l && cls' == cls
    | _ => false)

/-- The displacement of a route in one dimension. -/
def Legs.sum (l : Legs) : Int := l.c1 + 32 * l.a + 8 * l.b + l.c2

/-- The hub where a packet's route in this domain starts: its source device, or, for a packet from another domain, the
waystation it came in by, found from the end of its route. -/
def Dev.startOf (s : Dev) (p : Packet) : Nat :=
  if p.srcDom = s.domNum then p.srcDev
  else
    let stop := if p.dstDom = s.domNum then p.dstDev else ((s.trunkFor p.dstDom p.srcDev p.job).map (·.1)).getD s.devNum
    let r := routeOf p.route
    let back := fun (d c : Nat) (n : Int) => (((c : Int) - n) % d).toNat
    back (s.plan false).1 (stop % 128) r.x.sum + 128 * back (s.plan true).1 (stop / 128) r.y.sum

/-- R91: a window is open for a test of a fibre pair of the port: its packets wait. -/
def Dev.portWindow (s : Dev) (l : LinkRef) : Bool :=
  match l with
  | .port p => (enginesOf p).any fun e => (List.range 8).any fun f => s.windowOpen 5 (8 * e + f)
  | _ => false

/-- R469: the ingress store of 16 MiB, 131,072 flits, is full: requests and accumulates stay in their input buffers. -/
def Dev.ingressFull (s : Dev) (p : Packet) : Bool :=
  (p.vc == 0 || p.vc == 2) && decide (131072 ≤ (s.ra.ingress.map fun w => flits w.2).sum)

/-- The packet is at its target: it leaves its input and is handed to the device. -/
def Dev.sink (s : Dev) (p : Packet) : Dev :=
  if s.ingressFull p then { s with fab := { s.fab with waiting := s.fab.waiting ++ [p] } }
  else (s.freeInput p).out (.packet (offInput p))

/-- R421, R422, R429: a packet goes on at this hub: it leaves, waits for credit, or is held at an unusable segment. -/
def Dev.send (s : Dev) (p : Packet) : Dev :=
  match s.next p (s.startOf p) with
  | .here => s.sink p
  | .noTrunk => { s with fab := { s.fab with held := s.fab.held ++ [p] } }
  | .seg l cls fb =>
    if isTrunk l && !trunkOk p then (s.freeInput p).logE E_FAB_TRUNK_VC (linkKey l)
    else if !s.segUsable l then { s with fab := { s.fab with held := s.fab.held ++ [p] } }
    else if (flits p) ≤ s.creditsFor l (onto p l cls).vc cls ∧ !s.waitsBefore s.fab.waiting s.startOf p l cls ∧ !s.portWindow l then
      s.emit p l cls fb
    else { s with fab := { s.fab with waiting := s.fab.waiting ++ [p] } }

/-- R422: packets that wait for credit are tried again, in their order. -/
def Dev.retryWaiting (s : Dev) : Dev :=
  if s.fab.waiting.isEmpty then s
  else ({ s with fab := { s.fab with waiting := [] } } : Dev).fold s.fab.waiting fun s p => s.send p

/-- A packet of this device: handed back to the device where it is its own target, else injected into the fabric (R677). -/
def Dev.sendNew (s : Dev) (p : Packet) : Dev :=
  if p.dstDev = s.devNum ∧ p.dstDom = s.domNum then s.out (.packet p)
  else (s.count bankHub 0xC1 1 none none (some p.vc)).send p

/-- R403, R420, R431: the route word of a packet of this hub, to its device or to the waystation toward its domain. -/
def Dev.routeFor (s : Dev) (vc dom dev src : Nat) (job : BitVec 24) : Except Code (BitVec 39) :=
  if dom = s.domNum then s.routeWord vc dev
  else match s.trunkFor dom src job with
    | some (w, _) => s.routeWord vc w
    | none => .error E_FAB_TRUNK_DOWN

end Sys2Proof.Machine
end

