-- ==== Sys2Proof/Machine/Target.lean ====
section
/-! DEFINITION. The device as a target: what an accepted operation does at a core store, a sync counter or an HBM
channel, the answers it sends, and the ingress that holds operations for a unit in reset (R186, R322, R440, R453,
R469, R591). -/

namespace Sys2Proof.Machine

/-- An answer to a packet: it goes back to the packet's source on the response channel (R423, R452). A code other than
`E_OK` makes it a negative acknowledgement. Without a route it is discarded like any other response (R421). -/
def Dev.answerPkt (s : Dev) (p : Packet) (data : List Byte) (poison : BitVec 16) (code : Code) : Dev :=
  match s.routeFor 1 p.srcDom p.srcDev s.devNum p.job with
  | .error _ => s
  | .ok r =>
    let s := if code = E_OK then s else s.count bankHub 0xC7
    s.sendNew { p with
      kind := if code = E_OK then .response else .nack
      ofKind := p.kind, vc := 1, cls := 0, route := r, srcDev := s.devNum, srcDom := s.domNum, dstDev := p.srcDev, dstDom := p.srcDom
      data, poison, code, acc := none }

/-- R450, R483: a refusal under the checks is counted and sent back. -/
def Dev.refuse (s : Dev) (p : Packet) (code : Code) : Dev :=
  ({ s with ra := { s.ra with nacks := sat16 s.ra.nacks } } : Dev).answerPkt p [] 0 code

/-- R137, R450 check 9, R492: what the AXA region table in force says of an accumulate. -/
def Dev.axaBad (s : Dev) (p : Packet) : Option Code :=
  match s.axaAt p.addr.toNat with
  | none => some E_RA_NOT_AXA
  | some (_, anchor) => if (p.acc.map (·.anchor.toInt)) = some anchor then none else some E_AXA_ANCHOR

/-- The answer of a request, to whoever sent it. A line of a read-out is taken up by the copy engine itself. -/
def Dev.respond (s : Dev) (src : MSrc) (data : List Byte) (poison : BitVec 16) (code : Code) : Dev :=
  match src with
  | .core c e => s.modCore c fun k => { k with replies := k.replies ++ [{ entry := e, data, poison, code }] }
  | .remote p => s.answerPkt p data poison code
  | .copy _ _ => s
  | .hub => s

/-- Bytes of a packet's write data. -/
def pktBytes (p : Packet) : List Byte :=
  match p.kind with
  | .store | .copyWrite => p.data
  | _ => []

/-- R172, R336: the target of a copy piece whose data came back poisoned writes its words poisoned. -/
def poisonStore (s : Dev) (c off n : Nat) (m : BitVec 16) : Dev :=
  s.modCore c fun k => { k with
    storeBad := (words32 off n).foldl (fun l w => if m.getLsbD (w - off / 32) then addNew l w else l) k.storeBad }

/-- R186: a thread of a core is in reset. -/
def Dev.thrResets (s : Dev) (c : Nat) : Bool := (s.core c).threads.any fun t => t.2.st == .resetting

/-- The unit an operation waits for is ready to take it: the core store's core, its threads and its die out of reset, the counter's die
out of reset, the stack and its compute die out of reset (R42, R351, R593), room in the channel queue with nothing for
that channel waiting before it. -/
def Dev.canServe (s : Dev) (waiting : List (MSrc × Packet)) (p : Packet) : Bool :=
  match place p.addr.toNat with
  | .store c _ => !s.coreBusy c && !s.thrResets c && s.pow.lat < 2
  | .ctr i => !s.inReset 3 (i / 16384) && !s.inReset 6 0 && s.pow.lat < 2
  | .hbm =>
    match s.chanOf p.addr.toNat with
    | none => true
    | some (k, q, _) =>
      decide ((s.chan k q).queue.length < 256) && s.pow.lat < 2 && !s.inReset 3 (k / 8) && !(s.stk k).inReset && !s.inReset 6 0 &&
        waiting.all fun w => (s.chanOf w.2.addr.toNat).map (fun t => (t.1, t.2.1)) != some (k, q)
  | _ => true

/-- R453: a posted write. -/
def postedWrite (p : Packet) : Bool := p.kind == .store || p.kind == .syncAdd

/-- The operation came as a packet. -/
def isRemote : MSrc → Bool
  | .remote _ => true
  | _ => false

/-- R454: an earlier posted write of the same source thread is not placed yet. The header names the port entry, and so the
core, but not the thread: writes of one core are kept in order (log entry 35). -/
def writeAhead (waiting : List (MSrc × Packet)) (src : MSrc) (p : Packet) : Bool :=
  isRemote src && postedWrite p && waiting.any fun w =>
    isRemote w.1 && postedWrite w.2 && w.2.srcDev == p.srcDev && w.2.ctx == p.ctx && w.2.seq.toNat / 256 == p.seq.toNat / 256

/-- The compute die, and the stack, that an address of this device lies on. -/
def Dev.unitOf (s : Dev) (a : Nat) : Option (Nat × Option Nat) :=
  match place a with
  | .hbm => (s.chanOf a).map fun t => (t.1 / 8, some t.1)
  | .store c _ => some (c / 8, none)
  | .ctr i => some (i / 16384, none)
  | _ => none

/-- R39, R54: the links that an operation of the ingress crosses to its unit: for one that the hub issues, the CD–HD link of the
unit's compute die; the link of its stack. -/
def Dev.hubLinks (s : Dev) (src : MSrc) (a : Nat) : List Nat :=
  match s.unitOf a with
  | none => []
  | some (d, k) =>
    (match src with
    | .core _ _ => []
    | _ => [4 + d]) ++ k.elim [] fun k => [0x20 + k]

/-- An operation may be taken now. -/
def Dev.mayTake (s : Dev) (waiting : List (MSrc × Packet)) (src : MSrc) (p : Packet) : Bool :=
  s.canServe waiting p && !((s.hubLinks src p.addr.toNat).any (s.linkQuiet ·)) && !writeAhead waiting src p

/-- R321, R323: the base-die request of an accepted operation. -/
def Dev.memReqOf (s : Dev) (src : MSrc) (p : Packet) (off : Nat) : MemReq :=
  let part := (s.setAt p.addr.toNat).map (·.1.owner)
  let anchor := ((s.axaAt p.addr.toNat).map (·.2)).getD 0
  let kind : MKind :=
    match p.kind with
    | .store | .copyWrite => .write
    | .accumulate => .accum
    | .fetchAdd => .fetchAdd
    | .swap => .swap
    | .compareSwap => .compareSwap
    | _ => .read
  if kind = .read ∨ kind = .write then
    let r := accessReq kind off p.size part src
    { r.filled (pktBytes p) with mask := p.mask % 2 ^ p.size * 2 ^ r.lead, poison := p.poison <<< (off / 32 - r.off / 32) }
  else
    let size := if kind = .accum then 256 else 8
    { mkReq kind (off / size * size) size part src with mask := p.mask, op1 := p.op1, op2 := p.op2, acc := p.acc, poison := p.poison, anchor }

/-- R544: a token, an increment of a group's abort counter that a peer sent, is counted (R552). -/
def Dev.tokenIn (s : Dev) (i : Nat) (p : Packet) : Dev :=
  if p.srcDev = s.devNum then s
  else s.fold s.coll.groups fun s e =>
    match e.2 with
    | some g => if g.cbase = i then s.modGroup e.1 fun g => { g with tokensIn := sat16 g.tokensIn } else s
    | none => s

/-- Apply an accepted operation at its core store or counter, or place it in its channel's queue. -/
def Dev.applyAt (s : Dev) (src : MSrc) (p : Packet) : Dev :=
  let a := p.addr.toNat
  match place a with
  | .store c off =>
    match p.kind with
    | .store | .copyWrite =>
      if s.storeWriteBad c off p.size p.mask then (s.storeWrite c off p.data p.mask).respond src [] 0 E_STORE_UNCORR
      else
        let s := s.storeWrite c off p.data p.mask
        let s := poisonStore s c off p.size p.poison
        s.respond src [] 0 E_OK
    | _ =>
      let bad := BitVec.ofNat 16 ((words32 off p.size).foldl (fun m w => if s.storeBadAt c (32 * w) 32 then m + 2 ^ (w - off / 32) else m) 0)
      let s := s.storeTouch c off p.size
      s.respond src (s.storeRead c off p.size) bad E_OK
  | .ctr i =>
    match p.kind with
    | .syncAdd =>
      let s := s.tokenIn i p
      let cause := if p.srcDev = s.devNum then E_COLL_PROGRAM else E_COLL_TOKEN
      let s := if p.op2 = 1 then s.setCtr i p.op1 cause else s.addCtr i p.op1 cause
      s.respond src [] 0 E_OK
    | _ => s.respond src (((toBytes 8 (s.ctr i).toNat).drop (a % 8)).take p.size) 0 E_OK
  | .hbm =>
    match s.chanOf a with
    | some (k, q, off) => s.enqueue k q (s.memReqOf src p off)
    | none => s
  | _ => s

/-- R453, R469: take an accepted operation: at once where its unit is ready, else in the ingress. -/
def Dev.take (s : Dev) (src : MSrc) (p : Packet) : Dev :=
  if s.mayTake s.ra.ingress src p then s.applyAt src p
  else { s with ra := { s.ra with ingress := s.ra.ingress ++ [(src, p)] } }

/-- Go through waiting operations in their order of arrival (R591); those whose unit is still not ready stay. -/
def Dev.drainGo (s : Dev) : List (MSrc × Packet) → List (MSrc × Packet) → Dev
  | [], kept => { s with ra := { s.ra with ingress := kept } }
  | w :: l, kept =>
    if s.mayTake kept w.1 w.2 then (s.applyAt w.1 w.2).drainGo l kept
    else s.drainGo l (kept ++ [w])

/-- Apply the waiting operations whose unit is ready again. -/
def Dev.drainIngress (s : Dev) : Dev := if s.ra.ingress.isEmpty then s else s.drainGo s.ra.ingress []

end Sys2Proof.Machine
end

