-- ==== Sys2Proof/Machine/Check.lean ====
section
/-! DEFINITION. The checks of a packet at its target (R440, R444, R450, R451, R462–R464, R492) and its acceptance. -/

namespace Sys2Proof.Machine

/-- A returning atomic. -/
def isAtomic : PKind → Bool
  | .fetchAdd | .swap | .compareSwap => true
  | _ => false

/-- The bytes that an access covers. -/
def accessSize (p : Packet) : Nat := if p.kind = .accumulate then 256 else if isAtomic p.kind ∨ p.kind = .syncAdd then 8 else p.size

/-- R450 check 1: the context that holds a job and is open or tearing down. -/
def Dev.jobCtx (s : Dev) (job : BitVec 24) : Option Nat :=
  findKey (fun _ c => c.job == job && (c.st == .opened || c.st == .tearing)) s.ra.ctxs

/-- R450 check 3, R440: the access lies in a range that its kind may reach. -/
def Dev.reachable (s : Dev) (p : Packet) : Bool :=
  let a := p.addr.toNat
  let n := accessSize p
  match place a with
  | .hbm => p.kind != .syncAdd && (s.chanOf a).isSome && (s.chanOf (a + n - 1)).isSome
  | .store c off =>
    (p.kind == .load || p.kind == .store || p.kind == .copyRead || p.kind == .copyWrite) && s.coreUsable c && decide (off + n ≤ storeTop)
  | .ctr _ => (p.kind == .syncAdd || (p.kind == .load && p.size == 8)) && a % 8 == 0
  | _ => false

/-- R446, R450 check 4: the region that holds the whole access. -/
def Dev.regionOf (s : Dev) (a n : Nat) : Option Region :=
  s.ra.regions.findSome? fun e => e.2.bind fun r => if r.base ≤ a ∧ a + n ≤ r.base + r.size then some r else none

/-- R446, R450 check 7: PERM allows the kind. -/
def permits (perm : BitVec 4) (k : PKind) : Bool :=
  match k with
  | .load | .copyRead => perm.getLsbD 0
  | .store | .syncAdd | .copyWrite => perm.getLsbD 1
  | .accumulate => perm.getLsbD 2
  | .fetchAdd | .swap | .compareSwap => perm.getLsbD 3
  | _ => false

/-- R450 check 8: a counter belongs to a core of the region's partition. -/
def Dev.ctrOk (s : Dev) (r : Region) (a : Nat) : Bool :=
  match place a with
  | .ctr i => s.partOfCore (i / 2048) == some r.part
  | _ => true

/-- R450 checks 3–9 and R492 for a packet whose context on this device is `n`. -/
def Dev.accessBad (s : Dev) (n : Nat) (p : Packet) : Option Code :=
  let a := p.addr.toNat
  if !s.reachable p then some E_RA_RANGE
  else match s.regionOf a (accessSize p) with
    | none => some E_RA_NO_REGION
    | some r =>
      if r.ctx ≠ n ∨ r.gen ≠ (s.ctx n).gen then some E_RA_REGION_STALE
      else if r.key ≠ p.key then some E_RA_KEY
      else if !permits r.perm p.kind then some E_RA_PERM
      else if !s.ctrOk r a then some E_RA_PART
      else if p.kind ≠ .accumulate then none
      else s.axaBad p

/-- R462: the entry of a packet in the deduplication table. -/
def Dedup.isOf (d : Dedup) (p : Packet) : Bool := d.srcDev == p.srcDev && d.ctx == p.ctx && d.seq == p.seq

/-- R463: an atomic that matches an entry is served from it, or waits for its result. -/
def Dev.dedupHit (s : Dev) (d : Dedup) (p : Packet) : Dev :=
  let s := { s with ra := { s.ra with hits := sat16 s.ra.hits } }
  match d.prior with
  | some v => s.answerPkt p (toBytes 8 v.toNat) 0 E_OK
  | none => { s with ra := { s.ra with dedup := s.ra.dedup.map fun e => if e.isOf p then { e with waiters := e.waiters ++ [p] } else e } }

/-- R462, R464: an accepted atomic takes an entry; without one it is refused. -/
def Dev.dedupEnter (s : Dev) (p : Packet) : Dev :=
  if 8192 ≤ s.ra.dedup.length then
    ({ s with ra := { s.ra with full := sat16 s.ra.full } } : Dev).answerPkt p [] 0 E_RA_DEDUP_FULL
  else
    let l := s.ra.dedup ++ [({ srcDev := p.srcDev, ctx := p.ctx, seq := p.seq, job := p.job, prior := none, waiters := [] } : Dedup)]
    ({ s with ra := { s.ra with dedup := l, peak := max s.ra.peak l.length } } : Dev).take (.remote p) p

/-- The packet as it is applied: a store and a copy write cover all their bytes. -/
def wholeMask (p : Packet) : Packet := { p with mask := ones p.size }

/-- R450, R451, R463: a request, accumulate or sync packet at the ingress of its target. -/
def Dev.acceptReq (s : Dev) (p : Packet) : Dev :=
  match s.jobCtx p.job with
  | none => s.refuse p E_RA_NO_CTX
  | some n =>
    let d := ((s.ctx n).gen - p.gen).toNat
    if 2048 ≤ d then s.refuse p E_RA_GEN_AHEAD
    else if d ≠ 0 then { s with ra := { s.ra with genDrops := sat16 s.ra.genDrops } }
    else match (if isAtomic p.kind then s.ra.dedup.find? (fun (e : Dedup) => e.isOf p) else none) with
      | some e => s.dedupHit e p
      | none =>
        match s.accessBad n p with
        | some code => s.refuse p code
        | none => if isAtomic p.kind then s.dedupEnter p else s.take (.remote (wholeMask p)) (wholeMask p)

end Sys2Proof.Machine
end

