-- ==== Sys2Proof/Machine/Combine.lean ====
section
/-! DEFINITION. Combining of accumulate packets at a hub (R502–R508, R519): absorbing, opening, flushing. -/

namespace Sys2Proof.Machine

/-- R519 `HUB.COMB_CFG`: ENABLE and DEPTH; reset 0x4001 (ENABLE 1, DEPTH 0x0040). -/
def combReset : Word := 0x4001
def Dev.combCfg (s : Dev) : Word := s.reg 0 0x0800 combReset

/-- R503: flits queued at the target hub for the channel of a line: the requests waiting in the ingress and those in the
channel's queue. -/
def Dev.chanFlits (s : Dev) (a : Nat) : Nat :=
  match s.chanOf a with
  | none => 0
  | some (k, p, _) =>
    let here := fun (b : Nat) => (s.chanOf b).map (fun t => (t.1, t.2.1)) == some (k, p)
    ((s.ra.ingress.filter fun w => here w.2.addr.toNat).map fun w =>
      flitsOf ((w.2.acc.map (·.summed)).getD false) (pktBytes w.2).length).sum +
    ((s.chan k p).queue.map fun r => flitsOf ((r.acc.map (·.summed)).getD false) r.data.length).sum

/-- R494, R495: the dyadic value of a contribution: sign and magnitude mant × 2^exp, or none for NaN and infinities. -/
def contrib (ty : Nat) (code : Nat) : Option (Bool × Nat × Int) :=
  let dec := fun (ew mw bias : Nat) (ieee : Bool) =>
    let sgn := code.testBit (ew + mw)
    let e := code / 2 ^ mw % 2 ^ ew
    let m := code % 2 ^ mw
    if ieee && e == 2 ^ ew - 1 then none
    else if !ieee && e == 2 ^ ew - 1 && m == 2 ^ mw - 1 then none
    else if e = 0 then some (sgn, m, (1 : Int) - bias - mw)
    else some (sgn, m + 2 ^ mw, (e : Int) - bias - mw)
  match ty with
  | 0 => dec 8 23 127 true
  | 1 => dec 8 7 127 true
  | 2 => dec 4 3 7 false
  | _ => dec 5 2 15 true

/-- R494: the converted contribution and the flag it raises (bit 0 RANGE, bit 1 SPECIAL). -/
def convert (ty code : Nat) (anchor : Int) : BitVec 128 × BitVec 2 :=
  match contrib ty code with
  | none => (0, 2)
  | some (sgn, m, e) =>
    let sh := e + 112 - anchor
    -- |v| ≥ 2^(A + 14) is |v| × 2^(112 − A) ≥ 2^126
    if sh ≥ 0 then
      if 126 ≤ sh && 0 < m then (0, 1)
      else
        let n := m * 2 ^ sh.toNat
        if 2 ^ 126 ≤ n then (0, 1) else (if sgn then -(BitVec.ofNat 128 n) else BitVec.ofNat 128 n, 0)
    else
      let n := if 200 ≤ -sh then 0 else m / 2 ^ (-sh).toNat
      (if sgn then -(BitVec.ofNat 128 n) else BitVec.ofNat 128 n, 0)

/-- The words of a payload: (word, addend, flags) for each set MASK bit (R496). -/
def accWords (p : AccPayload) : List (Nat × BitVec 128 × BitVec 2) :=
  let idx := (List.range 16).filter (p.mask.getLsbD ·)
  (idx.zip p.data).map fun (j, v) =>
    let carried : BitVec 2 := p.flags.extractLsb' (2 * j) 2
    if p.summed then (j, v, carried)
    else
      let r := convert p.ty v.toNat p.anchor.toInt
      (j, r.1, r.2 ||| carried)

/-- R502: the packet agrees with the entry. -/
def Comb.agrees (e : Comb) (p : Packet) (a : AccPayload) : Bool :=
  !e.awaiting && e.dstDev == p.dstDev && e.line == p.addr.toNat && e.job == p.job && e.gen == p.gen &&
    e.key == p.key && e.anchor == a.anchor

/-- Add a packet's words to an entry. -/
def Comb.absorb (e : Comb) (p : Packet) (a : AccPayload) : Comb :=
  { e with
    pkts := e.pkts ++ [p]
    mask := e.mask ||| a.mask
    flags := (accWords a).foldl (fun f w => f ||| BitVec.ofNat 32 (w.2.2.toNat * 2 ^ (2 * w.1))) e.flags
    sums := (accWords a).foldl (fun m w => put 0 m w.1 (look 0 m w.1 + w.2.1)) e.sums }

/-- An empty entry for a packet. -/
def Comb.start (p : Packet) (a : AccPayload) : Comb :=
  { awaiting := false, dstDev := p.dstDev, line := p.addr.toNat, job := p.job, gen := p.gen, key := p.key,
    anchor := a.anchor, mask := 0, flags := 0, sums := [], pkts := [] }

/-- R504: the SUMMED packet of an entry. -/
def Comb.summed (e : Comb) (i : Nat) (dev dom : Nat) (route : BitVec 39) (p : Packet) : Packet :=
  { p with
    srcDev := dev, srcDom := dom, seq := BitVec.ofNat 32 i, ctx := 0, route, vc := 2, cls := 0
    acc := some { summed := true, ty := 0, anchor := e.anchor, mask := e.mask, flags := e.flags,
                  data := ((List.range 16).filter (e.mask.getLsbD ·)).map fun j => look 0 e.sums j } }

/-- A packet that leaves an entry goes on from this hub; at its own target it takes the checks of R450. -/
def Dev.flushOut (s : Dev) (p : Packet) : Dev :=
  if p.dstDev = s.devNum ∧ p.dstDom = s.domNum then s.acceptReq p else s.send p

/-- R504: flush entry `i`: one or two RAW packets go on unchanged and the entry is free; otherwise one SUMMED packet is
sent and the entry waits. Without a route the packets are answered `E_FAB_NO_ROUTE` (R421). -/
def Dev.flush (s : Dev) (i : Nat) : Dev :=
  match s.comb i with
  | none => s
  | some e =>
    if e.awaiting then s
    else if e.pkts.length ≤ 2 && e.pkts.all (fun p => !((p.acc.map (·.summed)).getD false)) then
      (s.setComb i none).fold e.pkts fun s p => s.flushOut p
    else match e.pkts with
      | [] => s.setComb i none
      | p :: _ =>
        match s.routeWord 2 e.dstDev with
        | .error c => (s.setComb i none).fold e.pkts fun s p => s.answerPkt p [] 0 c
        | .ok r =>
          let s := s.count bankHub 0xCB
          let s := s.setComb i (some { e with awaiting := true })
          let q := e.summed i s.devNum s.domNum r p
          if q.dstDev = s.devNum ∧ q.dstDom = s.domNum then s.acceptReq q else s.sendNew q

/-- R503: handle an accumulate packet on the accumulate channel; `queued` is the measure of the queue it would join.
Answers the state and whether the packet goes on unchanged. -/
def Dev.combine (s : Dev) (p : Packet) (queued : Nat) : Dev × Bool :=
  match p.acc with
  | none => (s, true)
  | some a =>
    match findKey (fun _ e => (e.map (fun e => e.agrees p a)).getD false) s.axa.comb with
    | some i =>
      let s := s.count bankHub 0xCA
      let s := { s with axa := { s.axa with absorbed := s.axa.absorbed + 1 } }
      let s := s.setComb i ((s.comb i).map (·.absorb p a))
      (s.when (decide (64 ≤ ((s.comb i).map (·.pkts.length)).getD 0)) (·.flush i), false)
    | none =>
      if s.combCfg.getLsbD 0 && !s.axa.closed && decide (fldN s.combCfg 8 16 ≤ queued) then
        match freeKey s.axa.comb 16384 with
        | none => (s, true)
        | some i => (s.setComb i (some ((Comb.start p a).absorb p a)), false)
      else (s, true)

/-- R503: flits that wait at this hub on the accumulate channel for the segment of a packet. -/
def Dev.outFlits (s : Dev) (p : Packet) : Nat :=
  match s.next p (s.startOf p) with
  | .seg l _ _ =>
    ((s.fab.waiting.filter fun w => w.vc == 2 && (match s.next w (s.startOf w) with
      | .seg l' _ _ => l' == l
      | _ => false)).map flits).sum
  | _ => 0

/-- A packet that this device sends. One to the device itself does not enter the fabric (chapter 07): it is handed back to
the device at once, as the command of its kind. An accumulate packet to another device passes the source hub's combining
(R502). -/
def Dev.inject (s : Dev) (p : Packet) : Dev :=
  if p.dstDev = s.devNum ∧ p.dstDom = s.domNum then s.out (.packet p)
  else if p.vc = 2 then
    let s := s.count bankHub 0xC1 1 none none (some p.vc)
    let r := s.combine p (s.outFlits p)
    if r.2 then r.1.send p else r.1
  else s.sendNew p

end Sys2Proof.Machine
end

