-- ==== Sys2Proof/Machine/Crc.lean ====
section
/-! DEFINITION. CRC-32 (named by R101, R601, R602). The manual names no polynomial: that of IEEE 802.3, reflected (log entry 6). -/

namespace Sys2Proof.Machine

/-- The register after `n` bits. -/
def crcByte : Nat → Nat → Nat
  | 0, c => c
  | n + 1, c => crcByte n (if c % 2 = 1 then (c / 2) ^^^ 0xEDB88320 else c / 2)

/-- CRC-32 of bytes. -/
def crc32 (l : List Byte) : Nat := (l.foldl (fun c b => crcByte 8 (c ^^^ b.toNat)) 0xFFFFFFFF) ^^^ 0xFFFFFFFF

end Sys2Proof.Machine
end

