-- ==== Sys2Proof/Machine/Capture.lean ====
section
/-! DEFINITION. Writing captures into the crash capsule (R351, R600, R602–R604): the ring, the capture header, the record of a
thread. -/

namespace Sys2Proof.Machine

/-- Bytes of words. -/
def wordBytes (l : List Word) : List Byte := l.flatMap fun w => toBytes 8 w.toNat

/-- R603: a section: head, then its body. -/
def section_ (type : Nat) (body : List Word) : List Word := (at_ 0 type ||| at_ 32 (8 * body.length)) :: body

/-- R603: a thread record. -/
def Dev.threadRecord (s : Dev) (x : Tid) : List Word :=
  let t := s.thr x
  let w := t.work
  let n := ((s.pents x.core).filter (·.2.thr == x.thr)).length
  [at_ 0 t.pc.toNat,
   at_ 0 t.st.code ||| at_ 8 t.epoch.toNat ||| at_ 16 t.fault.toNat ||| at_ 32 (w.elim 0 (·.queue)) ||| at_ 48 (w.elim 0 (·.ctx)),
   at_ 0 (w.elim 0 (·.seq.toNat)) ||| at_ 32 n ||| at_ 48 t.remCode.toNat, (s.core x.core).cycle, 0, 0, 0, 0]

/-- Pad to a multiple of 64 bytes. -/
def pad8 (l : List Word) : List Word := l ++ List.replicate ((8 - l.length % 8) % 8) 0

/-- R107: the capsule stacks: the two lowest-numbered fitted stacks of CD0. -/
def Dev.capsuleStacks (s : Dev) : List Nat := ((List.range 8).filter (s.stackFitted ·)).take 2

/-- R600, R601: the end of the ring. -/
def Capsule.ringEnd (c : Capsule) : Nat := if c.halves = 2 then 0x10000000 else 0x08000000

/-- R600, R604: where a capture of `len` bytes starts; `lost0`, `lost1`: the stack of that half cannot be written. -/
def Capsule.place (c : Capsule) (len : Nat) (lost0 lost1 : Bool) : Nat :=
  let lo := if c.halves = 2 ∧ lost0 then 0x08001000 else 0x1000
  let hi := if c.halves = 2 ∧ lost1 then 0x08000000 else c.ringEnd
  let a := max c.head lo
  let a := if c.halves = 2 ∧ a < 0x08001000 ∧ 0x08000000 < a + len then 0x08001000 else a
  if hi < a + len then lo else a

/-- R602: write a capture of the sections given. -/
def Dev.putCapture (s : Dev) (domain unit : Nat) (cause : Code) (body : List Word) : Dev :=
  let c := s.rcv.capsule
  if c.halves = 0 then s.logE E_CAPSULE_LOST 0
  else
    let words := pad8 body
    let len := 64 + 8 * words.length
    let hdr := fun (crc : Nat) =>
      [at_ 0 0x54504143 ||| at_ 32 c.nextSeq.toNat, at_ 0 len ||| at_ 32 domain ||| at_ 48 cause.toNat,
       at_ 0 unit ||| at_ 32 s.boot.epoch.toNat, BitVec.ofNat 64 s.usec, 0, 0, 0, at_ 0 crc]
    let cap := hdr (crc32 (wordBytes (hdr 0 ++ words))) ++ words
    let lost := fun i => match s.capsuleStacks[i]? with
      | some k => (s.stk k).inReset || !s.stackUsable k
      | none => true
    let a := c.place len (lost 0) (lost 1)
    let kept := c.captures.filter fun (x : Capture) => x.off + 8 * x.words.length ≤ a || a + len ≤ x.off
    let all := kept ++ [{ off := a, seq := c.nextSeq, words := cap }]
    let c' := { c with
      head := a + len, nextSeq := c.nextSeq + 1, epoch := s.boot.epoch, captures := all
      oldest := (all.head?.map (·.seq)).getD c.nextSeq }
    { s with rcv := { s.rcv with capsule := c' } }

/-- R603: the capture of a thread reset: its record. -/
def Dev.captureThr (s : Dev) (x : Tid) (cause : Code) : Dev :=
  s.putCapture 1 (16 * x.core + x.thr) cause (section_ 0x01 (s.threadRecord x))

end Sys2Proof.Machine
end

