-- ==== Sys2Proof/Machine/Threads.lean ====
section
/-! DEFINITION. Threads: registers, the remote-access port, replies, faults, thread resets, the ends of work items
(chapter 04; R290–R305; R455–R467). -/

namespace Sys2Proof.Machine

/-! ### Registers (R154, R166) -/

def Thread.rg (t : Thread) (i : BitVec 5) : Word := if i = 0 then 0 else look 0 t.g i.toNat
def Thread.wg (t : Thread) (i : BitVec 5) (v : Word) : Thread := if i = 0 then t else { t with g := put 0 t.g i.toNat v }
def Thread.rv (t : Thread) (i : BitVec 5) : VReg := look 0 t.v i.toNat
def Thread.wv (t : Thread) (i : BitVec 5) (v : VReg) : Thread := { t with v := put 0 t.v i.toNat v }
/-- A p register; the field's low three bits name it. p0 reads all ones. -/
def Thread.rp (t : Thread) (i : BitVec 3) : PReg := if i = 0 then BitVec.allOnes 512 else look 0 t.p i.toNat
def Thread.wp (t : Thread) (i : BitVec 3) (v : PReg) : Thread := if i = 0 then t else { t with p := put 0 t.p i.toNat v }
/-- The instruction completes: the thread is READY at the next word. -/
def Thread.retire (t : Thread) : Thread :=
  { t with st := .ready, pc := t.pc + 8, wait := .none, stash := none, jumpFrom := none, line := .cached }
/-- R294: record the code of a refused posted operation. -/
def Thread.remErr (t : Thread) (code : Code) : Thread :=
  { t with remCode := if t.remCode = E_OK then code else t.remCode, remCount := sat16 t.remCount }

/-- The bytes of a register's low part, and a register from bytes. -/
def vBytes (v : VReg) (n : Nat) : List Byte := toBytes n v.toNat
def sext (w : Nat) (x : Nat) : Word := ((BitVec.ofNat w x).signExtend 64)

/-- R287, R292: write loaded bytes to a destination. A shorter load of a v register zeroes the rest. -/
def Thread.load (t : Thread) (d : Dst) (bytes : List Byte) : Thread :=
  match d with
  | .g r size sx => t.wg r (if sx then sext (8 * size) (ofBytes bytes) else BitVec.ofNat 64 (ofBytes bytes))
  | .v r _ => t.wv r (BitVec.ofNat 4096 (ofBytes bytes))
  | .p r => t.wp (r.setWidth 3) (BitVec.ofNat 512 (ofBytes bytes))

/-! ### The port (R158–R160, R533) -/

def Dev.pent (s : Dev) (c e : Nat) : Option PEntry := look none (s.core c).port e
def Dev.setPent (s : Dev) (c e : Nat) (v : Option PEntry) : Dev := s.modCore c fun k => { k with port := put none k.port e v }

/-- The group whose leg a thread runs. -/
def Thread.legOf (t : Thread) : Option Nat := t.work.bind fun w => if w.leg then some w.queue else none

/-- R533: entries of a core's port that groups reserve. -/
def Dev.reservedEntries (s : Dev) (c : Nat) : Nat :=
  ((s.coll.groups.filterMap fun e => e.2).filter (·.core == c)).foldl (fun n g => n + g.credits) 0

/-- R160, R533: an entry that an issuer may take: at most 64 per thread, a leg only from its group's reservation, the
others only outside the reservations. -/
def Dev.freeEntry (s : Dev) (c issuer : Nat) (leg : Option Nat) : Option Nat :=
  let l := s.pents c
  let own := (l.filter (·.2.thr == issuer)).length
  let room :=
    match leg with
    | some q => decide ((l.filter (·.2.group == some q)).length < ((s.group q).map (·.credits)).getD 0)
    | none => decide ((l.filter (·.2.group == none)).length < 256 - s.reservedEntries c)
  if (issuer < 16 && 64 ≤ own) || !room then none else freeKey (s.core c).port 256

/-- The tag of a port entry, carried as SEQ by all but returning atomics (R452). -/
def tagOf (c e : Nat) : BitVec 32 := BitVec.ofNat 32 (0x10000 + 256 * c + e)

/-- The packet of a thread's operation: its context, job and generation and its key register (R285, R439, R452). -/
def Dev.thrPkt (s : Dev) (x : Tid) (kind : PKind) (vc : Nat) (hga : Word) (size : Nat) : Packet :=
  let t := s.thr x
  let n := (t.work.map (·.ctx)).getD 0
  let c := s.ctx n
  { kind, ofKind := kind, vc, cls := 0, route := 0, srcDev := s.devNum, srcDom := s.domNum,
    dstDev := fldN hga 50 14, dstDom := s.domNum, ctx := n, job := c.job, gen := c.gen, seq := 0, retry := false,
    key := t.rk, addr := hga.setWidth 50, size, code := E_OK, data := [], mask := ones size, poison := 0, op1 := 0, op2 := 0, acc := none }

/-- The same fields for an access to this device by local address. -/
def Dev.localPkt (s : Dev) (x : Tid) (kind : PKind) (a : Word) (size : Nat) : Packet :=
  { s.thrPkt x kind 0 a size with dstDev := s.devNum }

/-- R455: a posted operation of the same thread to the same device is outstanding on another route, or an earlier one
still waits in the port (R295). -/
def Dev.otherRoute (s : Dev) (c : Nat) (p : PEntry) (r : BitVec 39) : Bool :=
  (s.pents c).any fun e => e.2.thr == p.thr && e.2.remote && e.2.kind == .posted && e.2.pkt.dstDev == p.pkt.dstDev &&
    ((e.2.sent && e.2.pkt.route != r) || (!e.2.sent && e.2.accepted && decide (e.2.ord < p.ord)))

/-- R291: an on-device store is held while an earlier on-device store of its thread is not acknowledged; an on-device
load while such a store to an overlapping address is not. -/
def Dev.storeAhead (s : Dev) (c : Nat) (p : PEntry) : Bool :=
  (p.pkt.kind == .store || p.pkt.kind == .load) &&
    (s.pents c).any fun e => e.2.thr == p.thr && !e.2.remote && e.2.kind == .posted && e.2.pkt.kind == .store &&
      !e.2.orphan && decide (e.2.ord < p.ord) &&
      (p.pkt.kind == .store || (decide (e.2.pkt.addr.toNat < p.pkt.addr.toNat + p.pkt.size) &&
        decide (p.pkt.addr.toNat < e.2.pkt.addr.toNat + e.2.pkt.size)))

/-- R674 sources 0x21–0x23: near and far HBM requests of a core. -/
def Dev.countHbm (s : Dev) (c : Nat) (a : Nat) : Dev :=
  match place a, s.chanOf a with
  | .hbm, some (k, _, _) =>
    let part := s.ownerOf a
    if k / 8 = c / 8 then s.count (bankDie (c / 8)) 0x21 1 none part
    else (s.count (bankDie (c / 8)) 0x22 1 none part).count (bankDie (k / 8)) 0x23 1 none part
  | _, _ => s

/-- R24: the CD–CD link between two compute dies, where there is one. -/
def linkBetween (a b : Nat) : Option Nat := if (a + 1) % 4 = b then some a else if (b + 1) % 4 = a then some b else none

/-- R38, R39: the links that an access of a core to an address of this device crosses. -/
def Dev.pathLinks (s : Dev) (c a : Nat) : List Nat :=
  match s.unitOf a with
  | none => []
  | some (d, k) =>
    k.elim [] (fun k => [0x20 + k]) ++
      if d = c / 8 then []
      else match linkBetween (c / 8) d with
        | some l => if s.d2d.viaHub.contains l then [4 + c / 8, 4 + d] else [l]
        | none => [4 + c / 8, 4 + d]

/-- R38, R41, R42, R54: an access of a core to an address of this device waits: its path is being changed or retrains, or
the target's compute die is in reset. -/
def Dev.pathHeld (s : Dev) (c : Nat) (a : Nat) : Bool :=
  (s.pathLinks c a).any (s.linkQuiet ·) ||
    (s.unitOf a).any fun u => u.1 != c / 8 && (s.inReset 3 u.1 || (linkBetween (c / 8) u.1).any (s.pathMoves ·))

/-- R56: a request may take up a read of the die of core `c` in the granule of `off`: it is a far READ of a core of that die, and
no later request of the queue writes to the granule. -/
def takesUp (q : List MemReq) (c off i : Nat) (r : MemReq) : Bool :=
  r.kind == .read && r.off / 512 == off / 512 && (match r.src with
    | .core d _ => d / 8 == c / 8
    | _ => false) &&
    (q.drop (i + 1)).all fun w => w.kind == .read || w.off / 512 != off / 512

/-- R56: the request with a further read of its granule. -/
def MemReq.carry (r : MemReq) (x : Rider) : MemReq :=
  let lo := min (r.off + r.lead) x.off
  let b := blockOf (min lo r.off) (max (r.off + r.size) (x.off + x.len) - min lo r.off)
  { r with off := b.1, size := b.2, lead := r.off + r.lead - b.1, riders := r.riders ++ [x] }

/-- R56 FAR_COALESCE, of class 2: the network of a die merges a far read into one that is outstanding to the same 512 B granule
(source 0x80 of R674). -/
def Dev.coalesce (s : Dev) (c e : Nat) (p : Packet) : Option Dev :=
  if s.boot.compatClass ≠ 2 ∨ p.kind ≠ .load then none
  else match place p.addr.toNat, s.chanOf p.addr.toNat with
    | .hbm, some (k, h, off) =>
      if k / 8 = c / 8 then none
      else
        let q := (s.chan k h).queue
        (q.zipIdx.find? fun t => takesUp q c off t.2 t.1).map fun t =>
          (s.modChan k h fun n => { n with queue := Sys2Proof.setAt n.queue t.2 (t.1.carry ⟨.core c e, off, p.size⟩) }).count (bankDie (c / 8)) 0x80
    | _, _ => none

/-- Send the operation of entry `e`: into the fabric by its route (R410, R420), or to its unit on this device. Without a
route it ends at its source with the code (R403, R420). -/
def Dev.sendEntry (s : Dev) (c e : Nat) : Dev :=
  match s.pent c e with
  | none => s
  | some p =>
    if p.remote then
      if s.linkQuiet (4 + c / 8) then s
      else match s.routeWord p.pkt.vc p.pkt.dstDev with
      | .error code =>
        (s.setPent c e (some { p with sent := true, attempts := p.attempts + 1 })).modCore c fun k =>
          { k with replies := k.replies ++ [{ entry := e, data := [], poison := 0, code }] }
      | .ok r =>
        if p.kind == .posted && s.otherRoute c p r then s
        else
          let pkt := { p.pkt with route := r, retry := decide (0 < p.attempts) && (match p.kind with | .atomic _ => true | .load _ => true | _ => false) }
          (s.setPent c e (some { p with sent := true, attempts := p.attempts + 1, pkt })).inject pkt
    else if s.storeAhead c p || s.pathHeld c p.pkt.addr.toNat then s
    else
      let s := (s.setPent c e (some { p with sent := true, attempts := 1 })).countHbm c p.pkt.addr.toNat
      (s.coalesce c e p.pkt).getD (s.take (.core c e) p.pkt)

/-- The operations of a thread that its port holds back are sent in issue order, as far as R455 allows. -/
def Dev.flushHeld (s : Dev) (c issuer : Nat) : Dev :=
  let held := ((s.pents c).filter fun e => e.2.thr == issuer && e.2.accepted && !e.2.sent && e.2.kind != .qpost)
  s.fold (sortBy (fun e => e.2.ord) held) fun s e => s.sendEntry c e.1

/-- Every operation that a port holds back is tried again. -/
def Dev.flushAll (s : Dev) : Dev :=
  s.fold s.cores fun s c =>
    s.fold (((s.pents c.1).filter fun e => e.2.accepted && !e.2.sent).foldl (fun l e => addNew l e.2.thr) []) fun s t => s.flushHeld c.1 t

/-- R304: an earlier off-core operation of the thread is neither acknowledged nor orphaned. -/
def Dev.outstanding (s : Dev) (x : Tid) (onDevice : Bool) : Bool :=
  (s.pents x.core).any fun e => e.2.thr == x.thr && !e.2.orphan &&
    (!onDevice || !e.2.remote || e.2.pkt.dstDev == s.devNum)

/-- Take a port entry for an operation of thread `x`. -/
def Dev.alloc (s : Dev) (x : Tid) (e : Nat) (kind : EntryKind) (p : Packet) (remote accepted : Bool) : Dev :=
  let t := s.thr x
  let ent : PEntry :=
    { thr := x.thr, kind, epoch := t.epoch, orphan := false, accepted, sent := false, ord := (s.core x.core).nextOrd,
      remote, pkt := p, attempts := 0, timedOut := false, group := t.legOf,
      queue := (t.work.map (·.queue)).getD 0, wseq := (t.work.map (·.seq)).getD 0 }
  (s.setPent x.core e (some ent)).modCore x.core fun k => { k with nextOrd := k.nextOrd + 1 }

/-- R160: the instruction waits for an entry; PORT_ENTRY_FREE issues it. -/
def Dev.parkPort (s : Dev) (x : Tid) (opc : BitVec 8) (i : Insn) : Dev :=
  s.modThr x fun t => { t with st := .parkedPort, stash := some { opc, insn := i } }

/-- R456: the code with which the port holds back posted operations of a thread to a device. -/
def Thread.blockOf (t : Thread) (dev : Nat) : Option Code := (t.blocked.find? (·.1 == dev)).map (·.2)

/-- R159, R294: a posted operation waits for the port to accept it. -/
def Dev.postOp (s : Dev) (x : Tid) (opc : BitVec 8) (i : Insn) (p : Packet) (remote : Bool) : Dev :=
  match s.freeEntry x.core x.thr (s.thr x).legOf with
  | none => s.parkPort x opc i
  | some e =>
    let s := s.count (bankCore x.core) 0x0D 1 (some x.thr)
    let p := { p with seq := tagOf x.core e }
    (s.alloc x e .posted p remote false).modThr x fun t => { t with st := .parkedPort, stash := none, wait := .none }

/-- R159, R456: the port accepts entry `e` of thread `x`, whose thread goes on. Under a block it is not sent and is
reported. -/
def Dev.acceptEntry (s : Dev) (x : Tid) (e : Nat) (p : PEntry) : Dev :=
  match (if p.remote then (s.thr x).blockOf p.pkt.dstDev else none) with
  | some code => (s.setPent x.core e none).modThr x fun t => (t.remErr code).retire
  | none => ((s.setPent x.core e (some { p with accepted := true })).modThr x Thread.retire).flushHeld x.core x.thr

/-- R158, R293: a returning operation is sent and its thread waits for the reply. -/
def Dev.callOp (s : Dev) (x : Tid) (opc : BitVec 8) (i : Insn) (kind : EntryKind) (p : Packet) (remote : Bool) : Dev :=
  match s.freeEntry x.core x.thr (s.thr x).legOf with
  | none => s.parkPort x opc i
  | some e =>
    let s := s.count (bankCore x.core) (match kind with | .atomic _ => 0x0E | _ => 0x0C) 1 (some x.thr)
    -- R461: a returning atomic takes the next SEQ of its context
    let r := match kind with
      | .atomic _ => (s.modCtx p.ctx fun c => { c with seq := c.seq + 1 }, { p with seq := (s.ctx p.ctx).seq })
      | _ => (s, { p with seq := tagOf x.core e })
    ((r.1.alloc x e kind r.2 remote true).sendEntry x.core e).modThr x fun t =>
      { t with st := .parkedAccess, stash := none, wait := .none }

/-! ### The ends of work items, faults and thread resets (R155, R177, R180, R531) -/

/-- R527 STATUS of a group's control block. -/
def Dev.gcbStatus (s : Dev) (g : Group) : Code :=
  match place g.gcb.toNat with
  | .store c off => BitVec.ofNat 16 (ofBytes (s.storeRead c (off + 16) 2))
  | _ => E_OK

/-- R531: a leg ended; after the last one the entry completes with STATUS. -/
def Dev.legEnd (s : Dev) (q : Nat) (normal : Bool) : Dev :=
  match s.group q with
  | none => s
  | some g =>
    let s := s.modGroup q fun g => { g with legRunning := false }
    if g.st = .aborted || !normal then s
    else if g.leg + 1 < g.legs then s.modGroup q fun g => { g with leg := g.leg + 1 }
    else
      let s := s.modGroup q fun g => { g with st := .idle, head := none, leg := 0 }
      g.head.elim s fun seq => s.complete q seq (s.gcbStatus g)

/-- The work item of a thread ends with a code. -/
def Dev.endItem (s : Dev) (x : Tid) (code : Code) (normal : Bool) : Dev :=
  match (s.thr x).work with
  | none => s
  | some w =>
    let s := s.modThr x fun t => { t with work := none }
    if w.leg then s.legEnd w.queue normal else s.complete w.queue w.seq code

/-- R180 steps 3 and 4: registers zeroed, the epoch advances, the work item completes, the thread is EMPTY. -/
def Dev.finishReset (s : Dev) (x : Tid) : Dev :=
  let s := s.endItem x (s.thr x).resetCode false
  let s := s.modThr x fun t => { epoch := t.epoch + 1 }
  s.modCore x.core fun k => { k with thrReset := k.thrReset &&& ~~~(BitVec.ofNat 16 (2 ^ x.thr)) }

/-- R180 step 2: the reset waits for the posted operations of the thread. -/
def Dev.tryFinish (s : Dev) (x : Tid) : Dev :=
  if (s.thr x).st = .resetting ∧ !s.outstanding x false then s.finishReset x else s

/-- R180, R187: what a reset of its thread makes of a port entry: a posted operation that the port has accepted goes on to its
target, every other is orphaned, and only what ends an orphan frees it (R181). -/
def PEntry.atReset (p : PEntry) : PEntry := if p.accepted ∧ p.kind = .posted then p else { p with orphan := true }

/-- R180: a thread goes into RESETTING, with the code its work item ends with; one that coincides with a reset of its core is
absorbed (R186). -/
def Dev.startReset (s : Dev) (x : Tid) (code cause : Code) : Dev :=
  if s.coreBusy x.core then s else
  let s := (s.lastReset 1 (16 * x.core + x.thr) cause).reloadHit x.core
  let s := match (s.thr x).legOf with
    | some q => if ((s.group q).bind (fun g => g.raised)) = none then s.raiseGroup q code else s
    | none => s
  let s := s.modThr x fun t =>
    { t with st := .resetting, resetCode := code, stash := none, wait := .none, awaiting := [], jumpFrom := none, blocked := [] }
  let s := s.modCore x.core fun k =>
    { k with port := k.port.map fun (e : Nat × Option PEntry) =>
        (e.1, e.2.map fun p => if p.thr = x.thr then p.atReset else p) }
  s.tryFinish x

/-- R180, R603: a thread is reset: its record is captured first. -/
def Dev.beginReset (s : Dev) (x : Tid) (code cause : Code) : Dev :=
  if s.coreBusy x.core then s else (s.captureThr x cause).startReset x code cause

/-- R177: a thread faults: the fault is recorded, the work item completes with the fault code, a thread reset begins. A
fetch fault of a jump's target names the jump (R282). -/
def Dev.faultThr (s : Dev) (x : Tid) (code : Code) : Dev :=
  let t := s.thr x
  let pc := if code = E_FETCH_ADDR then t.jumpFrom.getD t.pc else t.pc
  let s := s.modCore x.core fun k =>
    if k.fValid then { k with fOver := true }
    else { k with fValid := true, fThread := x.thr, fCode := code, fPc := pc }
  let s := s.modThr x fun t => { t with fault := code, st := .faulted }
  let s := s.when (!s.coreBusy x.core) (·.captureThr x code)
  let s := s.eventTo (s.partOfCore x.core) 10 code (16 * x.core + x.thr)
  let s := match t.work with
    | some w => if w.leg then s.raiseGroup w.queue code else s.endItem x code false
    | none => s
  s.startReset x code code

/-! ### Replies (R159, R181, R293, R294, R465, R467) -/

/-- R305: a FENCE ends: gd takes the code of REMERR, which clears; blocks end under R456. -/
def Thread.fenceEnd (t : Thread) (fn1 : Bool) (gd : BitVec 5) (dev : Nat) : Thread :=
  { ((t.wg gd (t.remCode.setWidth 64)).retire) with
    remCode := E_OK, remCount := 0, blocked := if fn1 then t.blocked.filter (·.1 ≠ dev) else [] }

/-- Fields of zeros. -/
def noFields : Insn := { d := 0, a := 0, b := 0, c := 0, fn := 0, upper := 0 }

/-- A thread that waits for acknowledgements goes on when none is missing: FENCE (R304, R305) or a release SADD (R300). -/
def Dev.ackWake (s : Dev) (x : Tid) : Dev :=
  let t := s.thr x
  match t.wait with
  | .fence fn1 gd =>
    if t.st = .parkedAccess ∧ !s.outstanding x fn1 then s.modThr x fun t => t.fenceEnd fn1 gd s.devNum else s
  | .rel p remote =>
    if t.st = .parkedAccess ∧ !s.outstanding x false then s.postOp x 0x60 noFields p remote else s
  | _ => s

/-- An entry is freed; what waited for it goes on. -/
def Dev.freeEnt (s : Dev) (c e : Nat) : Dev :=
  match s.pent c e with
  | none => s
  | some p =>
    let s := s.setPent c e none
    let s := s.flushHeld c p.thr
    if p.thr < 16 then (s.ackWake ⟨c, p.thr⟩).tryFinish ⟨c, p.thr⟩ else s

/-- R467: the work item of a posted operation has completed. -/
def Dev.itemRuns (s : Dev) (c : Nat) (p : PEntry) : Bool :=
  match (s.thr ⟨c, p.thr⟩).work with
  | some w => w.queue == p.queue && w.seq == p.wseq && (s.thr ⟨c, p.thr⟩).epoch == p.epoch
  | none => false

/-- R485: record an error of a context. -/
def Dev.ctxErr (s : Dev) (n : Nat) (code : Code) (target : Nat) : Dev :=
  s.modCtx n fun c =>
    if c.eValid then { c with eOver := true } else { c with eValid := true, eCode := code, eTarget := target }

/-- R467: a late refusal is recorded in the context and reported to its partition, whose event vector is sent also without a ring. -/
def Dev.lateRefusal (s : Dev) (n : Nat) (code : Code) (target : Nat) : Dev :=
  let s := s.ctxErr n code target
  let part := (s.ctx n).part
  if (s.ring part).log2 = 0 then s.msix (s.portOf part) (1 + part) else s.event part 5 code target

/-- R475: a lost target, at most once per target per 1 ms. -/
def Dev.targetLost (s : Dev) (n : Nat) (dev : Nat) (code : Code) : Dev :=
  if s.ra.lost.any (fun l => l.1 == dev && decide (s.clock < l.2 + 1)) then s
  else
    let s := { s with ra := { s.ra with lost := (dev, s.clock) :: s.ra.lost.filter (·.1 ≠ dev) } }
    s.event (s.ctx n).part 6 code dev

/-- The issuer number of an array at the port: 16 and 17. -/
def arrIssuer (a : Nat) : Nat := 16 + a

/-- R268: take a port entry for an operation of an array and send it; at most 64 entries per array. -/
def Dev.arraySend (s : Dev) (c a id : Nat) (tsync : Bool) (p : Packet) : Option Dev :=
  if 64 ≤ ((s.pents c).filter (·.2.thr == arrIssuer a)).length then none
  else match s.freeEntry c (arrIssuer a) none with
    | none => none
    | some e =>
      let ent : PEntry :=
        { thr := arrIssuer a, kind := .mracc a id tsync, epoch := 0, orphan := false, accepted := true, sent := false,
          ord := (s.core c).nextOrd, remote := true, pkt := { p with seq := tagOf c e }, attempts := 0, timedOut := false,
          group := none, queue := 0, wseq := 0 }
      let s := (s.setPent c e (some ent)).modCore c fun k => { k with nextOrd := k.nextOrd + 1 }
      some (s.sendEntry c e)

/-- R268: the header of an array instruction's operations. -/
def Dev.arrayPkt (s : Dev) (k : ArrInsn) (kind : PKind) (vc : Nat) (hga : Word) (size : Nat) : Packet :=
  { kind, ofKind := kind, vc, cls := 0, route := 0, srcDev := s.devNum, srcDom := s.domNum, dstDev := fldN hga 50 14,
    dstDom := s.domNum, ctx := k.ctx, job := k.job, gen := k.gen, seq := 0, retry := false, key := k.desc.key,
    addr := hga.setWidth 50, size, code := E_OK, data := [], mask := ones size, poison := 0, op1 := 0, op2 := 0, acc := none }

/-- R269: when every operation of an MRACC is acknowledged, its TSYNC increment is sent. -/
def Dev.tsyncTry (s : Dev) (c a id : Nat) : Dev :=
  match (s.arr c a).queue.find? (·.id == id) with
  | some k =>
    if k.kind = .mracc ∧ k.done ∧ k.out = 0 ∧ k.tsync = 0 ∧ k.code = E_OK ∧ k.desc.tsync ≠ 0 then
      match s.arraySend c a id true { s.arrayPkt k .syncAdd 3 k.desc.tsync 8 with op1 := 1 } with
      | some s => s.modArr c a fun m => { m with queue := m.queue.map fun i => if i.id = id then { i with tsync := 1 } else i }
      | none => s
    else s
  | none => s

/-- R268–R270, R510: the answer of an array's operation. -/
def Dev.ackArray (s : Dev) (c a id : Nat) (tsync : Bool) (code : Code) : Dev :=
  let s := s.modArr c a fun m => { m with queue := m.queue.map fun k =>
    if k.id ≠ id then k
    else if tsync then { k with tsync := 2, code := if k.code = E_OK then code else k.code }
    else { k with out := k.out - 1, code := if k.code = E_OK then code else k.code,
                  done := k.done || decide (code ≠ E_OK) } }
  s.tsyncTry c a id

/-- R456: a block begins: the operations that the port holds back are not sent and are reported with the code. -/
def Dev.beginBlock (s : Dev) (x : Tid) (dev : Nat) (code : Code) : Dev :=
  let s := s.modThr x fun t => { t.remErr code with blocked := addNew t.blocked (dev, code) }
  s.fold ((s.pents x.core).filter fun e => e.2.thr == x.thr && e.2.remote && e.2.kind == .posted && e.2.accepted &&
      !e.2.sent && e.2.pkt.dstDev == dev) fun s e =>
    (s.setPent x.core e.1 none).modThr x fun t => t.remErr code

/-- The reply or acknowledgement of entry `e` is taken up. -/
def Dev.takeReply (s : Dev) (c e : Nat) (data : List Byte) (poison : BitVec 16) (code : Code) : Dev :=
  match s.pent c e with
  | none => s
  | some p =>
    let x : Tid := ⟨c, p.thr⟩
    match p.kind with
    | .mracc a id ts => if p.orphan then s.freeEnt c e else (s.freeEnt c e).ackArray c a id ts code
    | .qpost => s
    | .posted =>
      if p.orphan then s.freeEnt c e
      else if code = E_OK then s.freeEnt c e
      else if s.itemRuns c p then
        let s := if p.remote then s.beginBlock x p.pkt.dstDev code else s.modThr x fun t => t.remErr code
        let s := s.when (p.remote && code == E_FAB_NO_ROUTE) (·.targetLost p.pkt.ctx p.pkt.dstDev code)
        s.freeEnt c e
      else if (s.thr x).epoch = p.epoch then (s.lateRefusal p.pkt.ctx code p.pkt.dstDev).freeEnt c e
      else s.freeEnt c e
    | .load d =>
      if p.orphan then s.freeEnt c e
      else
        let s := s.when (p.remote && code == E_FAB_NO_ROUTE) (·.targetLost p.pkt.ctx p.pkt.dstDev code)
        let s := s.freeEnt c e
        if code ≠ E_OK then s.faultThr x code
        else if poison ≠ 0 then s.faultThr x E_LOAD_POISON
        else s.modThr x fun t => (t.load d data).retire
    | .atomic gd =>
      if p.orphan then s.freeEnt c e
      else
        let s := s.when (p.remote && code == E_FAB_NO_ROUTE) (·.targetLost p.pkt.ctx p.pkt.dstDev code)
        let s := s.freeEnt c e
        if code ≠ E_OK then s.faultThr x code
        else s.modThr x fun t => (t.wg gd (BitVec.ofNat 64 (ofBytes data))).retire

end Sys2Proof.Machine
end

