-- ==== Sys2Proof/Machine/Groups.lean ====
section
/-! DEFINITION. Group records and their aborts, context teardown, snapshots, and what settles after every command:
raised aborts are acted on, freed groups go, heads are numbered, waiting threads wake (R301, R471, R526–R531, R544–R547,
R679, R680). -/

namespace Sys2Proof.Machine

/-! ### Snapshots -/

/-- R680: a snapshot. SNAP_TIME is by the model's clock (log entry 5). -/
def Dev.snap (s : Dev) : Dev :=
  { s with evc := { s.evc with
      banks := s.evc.banks.map fun e =>
        if s.bankInReset e.1 then e
        else (e.1, { e.2 with ctrs := e.2.ctrs.map fun c => (c.1, { c.2 with snap := c.2.value }) })
      seq := s.evc.seq + 1
      time := BitVec.ofNat 64 (1000 * s.usec) } }

/-- R678: SNAP_CTL.COUNTER and SNAP_TARGET, plain registers of block 0x60. -/
def Dev.snapCtr (s : Dev) : Nat := fldN (s.reg 0x60 0x10000) 0 16
def Dev.snapTarget (s : Dev) : Word := s.reg 0x60 0x10008

/-- A counter has reached a target: (int64)(counter − target) ≥ 0. -/
def reached (v target : Word) : Bool := decide (0 ≤ (v - target).toInt)

/-- R679: the armed trigger holds, at the value of the counter or at one it took in this step. -/
def Dev.snapTrigger (s : Dev) : Dev :=
  if s.evc.arm && (reached (s.ctr s.snapCtr) s.snapTarget || s.coll.seen.any fun v => v.1 == s.snapCtr && reached v.2 s.snapTarget) then
    { s.snap with evc := { s.snap.evc with arm := false } }
  else s

/-! ### Group records -/

/-- R527: write the group control block. -/
def Dev.writeGcb (s : Dev) (g : Group) (state : Nat) (zeroStatus : Bool) : Dev :=
  match place g.gcb.toNat with
  | .store c off =>
    let status := if zeroStatus then 0 else (s.gcbStatus g).toNat
    s.storeWrite c off
      (toBytes 8 g.inst.toNat ++ toBytes 4 g.leg ++ toBytes 4 g.legs ++ toBytes 2 status ++ toBytes 2 state ++
        toBytes 4 g.cause.toNat ++ toBytes 4 g.rank ++ toBytes 4 g.p ++ toBytes 8 g.mtab.toNat ++ toBytes 2 g.cbase ++
        toBytes 2 g.ccount ++ toBytes 20 0) (ones 64)
  | _ => s

/-- R545: STATE and CAUSE of the control block of an aborted group. -/
def Dev.markGcb (s : Dev) (g : Group) (cause : Code) : Dev :=
  match place g.gcb.toNat with
  | .store c off => (s.storeWrite c (off + 18) (toBytes 1 2) 1).storeWrite c (off + 20) (toBytes 2 cause.toNat) 3
  | _ => s

/-- Eight bytes of a table in the memory of this device. -/
def Dev.peek8 (s : Dev) (a : Nat) : Nat :=
  match place a with
  | .hbm => (s.chanOf a).elim 0 fun t => ofBytes (getBytes s.mem.data (memKey t.1 t.2.1 t.2.2) 8)
  | .store c off => ofBytes (s.storeRead c off 8)
  | _ => 0

/-- R546: the flood set of P members. -/
def floodSet (p : Nat) : List Nat :=
  ((List.range 5).flatMap fun k => (span 1 7).map fun i => i * 8 ^ k).filter (· < p)

/-- The tag of a token: no port entry waits for it. -/
def tokenTag (q : Nat) : BitVec 32 := BitVec.ofNat 32 (0x40000000 + q)

/-- R546: the tokens of a member. -/
def Dev.sendTokens (s : Dev) (g : Group) : Dev :=
  s.fold (floodSet g.p) fun s d =>
    let m := s.peek8 (g.mtab.toNat + 8 * ((g.rank + d) % g.p))
    let dst := m % 2 ^ 14
    match s.routeWord 3 dst with
    | .error _ => { s with coll := { s.coll with refused := sat16 s.coll.refused } }
    | .ok r =>
      (s.count bankHub 0xCD).inject
        { kind := .syncAdd, ofKind := .syncAdd, vc := 3, cls := 0, route := r, srcDev := s.devNum, srcDom := s.domNum,
          dstDev := dst, dstDom := s.domNum, ctx := g.ctx, job := (s.ctx g.ctx).job, gen := g.gen, seq := tokenTag g.queue,
          retry := false, key := BitVec.ofNat 32 (m / 2 ^ 32), addr := BitVec.ofNat 50 (0x030000000000 + 8 * (m / 2 ^ 16 % 2 ^ 16)),
          size := 8, code := E_OK, data := [], mask := 0, poison := 0, op1 := 1, op2 := 0, acc := none }

/-- The threads of a core that run a leg of queue `q`. -/
def Dev.legThreads (s : Dev) (q : Nat) : List Tid :=
  s.cores.flatMap fun c => c.2.threads.filterMap fun t => if t.2.legOf = some q then some ⟨c.1, t.1⟩ else none

/-- R545: complete every entry of a queue. -/
def Dev.completeAll (s : Dev) (q : Nat) (code : Code) : Dev :=
  s.fold (s.queue q).entries fun s e => s.complete q e.seq code

/-- R545: the group acts on its abort. -/
def Dev.abortGroup (s : Dev) (q : Nat) : Dev :=
  match s.group q with
  | none => s
  | some g =>
    let cause := g.raised.getD E_COLL_PROGRAM
    let s := s.modGroup q fun g => { g with st := .aborted, cause, raised := none }
    let s := s.markGcb g cause
    let s := s.sendTokens g
    let s := s.fold (s.legThreads q) fun s x => s.beginReset x E_COLL_ABORT E_COLL_ABORT
    let s := if g.st = .running then g.head.elim s fun seq => s.complete q seq E_COLL_ABORT else s
    let s := s.completeAll q E_COLL_ABORTED
    let s := { s with coll := { s.coll with aborts := sat16 s.coll.aborts } }
    (s.logE cause q).eventTo (some g.part) 7 cause q

/-- Act on the aborts raised, one group at a time; a group aborts once, so the number of groups bounds the rounds. -/
def Dev.abortLoop : Nat → Dev → Dev
  | 0, s => s
  | n + 1, s =>
    match findKey (fun _ g => (g.map (fun g => g.raised.isSome && decide (g.st ≠ .aborted))).getD false) s.coll.groups with
    | none => s
    | some q => Dev.abortLoop n (s.abortGroup q)

/-- R528: free an aborted group whose destruction was asked for, once no leg of it runs. -/
def Dev.freeGroups (s : Dev) : Dev :=
  s.fold s.coll.groups fun s e =>
    match s.group e.1 with
    | some g =>
      match g.destroying with
      | some l =>
        if g.legRunning || decide (g.st ≠ .aborted) then s
        else
          let s := s.setGroup e.1 none
          let s := { s with coll := { s.coll with freed := (g.cbase, g.ccount, s.clock) :: s.coll.freed } }
          s.fold l fun s i => s.answer i E_OK
      | none => s
    | none => s

/-- R531: when an entry becomes the head of its queue, INST rises by one. -/
def Dev.raiseHeads (s : Dev) : Dev :=
  s.fold s.coll.groups fun s e =>
    match e.2, (s.queue e.1).entries with
    | some g, ent :: _ =>
      if g.head = none ∧ g.st = .idle then
        s.modGroup e.1 fun g =>
          { g with head := some ent.seq, inst := g.inst + 1, leg := 0, legs := ebytes ent.e 40 2 + 1 }
      else s
    | _, _ => s

/-- R301: a thread whose condition holds, or held at one of the values `seen`, is released with `E_OK`. -/
def Thread.wakeSync (t : Thread) (sync : SMap Word) (seen : List (Nat × Word)) : Thread :=
  match t.st, t.wait with
  | .parkedSync, .sync c target gd _ =>
    if reached (look 0 sync c) target || seen.any (fun v => v.1 == c && reached v.2 target) then (t.wg gd 0).retire else t
  | _, _ => t

/-- R301, R302: every waiting thread evaluates each value its counter took. -/
def Dev.wakeAll (s : Dev) : Dev :=
  { s with
    cores := s.cores.map fun c => (c.1, { c.2 with threads := c.2.threads.map fun t => (t.1, t.2.wakeSync s.sync s.coll.seen) })
    coll := { s.coll with seen := [] } }

/-- R574: a forwarded management command at the head of its queue is sent to its target on the management channel; where
the target cannot be reached it completes with `E_FAB_NO_ROUTE` (R582). -/
def Dev.forwardHeads (s : Dev) : Dev :=
  s.fold s.host.queues fun s e =>
    match (s.queue e.1).entries with
    | ent :: _ =>
      if eKind ent.e = 5 ∧ ent.started = false ∧ (eEntry ent.e).testBit 15 ∧ (s.queue e.1).heldFrom.isNone then
        let dst := eEntry ent.e % 2 ^ 14
        let s := s.modQueue e.1 fun q => { q with entries := q.entries.map fun x => if x.seq = ent.seq then { x with started := true } else x }
        match s.routeWord 5 dst with
        | .error _ => s.complete e.1 ent.seq E_FAB_NO_ROUTE
        | .ok _ => s.out (.mgmt dst ent.e)
      else s
    | [] => s

/-- What settles at the end of every command, but for the waiting threads. -/
def Dev.settle (s : Dev) : Dev :=
  let s := s.drainIngress.flushAll
  let s := Dev.abortLoop (s.coll.groups.length + 1) s
  let s := s.freeGroups.forwardHeads
  let s := Dev.abortLoop (s.coll.groups.length + 1) s
  s.raiseHeads.snapTrigger

/-- R301: no thread waits for a counter that has reached its target. -/
def Dev.settled (s : Dev) : Bool :=
  s.cores.all fun c => c.2.threads.all fun t =>
    match t.2.st, t.2.wait with
    | .parkedSync, .sync k target _ _ => !reached (look 0 s.sync k) target
    | _, _ => true

/-! ### Context teardown (R471) -/

/-- Threads that run work of a context. -/
def Dev.ctxThreads (s : Dev) (n : Nat) : List Tid :=
  s.cores.flatMap fun c => c.2.threads.filterMap fun t =>
    if (t.2.work.map (·.ctx)) = some n then some ⟨c.1, t.1⟩ else none

/-- The queue entries that name a context and have not started. -/
def Dev.ctxEntries (s : Dev) (n : Nat) : List (Nat × BitVec 32) :=
  s.host.queues.flatMap fun q => q.2.entries.filterMap fun e =>
    if eKind e.e ≠ 5 && eCtx e.e == n && !e.started && decide (s.qType q.1 ≠ 3 ∨ (s.group q.1).isNone) then some (q.1, e.seq) else none

/-- R471 steps 1–4: GEN rises, the context is tearing down; entries, threads, copies and groups of it end. -/
def Dev.teardown (s : Dev) (n : Nat) : Dev :=
  if (s.ctx n).st ≠ .opened then s
  else
    let job := (s.ctx n).job
    let s := s.modCtx n fun c => { c with st := .tearing, gen := c.gen + 1 }
    let s := s.fold s.coll.groups fun s e =>
      match e.2 with
      | some g => if g.ctx = n then s.raiseGroup e.1 E_RA_CTX_TEARDOWN else s
      | none => s
    let s := s.fold (s.ctxEntries n) fun s e => s.complete e.1 e.2 E_RA_CTX_CLOSED
    let s := s.fold (s.ctxThreads n) fun s x =>
      let s := s.modCore x.core fun k => { k with port := k.port.map fun (e : Nat × Option PEntry) =>
        (e.1, e.2.map fun p => if p.thr = x.thr ∧ p.accepted then { p with orphan := true } else p) }
      s.beginReset x E_RA_CTX_TEARDOWN E_RA_CTX_TEARDOWN
    let s := s.fold s.copy.runs fun s r =>
      match r.2 with
      | some run => if run.ctx = n then (s.setRun r.1 none).complete run.queue run.seq E_RA_CTX_TEARDOWN else s
      | none => s
    { s with ra := { s.ra with dedup := s.ra.dedup.filter (·.job ≠ job) } }

/-- R466: an indeterminate outcome ends the context. -/
def Dev.indeterminate (s : Dev) (n : Nat) (target : Nat) : Dev :=
  let s := s.logE E_RA_INDETERMINATE target
  let s := { s with ra := { s.ra with indet := sat16 s.ra.indet } }
  let s := s.ctxErr n E_RA_INDETERMINATE target
  let s := s.event (s.ctx n).part 5 E_RA_INDETERMINATE target
  let s := s.targetLost n target E_RA_INDETERMINATE
  s.teardown n

end Sys2Proof.Machine
end

