-- ==== Sys2Proof/Machine/Queues.lean ====
section
/-! DEFINITION. Hardware queues: what a queue accepts, holding, posting, starting (R563–R568, R574). -/

namespace Sys2Proof.Machine

/-- R134, R563, R585: dispatch of a queue is held: a reload drain of its partition, an attention drain in phase 3 or
later, a device reset. -/
def Dev.qHeld (s : Dev) (q : Nat) : Bool :=
  (match s.img.reload with
   | some r => r.phase == .drain && s.qOwner q == some r.part
   | none => false) || decide (3 ≤ s.rcv.phase) || s.inReset 6 0

/-- R567: the bytes of an entry that a kind reserves are zero. -/
def reservedZero (e : Entry) : Bool :=
  let z := fun off n => ebytes e off n == 0
  let fl := eFlags e
  let common := fl < 64 && ebytes e 2 2 < 1024
  match eKind e with
  | 1 => common && fl < 8 && z 6 2 && z 32 32
  | 2 => common && !fl.testBit 3 && z 6 2 && z 8 8 && z 16 8 && z 61 3
  | 3 => common && !fl.testBit 4 && z 6 2 && z 8 8 && z 16 8 && ebytes e 48 4 < 2 ^ 25 && z 52 4 && z 60 4
  | 4 => common && fl < 8 && z 4 2 && z 6 2 && z 42 2 && ebytes e 44 4 / 2 ^ 16 % 2 ^ 15 == 0 && z 48 16
  | 5 => common && fl < 8 && z 2 2 && eEntry e < 2 ^ 16 && !(eEntry e).testBit 14
  | _ => false

/-- R568: the queue type accepts the kind. -/
def kindFits (qtype kind : Nat) : Bool :=
  match qtype with
  | 1 => kind == 1
  | 2 => kind == 2 || kind == 3
  | 3 => kind == 4
  | 4 => kind == 5
  | _ => false

/-- R575: the commands, and those marked HFM only. -/
def mgmtKnown (c : Nat) : Bool :=
  [0x1, 0x2, 0x3, 0x4, 0x5, 0x10, 0x11, 0x12, 0x13, 0x20, 0x21, 0x22, 0x30, 0x31, 0x32, 0x40, 0x41, 0x50].contains c
def mgmtHfmOnly (c : Nat) : Bool := [0x12, 0x40, 0x41].contains c

/-- R574: an HFM queue. -/
def Dev.hfmQueue (s : Dev) (q : Nat) : Bool := s.qType q == 4 && s.qPrio q == 3

/-- R442: a context that the partition may name is open. -/
def Dev.ctxOpenFor (s : Dev) (n part : Nat) : Bool := (s.ctx n).st == .opened && (s.ctx n).part == part

/-- The code with which an accepted entry completes at once, if any (R442, R545, R568, R574). -/
def Dev.entryBad (s : Dev) (q : Nat) (e : Entry) : Option Code :=
  let fl := eFlags e
  if !kindFits (s.qType q) (eKind e) || !reservedZero e || (fl.testBit 4 && fl.testBit 5) then some E_Q_ENTRY_BAD
  else if eKind e = 5 then
    if (eEntry e).testBit 15 && !s.hfmQueue q then some E_MGMT_NOT_HFM
    else if !mgmtKnown (eCmd e) then some E_MGMT_UNKNOWN
    else if mgmtHfmOnly (eCmd e) && !s.hfmQueue q then some E_MGMT_NOT_HFM
    else none
  else if eKind e = 4 && ((s.group q).map (fun g => decide (g.st = .aborted))).getD false then some E_COLL_ABORTED
  else if !s.ctxOpenFor (eCtx e) ((s.qOwner q).getD 8) then some E_RA_CTX_CLOSED
  else none

/-- An entry that cannot run completes at once. -/
def Dev.enterQ (s : Dev) (q : Nat) (seq : BitVec 32) : Dev :=
  match (s.queue q).entries.find? (·.seq == seq) with
  | none => s
  | some ent => (s.entryBad q ent.e).elim s fun c => s.complete q seq c

/-- R647: a wake event in latency states P2–P4. -/
def Dev.wakeEvent (s : Dev) : Dev := if 2 ≤ s.pow.lat then { s with pow := { s.pow with waking := true } } else s

/-- R564: append an entry in one step; the queue must have a place. A held queue keeps it as a held doorbell (R134). -/
def Dev.postEntry (s : Dev) (q : Nat) (e : Entry) : Dev :=
  let k := s.queue q
  let held := s.qHeld q
  let s := s.modQueue q fun k =>
    { k with
      entries := k.entries ++ [{ seq := k.seq, e, started := false }]
      seq := k.seq + 1
      heldFrom := if held then some (k.heldFrom.getD k.entries.length) else k.heldFrom }
  let s := s.wakeEvent
  if held then s else s.enterQ q k.seq

/-- R134: the doorbells a queue held are acted on. -/
def Dev.releaseHeld (s : Dev) (q : Nat) : Dev :=
  let k := s.queue q
  match k.heldFrom with
  | none => s
  | some h =>
    let s := s.modQueue q fun k => { k with heldFrom := none }
    s.fold (k.entries.drop h) fun s e => s.enterQ q e.seq

/-- Every queue that is held no longer acts on its doorbells. -/
def Dev.releaseAll (s : Dev) : Dev := s.fold s.host.queues fun s e => if s.qHeld e.1 then s else s.releaseHeld e.1

/-- R138, R140: a reload that a reset ended: its command completes with the code, the held doorbells are acted on. -/
def Dev.reloadAborts (s : Dev) : Dev :=
  match s.img.reload with
  | some r =>
    match r.failed with
    | some code => (({ s with img := { s.img with reload := none, code, section_ := 0xFF, entry := 0 } } : Dev).answer r.iss code).releaseAll
    | none => s
  | none => s

/-- The entry of a queue that may start next: not started, every earlier one started, not held (R566). -/
def Dev.nextStart (s : Dev) (q : Nat) : Option QEntry :=
  if s.qHeld q then none
  else
    match ((s.queue q).entries.zipIdx.find? fun e => !e.1.started) with
    | some (e, i) => if ((s.queue q).heldFrom.map (fun h => decide (h ≤ i))).getD false then none else some e
    | none => none

def Dev.markStarted (s : Dev) (q : Nat) (seq : BitVec 32) : Dev :=
  s.modQueue q fun k => { k with entries := k.entries.map fun e => if e.seq = seq then { e with started := true } else e }

/-- The management command that a queue of this device runs now: its head, with the CMD given, FWD clear, not held. -/
def Dev.mgmtHead (s : Dev) (q : Nat) (cmd : Nat) : Option Entry :=
  if s.qType q ≠ 4 ∨ !s.ready then none
  else match s.nextStart q, (s.queue q).entries with
    | some e, h :: _ => if e.seq = h.seq ∧ eCmd e.e = cmd ∧ eKind e.e = 5 ∧ !(eEntry e.e).testBit 15 then some e.e else none
    | _, _ => none

/-- R574: run a management command from the head of queue `q`: it is marked started, so that its answer finds it. -/
def Dev.runMgmt (s : Dev) (q : Nat) (cmd : Nat) (f : Dev → Entry → Issuer → Dev) : Dev :=
  match s.mgmtHead q cmd, (s.queue q).entries with
  | some e, h :: _ => f (s.markStarted q h.seq) e (.queue q)
  | _, _ => s

/-- R575: the partition an issuer acts for; none for the HFM by a forwarded command. -/
def Dev.issPart (s : Dev) (i : Issuer) : Option Nat :=
  match i with
  | .queue q => s.qOwner q
  | .remote _ => none

/-- R574: the issuer is the HFM. -/
def Dev.issHfm (s : Dev) (i : Issuer) : Bool :=
  match i with
  | .queue q => s.hfmQueue q
  | .remote _ => true

end Sys2Proof.Machine
end

