-- ==== Sys2Proof/Machine/Testing.lean ====
section
/-! DEFINITION. Tests during work (R87–R98): units, owners, starting, stopping, reporting. -/

namespace Sys2Proof.Machine

/-- R95: the unit of a test kind is present. -/
def Dev.testUnit (s : Dev) (kind unit : Nat) : Bool :=
  match kind with
  | 1 => decide (unit < 32) && s.coreUsable unit
  | 2 => decide (unit < 64) && s.coreUsable (unit / 2) && s.arrUsable (unit / 2) (unit % 2)
  | 3 => decide (unit % 32 < 31) && decide (unit < 1024) && s.stackFitted (unit / 32) && s.stackUsable (unit / 32) &&
      (s.chan (unit / 32) (unit % 32)).st != .dead
  | 4 => s.linkFitted unit
  | 5 => decide (unit < 112) && s.engFitted (unit / 8) && s.engUsable (unit / 8)
  | _ => false

/-- R93: partition `n` owns the unit. A channel belongs to every partition with an interleave set on it; links and
engines belong to the hub. -/
def Dev.testOwnedBy (s : Dev) (kind unit n : Nat) : Bool :=
  match kind with
  | 1 => s.partOfCore unit == some n
  | 2 => s.partOfCore (unit / 2) == some n
  | 3 => (s.img.loaded.map fun i => i.sets.any fun e => e.owner == n && (s.chanList i e).contains (unit / 32, unit % 32)).getD false
  | _ => false

/-- The partitions that own a unit. -/
def Dev.testOwners (s : Dev) (kind unit : Nat) : List Nat := (s.parts.map (·.part)).filter fun n => s.testOwnedBy kind unit n

/-- R87, R89: one pending slot per unit and kind. -/
def Tests.ask (t : Tests) (kind unit : Nat) : Tests :=
  if t.pending.contains ⟨kind, unit⟩ then t else { t with pending := t.pending ++ [⟨kind, unit⟩] }

/-- R98: the message that PENDING of `TEST_STAT` has changed, to the owners of the unit concerned. -/
def Dev.testMessage (s : Dev) (kind unit : Nat) : Dev := s.fold (s.testOwners kind unit) fun s n => s.msix (s.portOf n) (1 + n)

/-- R87, R89, R98: a test is requested. -/
def Dev.testAsk (s : Dev) (kind unit : Nat) : Dev :=
  if s.testPending kind unit then s else ({ s with tests := s.tests.ask kind unit } : Dev).testMessage kind unit

/-- R98: a request is no longer pending. -/
def Dev.dropPending (s : Dev) (kind unit : Nat) : Dev :=
  ({ s with tests := { s.tests with pending := s.tests.pending.filter (· != ⟨kind, unit⟩) } } : Dev).testMessage kind unit

/-- R98: HUB.TEST_STAT. -/
def Dev.testStat (s : Dev) : Word :=
  let t := s.tests
  at_ 0 t.kind ||| at_ 8 t.unit ||| at_ 18 t.result ||| at_ 20 (t.pending.length % 4096) ||| at_ 32 t.code.toNat

/-- R98: the report of a test that completed or stopped. Its MSI-X message is that of the owner's event vector, which is raised
also where the ring takes no record. -/
def Dev.testReport (s : Dev) (kind unit result : Nat) (code : Code) : Dev :=
  let s := { s with tests := { s.tests with kind, unit, result, code } }
  s.fold (s.testOwners kind unit) fun s n =>
    (s.event n 4 code unit s.testStat).when ((s.ring n).log2 == 0 || (s.ring n).full) fun s => s.msix (s.portOf n) (1 + n)

/-- R199, R220, R222: what an array reset or a kind 2 test clears. -/
def MArray.cleared (m : MArray) : MArray :=
  { m with wvalid := false, active := {}, shadow := none, loading := none, bank := [], bad := [], eccSoft := [], eccBad := []
           unread := [] }

/-- The unit leaves a test. -/
def Dev.testLeave (s : Dev) (kind unit : Nat) : Dev :=
  let s := { s with tests := { s.tests with running := s.tests.running.filter fun r => !(r.kind == kind && r.unit == unit) } }
  match kind with
  | 2 => s.modArr (unit / 2) (unit % 2) fun m => if m.st = .test then { m.cleared with st := .ready } else m
  | 4 => s.modLink unit fun l => if l.st = .test then { l with st := .running } else l
  | 5 => s.modFib (unit / 8) (unit % 8) fun f => { f with testing := false }
  | _ => s

/-- R90–R92: a running test stops; its request stays pending. -/
def Dev.stopTest (s : Dev) (kind unit : Nat) : Dev :=
  if s.testRunning kind unit then
    let s := s.testLeave kind unit
    ({ s with tests := s.tests.ask kind unit } : Dev).testReport kind unit 3 E_OK
  else s

/-- R90: work arrives for a unit: a test started on idleness stops. -/
def Dev.workFor (s : Dev) (kind unit : Nat) : Dev :=
  if s.tests.running.any (fun r => r.kind == kind && r.unit == unit && !r.granted) then s.stopTest kind unit else s

/-- R92: a reset of the unit stops its test. -/
def Dev.resetTests (s : Dev) (hit : Nat → Nat → Bool) : Dev :=
  s.fold (s.tests.running.filter fun r => hit r.kind r.unit) fun s r => s.stopTest r.kind r.unit

/-- R92: what a device reset keeps: the requests that wait, and those whose tests it stops. -/
def Tests.kept (t : Tests) : List TestReq := (t.running.foldl (fun u r => u.ask r.kind r.unit) t).pending

/-- R92: a unit became absent: its test stops and its pending requests are dropped. Which units are there is known once the
image has loaded (R5). -/
def Dev.testDropAbsent (s : Dev) : Dev :=
  if !s.img.capsValid then s else
  let s := s.resetTests fun kind unit => !s.testUnit kind unit
  s.fold (s.tests.pending.filter fun r => !s.testUnit r.kind r.unit) fun s r =>
    (s.dropPending r.kind r.unit).logE E_TEST_DROPPED r.unit

/-- R186: a granted test may start: a core whose threads are all EMPTY, an idle array (R222), an active channel, a running
link. -/
def Dev.testFree (s : Dev) (kind unit : Nat) : Bool :=
  match kind with
  | 1 => (s.core unit).threads.all (fun t => t.2.st == .empty) && (s.arr unit 0).queue.isEmpty && (s.arr unit 1).queue.isEmpty
  | 2 => (s.arr (unit / 2) (unit % 2)).queue.isEmpty && (s.arr (unit / 2) (unit % 2)).st == .ready
  | 3 => (s.chan (unit / 32) (unit % 32)).st == .active
  | 4 => (s.link unit).st == .running
  | _ => true

/-- R88, R113, R152: work is queued for a core: entries that may start on it, and those of its collectives. -/
def Dev.queuedWork (s : Dev) (c : Nat) : Bool :=
  s.host.queues.any fun q =>
    (s.qType q.1 == 1 && (s.qCore q.1 == c || (s.qCore q.1 == 0x1F && s.qOwner q.1 == s.partOfCore c)) && q.2.entries.any (!·.started)) ||
      (s.qType q.1 == 3 && s.qCore q.1 == c && !q.2.entries.isEmpty)

/-- R38, R54: an operation waits to cross a link. -/
def Dev.linkWanted (s : Dev) (l : Nat) : Bool :=
  (s.cores.any fun c => (s.pents c.1).any fun e => e.2.accepted && !e.2.sent &&
    (if e.2.remote then 4 + c.1 / 8 == l else (s.pathLinks c.1 e.2.pkt.addr.toNat).contains l)) ||
  s.ra.ingress.any fun w => (s.hubLinks w.1 w.2.addr.toNat).contains l

/-- R88: the unit carries and has no work: a core has no READY thread and no queued work; an array is idle (R222); no request
waits at a channel; a link and the port of a fibre pair carry none. -/
def Dev.unitQuiet (s : Dev) (kind unit : Nat) : Bool :=
  match kind with
  | 1 => (s.core unit).threads.all (fun t => t.2.st != .ready) && (s.arr unit 0).queue.isEmpty && (s.arr unit 1).queue.isEmpty &&
      !s.queuedWork unit
  | 2 => (s.arr (unit / 2) (unit % 2)).queue.isEmpty && (s.arr (unit / 2) (unit % 2)).unread.isEmpty
  | 3 => (s.chan (unit / 32) (unit % 32)).queue.isEmpty
  | 4 => let k := s.link unit
    k.tx0.isEmpty && k.tx1.isEmpty && !s.linkWanted unit
  | _ => (s.fport (portOfEng (unit / 8))).unacked.isEmpty

/-- R88: the unit may be tested on idleness. -/
def Dev.testIdle (s : Dev) (kind unit : Nat) : Bool :=
  s.unitQuiet kind unit && (if kind = 1 then !s.coreBusy unit else s.testFree kind unit)

/-- R139: a test of the partition whose reload drains does not start. -/
def Dev.testHeld (s : Dev) (kind unit : Nat) : Bool :=
  s.img.reload.any fun r => r.phase == .drain && s.testOwnedBy kind unit r.part

/-- R87, R88, R174, R194, R222, R377: a test starts and takes its unit. -/
def Dev.startTest (s : Dev) (kind unit : Nat) (granted : Bool) : Dev :=
  let s := s.dropPending kind unit
  let s := { s with tests := { s.tests with running := s.tests.running ++ [{ kind, unit, granted }] } }
  match kind with
  | 1 => s.modCore unit fun c => { c with store := [], storeSoft := [], storeBad := [], errCorr := 0, errUncorr := 0, errWord := 0 }
  | 2 => s.modArr (unit / 2) (unit % 2) fun m => { m.cleared with st := .test, queue := [] }
  | 4 => s.modLink unit fun l => { l with st := .test }
  | 5 => s.modFib (unit / 8) (unit % 8) fun f => { f with testing := true }
  | _ => s

/-- R88, R139: a pending test of a unit that is there may start. -/
def Dev.testReady (s : Dev) (kind unit : Nat) : Bool :=
  s.testPending kind unit && !s.testRunning kind unit && s.testUnit kind unit && !s.testHeld kind unit

/-- R88, R186: granted tests start as soon as their unit is free. -/
def Dev.startGranted (s : Dev) : Dev :=
  s.fold s.tests.grants fun s g => if s.testReady g.1 g.2.1 && s.testFree g.1 g.2.1 then s.startTest g.1 g.2.1 true else s

/-- R90: tests started on idleness give way to work. -/
def Dev.yieldTests (s : Dev) : Dev :=
  s.fold s.tests.running fun s r => if !r.granted && !s.unitQuiet r.kind r.unit then s.stopTest r.kind r.unit else s

end Sys2Proof.Machine
end

