-- ==== Sys2Proof/Machine/Views.lean ====
section
/-! DEFINITION. What every register reads (R7, R15–R19, R49–R57, R68, R94–R98, R124–R130, R141–R146, R188–R194, R227–R229,
R353–R359, R394–R401, R433–R437, R482–R486, R519–R521, R550–R553, R559–R563, R580–R581, R605, R614–R619, R656–R661,
R663–R680). -/

namespace Sys2Proof.Machine

/-- Saturate at `w` bits. -/
def cap (w n : Nat) : Nat := min n (ones w)

/-- Two's complement in `w` bits. -/
def twos (w : Nat) (x : Int) : Nat := (x % (2 ^ w : Nat)).toNat

/-! ### Plain registers: the fields that software writes and the device only reads -/

/-- Writable bits and reset value of the plain registers of the HUB block. -/
def hubPlain (off : Nat) : Option (Word × Word) :=
  match off with
  | 0x0128 => some (0x1F, 0)
  | 0x0160 => some (0x7, 0)
  | 0x0200 => some (0x3FFF, 0)
  | 0x0410 => some (0xF, 0)
  | 0x0500 => some (0x7, 0)
  | 0x0610 => some (0xF, 0)
  | 0x0700 => some (0xFF, 0x14)
  | 0x0720 => some (0x3FF, 0)
  | 0x0740 => some (0xFFF, 0)
  | 0x0800 => some (0xFFFF01, 0x4001)
  | 0x0900 => some (0x7FF, 0)
  | 0x0A00 => some (0x1, 0)
  | 0x0A10 => some (0x7, 0)
  | 0x0B00 => some (0xFFFF, 0x64)
  | 0x0B28 => some (0x1FF, 0)
  | 0x0C20 => some (0x3F, 0)
  | _ => none

/-- A plain register of the HUB block. -/
def Dev.hub (s : Dev) (off : Nat) : Word := s.reg 0 off ((hubPlain off).elim 0 (·.2))

/-- CORE.WDOG (R192). -/
def wdogReset : Word := 0x006400640064
def Dev.coreWdog (s : Dev) (c : Nat) : Word := s.reg (0x10 + c) 0x20 wdogReset

/-- MEM.CHAN_SEL (R354), MEM.MIG_CTL THRESH and CHAN (R357). -/
def Dev.chanSel (s : Dev) (k : Nat) : Word := s.reg (0x30 + k) 0x08
def Dev.migCtl (s : Dev) (k : Nat) : Word := s.reg (0x30 + k) 0x20 0x200

/-- ENG.FIB_SEL (R401). -/
def Dev.fibSel (s : Dev) (e : Nat) : Word := s.reg (0x50 + e) 0x08

/-- The MBOX block of a port (R561); P1's is kept at block 0x101. -/
def mboxBlock (port : Nat) : Nat := if port = 0 then 1 else 0x101

/-! ### Package, start, tests -/

/-- R7. DESIGN CHOICE (log entry 53): the field of a die that is silent on the sideband reads 0x00. -/
def Dev.vDeviceId (s : Dev) : Word :=
  let step := fun i => ((s.boot.steppings.getD i none).map (·.toNat)).getD 0
  at_ 0 s.boot.part.toNat ||| at_ 16 s.boot.pkgRev.toNat ||| at_ 24 (step 0) ||| at_ 32 (step 1) ||| at_ 40 (step 2) |||
    at_ 48 (step 3) ||| at_ 56 (step 4)

/-- R57. The features belong to class 2 (R55). -/
def Dev.vDieFeat (s : Dev) : Word :=
  at_ 0 (if s.boot.compatClass = 2 then 7 else 0) ||| at_ 8 s.boot.compatClass ||| at_ 16 s.boot.released.toNat |||
    at_ 48 s.boot.compatCode.toNat

/-- R68. -/
def Dev.vBootStat (s : Dev) : Word :=
  let b := s.boot
  at_ 0 b.step ||| at_ 4 (bit b.halted) ||| at_ 5 (bit b.fwSlot) ||| at_ 6 (bit b.recCopy) ||| at_ 7 (bit b.imgSrc) |||
    at_ 16 b.code.toNat ||| at_ 32 b.epoch.toNat ||| at_ 48 b.bootMs.toNat

/-! ### Capabilities and image -/

/-- R5: zero until the image has loaded. -/
def Dev.gated (s : Dev) (v : Word) : Word := if s.img.capsValid then v else 0

/-- A logical channel that is counted as active (R127, R131). -/
def Dev.chanActive (s : Dev) (k p : Nat) : Bool :=
  (s.img.loaded.map fun i => s.chanListed i k p).getD false && s.stackUsable k && (s.chan k p).st != .dead

/-- R318: the physical channel of a logical one. -/
def Dev.physOf (s : Dev) (k p : Nat) : Nat := (s.chan k p).phys.getD p

/-- R127 TOTAL. -/
def Dev.chanTotal (s : Dev) : Nat :=
  ((List.range 32).map fun k => ((List.range 31).filter (s.chanActive k ·)).length).sum

def Dev.vCapChannels (s : Dev) : Word :=
  let k := fldN (s.hub 0x128) 0 5
  let act := ((List.range 31).filter (s.chanActive k ·)).foldl (fun m p => m ||| at_ (s.physOf k p) 1) 0
  let b := s.stk k
  s.gated (act ||| (if s.stackFitted k then at_ 32 b.standby ||| at_ 37 (bit b.standbyFree) else 0) ||| at_ 48 s.chanTotal)

/-- R141. -/
def Dev.vImgStat (s : Dev) : Word :=
  let i := s.img
  at_ 0 i.st ||| at_ 2 (bit i.reload.isSome) ||| at_ 8 i.reloadPart ||| at_ 16 i.code.toNat ||| at_ 32 i.section_.toNat |||
    at_ 40 i.entry.toNat

/-- Bits of a predicate on numbers below `n`. -/
def maskOf (n : Nat) (f : Nat → Bool) : Nat := ((List.range n).map fun i => if f i then 2 ^ i else 0).sum

/-- R145. -/
def Dev.vPartInfo (s : Dev) : Word :=
  let n := fldN (s.hub 0x160) 0 3
  match s.partEntry n with
  | none => 0
  | some e =>
    let queues := ((s.img.loaded.map (·.owners)).getD []).countP (·.2 == n)
    let draining := (s.img.reload.map fun r => r.part == n && r.phase == .drain).getD false
    at_ 0 1 ||| at_ 1 e.port ||| at_ 2 (bit draining) ||| at_ 8 ((List.range 32).countP (e.cores.getLsbD ·)) |||
      at_ 16 queues ||| at_ 32 ((s.sect n).elim 0 (·.version.toNat))

/-- R146. -/
def Dev.vPartCores (s : Dev) : Word :=
  match s.partEntry (fldN (s.hub 0x160) 0 3) with
  | none => 0
  | some e => at_ 0 e.cores.toNat ||| at_ 32 (maskOf 32 fun c => e.cores.getLsbD c && decide (0 < s.rsv c))

/-! ### D2D links -/

/-- R24: bundles per direction. -/
def bundlesOf (l : Nat) : Nat := if l < 4 then 24 else if l < 8 then 28 else if l < 0x16 then 9 else 8

/-- The lanes of a bundle that the board record excludes. -/
def laneMask (l : List LaneSet) (link dir b : Nat) : BitVec 68 :=
  l.foldl (fun m e => if e.link = link ∧ e.dir = dir ∧ e.bundle = b then m ||| e.lanes else m) 0

def BundleSt.code : BundleSt → Nat
  | .absent => 0
  | .active => 1
  | .disabled => 2
  | .training => 3
  | .swapping => 4

/-- Active bundles of a link in a direction. DESIGN CHOICE (log entry 54): a bundle that is swapping a lane counts; R51 says
'active bundles', and R34 has the width drop only when a bundle is disabled. -/
def Dev.width (s : Dev) (l dir : Nat) : Nat :=
  (List.range (bundlesOf l)).countP fun b => (s.bundle l dir b).st == .active || (s.bundle l dir b).st == .swapping

/-- R52: the selection names a bundle. -/
def Dev.bundleOk (s : Dev) (l b : Nat) : Bool := s.linkFitted l && decide (b < bundlesOf l)

def Dev.d2dMap (s : Dev) (l dir b : Nat) : Word :=
  let u := s.bundle l dir b
  if !s.bundleOk l b || u.st == .absent || u.st == .disabled then 0 else u.mask.setWidth 64

def Dev.d2dStat (s : Dev) (l dir b : Nat) : Word :=
  if !s.bundleOk l b then 0
  else
    let u := s.bundle l dir b
    let mask := if u.st == .absent || u.st == .disabled then 0 else u.mask.toNat / 2 ^ 64
    let fresh := (u.exclA ||| u.exclB ||| laneMask ((s.img.loaded.map (·.repair.lanes)).getD []) l dir b) &&& ~~~(laneMask ((s.rec?.map (·.lanes)).getD []) l dir b)
    at_ 0 mask ||| at_ 4 u.st.code ||| at_ 16 (s.width l dir) ||| at_ 24 (cap 4 ((List.range 68).countP (fresh.getLsbD ·))) |||
      at_ 32 u.crcErr.toNat ||| at_ 48 u.replay.toNat

/-- A retrain of some link is in progress (R53, R54). -/
def Dev.d2dBusy (s : Dev) : Bool :=
  s.d2d.links.any fun e => match e.2.st with
    | .testing | .agreeing _ => true
    | _ => false

/-! ### Memory -/

/-- R347, R632, R636: the steep level in force. -/
def Stack.level (b : Stack) : Nat := if b.dipSteep || b.blind then 15 else b.steep

/-- Words of the exposed capacity of a channel (R319). -/
def chanWords : Nat := 2930688 * 16

/-- R335: poisoned words of a channel from word `n` on. -/
def Dev.poisonFrom (s : Dev) (k p n : Nat) : Nat :=
  let lo := memKey k p 0 / 32
  let top := (s.chan k p).lost.elim chanWords id
  let listed := fun (a b : Nat) => s.mem.poison.countP fun w => decide (lo + a ≤ w) && decide (w < lo + b)
  listed n top + (chanWords - max n top) - listed (max n top) (2 ^ 26)

/-- R335: words of a channel in the poison map. -/
def Dev.poisonCount (s : Dev) (k p : Nat) : Nat :=
  s.poisonFrom k p 0

/-- R343: the 32 B words that a migration copies: 1,536 MiB. -/
def migWords : Nat := 50331648

def Dev.memStat (s : Dev) (k : Nat) : Word :=
  let b := s.stk k
  let re := (List.range 31).find? fun p => (s.chan k p).st == .retraining
  at_ 0 (twos 8 b.temp) ||| at_ 8 b.level ||| at_ 12 (bit re.isSome) ||| at_ 13 (re.getD 0) ||| at_ 18 (bit b.migrating.isSome) |||
    at_ 19 (b.migrating.elim 0 (·.1)) ||| at_ 24 (b.migrating.elim 0 fun m => 100 * m.2 / migWords) ||| at_ 31 (bit b.inReset)

def ChanSt.code : ChanSt → Nat
  | .active => 0
  | .retraining => 1
  | .migrating => 2
  | .dead => 3

/-- R342: corrected errors within the last hour. -/
def Dev.ceHour (s : Dev) (k p : Nat) : Nat := (s.chan k p).ceTimes.countP fun t => decide (s.clock < t + 3600000)

def Dev.chanStat (s : Dev) (k p : Nat) : Word :=
  let c := s.chan k p
  at_ 0 (s.physOf k p) ||| at_ 5 c.st.code ||| at_ 8 (cap 16 (s.ceHour k p)) ||| at_ 24 c.ue.toNat |||
    at_ 40 (cap 24 (s.poisonCount k p))

/-- R106: the regulator share of a partition on a stack. -/
def Dev.share (s : Dev) (k n : Nat) : Nat :=
  ((s.img.loaded.bind fun i => i.shares.find? fun e => e.1 == k && e.2.1 == n).map (·.2.2)).getD 0

def Dev.regStat (s : Dev) (k n : Nat) : Word :=
  let b := s.bucket k n
  at_ 0 (s.share k n) ||| at_ 8 (b.tokens % 2 ^ 24) ||| at_ 32 (b.borrowed / 1024 % 2 ^ 32)

def Dev.axaStat (s : Dev) (k : Nat) : Word :=
  let b := s.stk k
  at_ 0 (b.accums / 1024 % 2 ^ 32) ||| at_ 32 b.rangeSets.toNat ||| at_ 48 b.specialSets.toNat

/-- R353–R357, R521. -/
def Dev.memReg (s : Dev) (k off : Nat) : Word :=
  if !s.stackFitted k then 0
  else
    let sel := s.chanSel k
    match off with
    | 0x00 => s.memStat k
    | 0x08 => sel
    | 0x10 => if fldN sel 0 5 = 31 then 0 else s.chanStat k (fldN sel 0 5)
    | 0x18 => s.regStat k (fldN sel 8 3)
    | 0x20 => s.migCtl k ||| at_ 21 (bit (s.stk k).migStart.isSome)
    | 0x28 => s.axaStat k
    | _ => 0

/-- R359. -/
def Dev.vSetInfo (s : Dev) : Word :=
  match s.img.loaded with
  | none => 0
  | some i =>
    let n := fldN (s.hub 0x410) 0 4
    match i.sets[n]? with
    | none => 0
    | some e =>
      let c := (s.chanList i e).length
      at_ 0 (s.img.bands.getD n 0) ||| at_ 22 (bandHeight e.size c) ||| at_ 44 c ||| at_ 54 e.owner |||
        at_ 57 (if e.spread then 1 else 2) ||| at_ 60 (if e.spread then 0 else e.die)

/-! ### Ports and engines -/

/-- An input of the engine is LOST, or still recalibrating (R366, R370). -/
def Engine.laserLost (g : Engine) : Bool :=
  g.inA == .lost || g.inA == .recalibrating || g.inB == .lost || g.inB == .recalibrating

/-- Port states (R395). -/
def PortSt.code : PortSt → Nat
  | .unused => 0
  | .training => 1
  | .identified => 2
  | .up => 3
  | .quarantined => 4
  | .mismatch => 5
  | .noNeighbour => 6
  | .linkFault => 7
  | .withdrawn => 8
  | .absent => 9

/-- R390: the LED code of a port. DEDUCED (log entry 60): a port that is identified and not yet up shows training. -/
def Dev.led (s : Dev) (p : Nat) : Nat :=
  let t := s.fport p
  if s.rcv.safe then 2
  else if t.st = .unused ∨ t.st = .absent ∨ (enginesOf p).all (fun e => !s.engFitted e) then 0
  else if t.locate then 1
  else if t.st = .quarantined then 3
  else if t.st = .mismatch then 4
  else if (enginesOf p).any (fun e => (s.eng e).laserLost) then 5
  else if t.st = .noNeighbour ∨ t.st = .linkFault ∨ t.st = .withdrawn then 6
  else if t.st = .up then 8
  else 7

def Dev.portStat (s : Dev) (p : Nat) : Word :=
  if 6 ≤ p then 0
  else
    let t := s.fport p
    let up := ((enginesOf p).zipIdx.map fun e => if s.engCarries e.1 then 2 ^ e.2 else 0).sum
    let n := t.nbr
    at_ 0 t.st.code ||| at_ 4 up ||| at_ 8 t.version.toNat ||| at_ 16 t.cause.toNat ||| at_ 32 (n.elim 0 (·.dev % 2 ^ 14)) |||
      at_ 46 (n.elim 0 fun m => bit m.devValid) ||| at_ 48 (n.elim 0 (·.port % 8)) ||| at_ 52 (n.elim 0 (·.domain % 16)) |||
      at_ 56 (s.led p)

/-- R397. DESIGN CHOICE (log entry 55): WITHDRAW reads 1 while the port is held withdrawn, RESTORE until its training ends. -/
def Dev.portCtrl (s : Dev) (p : Nat) : Word :=
  if 6 ≤ p then 0
  else
    let t := s.fport p
    at_ 0 (bit t.retrainBit) ||| at_ 1 (bit t.rediscoverBit) ||| at_ 2 (bit t.heldBySw) ||| at_ 3 (bit t.restoreBit) |||
      at_ 4 (bit t.locate)

/-- R398. DESIGN CHOICE (log entry 60): ELAPSED reads 0 in phase 0. -/
def Dev.attnStat (s : Dev) : Word :=
  let r := s.rcv
  at_ 0 r.phase ||| at_ 3 (bit r.forced) ||| at_ 4 (bit r.blocked) ||| at_ 16 r.drainCode.toNat |||
    at_ 32 (if r.phase = 0 then 0 else cap 16 ((s.clock - r.pressMs) / 100))

/-- R399. DESIGN CHOICE (log entry 55): RELEASE and CANCEL, once they took effect, read 1 until the next drain begins. -/
def Dev.attnCtl (s : Dev) : Word := s.reg 0 0x528 0x3C0000 ||| at_ 0 (bit s.rcv.releaseBit) ||| at_ 1 (bit s.rcv.cancelBit)

/-- Use of a fibre direction: bits of its wavelengths. -/
def Fibre.active (f : Fibre) (dir : Nat) : BitVec 16 := if dir = 0 then f.active0 else f.active1
def Fibre.through (f : Fibre) (dir : Nat) : BitVec 16 := if dir = 0 then f.through0 else f.through1
def Fibre.failed (f : Fibre) (dir : Nat) : BitVec 16 := if dir = 0 then f.failed0 else f.failed1

/-- R371: the free spares of a fibre: the two lowest usable wavelengths that carry no slot. -/
def Fibre.spares (f : Fibre) (dir : Nat) : List Nat :=
  ((List.range 16).filter fun l => !(f.active dir).getLsbD l && !(f.through dir).getLsbD l && !(f.failed dir).getLsbD l).take 2

/-- R400 STATE. -/
def Dev.engState (s : Dev) (e : Nat) : Nat :=
  let g := s.eng e
  if !s.engFitted e || (s.boot.engsLost.getLsbD e && !g.fenced) then 0
  else if g.inReset then 5
  else if g.fenced then 6
  else if g.withdrawn then 7
  else if !g.calibrated then 1
  else if g.laserLost then 4
  else if (List.range 8).any (fun f => (s.fib e f).up) then 3
  else 2

/-- R400. An input that recalibrates is neither LOW nor LOST. -/
def Dev.engStat (s : Dev) (e : Nat) : Word :=
  let g := s.eng e
  let ok := fun (i : InputSt) => bit (i == .ok || i == .recalibrating)
  at_ 0 (s.engState e) ||| at_ 3 (maskOf 8 fun f => (s.fib e f).up) ||| at_ 11 (ok g.inA) ||| at_ 12 (ok g.inB) |||
    at_ 16 g.pwrA.toNat ||| at_ 24 g.pwrB.toNat |||
    at_ 32 (((List.range 8).map fun f => ((s.fib e f).spares 0).length).sum) ||| at_ 48 g.cause.toNat

/-- R401. -/
def Dev.fibStat (s : Dev) (e f dir : Nat) : Word :=
  let b := s.fib e f
  at_ 0 (b.active dir).toNat ||| at_ 16 (b.through dir).toNat ||| at_ 32 (b.failed dir).toNat |||
    at_ 48 (if dir = 0 then b.uncorr0 else b.uncorr1).toNat ||| at_ 56 (if dir = 0 then b.swaps0 else b.swaps1).toNat

def Dev.engReg (s : Dev) (e off : Nat) : Word :=
  if !s.engFitted e then 0
  else match off with
    | 0x00 => s.engStat e
    | 0x08 => s.fibSel e
    | 0x10 => s.fibStat e (fldN (s.fibSel e) 0 3) (fldN (s.fibSel e) 3 1)
    | _ => 0

/-! ### Fabric -/

/-- R433. -/
def Dev.vFabCfg (s : Dev) : Word :=
  match s.img.loaded with
  | none => 0
  | some i =>
    let f := i.fabric
    at_ 0 f.dev ||| at_ 16 f.domain ||| at_ 20 (bit f.waystation) ||| at_ 21 (bit f.bandwidthFirst) ||| at_ 24 (f.dx - 1) |||
      at_ 32 (f.dy - 1) ||| at_ 40 f.allotX.2.1 ||| at_ 43 f.allotX.2.2 ||| at_ 46 f.allotY.2.1 ||| at_ 49 f.allotY.2.2

def CktSt.code : CktSt → Nat
  | .notInPlan => 0
  | .training => 1
  | .up => 2
  | .broken => 3
  | .returning => 4

/-- R435. -/
def Dev.cktStat (s : Dev) (n : Nat) : Word :=
  let c := s.ckt n
  at_ 0 c.st.code ||| at_ 8 c.far ||| at_ 24 c.width ||| at_ 32 c.breaks.toNat ||| at_ 48 c.cause.toNat

/-- R437. -/
def Dev.fabStat (s : Dev) : Word :=
  at_ 0 s.fab.avoid.length ||| at_ 16 ((List.range 16).countP fun n => (s.ckt n).st == .broken) ||| at_ 32 s.fab.noRoute.toNat
def Dev.auditStat (s : Dev) : Word :=
  at_ 0 s.fab.audits.toNat ||| at_ 32 s.fab.mismatches.toNat ||| at_ 48 s.fab.auditKind ||| at_ 50 s.fab.auditIndex

/-! ### Remote access, combining, groups -/

def Dev.raStat (s : Dev) : Word :=
  at_ 0 s.ra.genDrops.toNat ||| at_ 16 s.ra.nacks.toNat ||| at_ 32 s.ra.timeouts.toNat ||| at_ 48 s.ra.indet.toNat
def Dev.dedupStat (s : Dev) : Word :=
  at_ 0 s.ra.dedup.length ||| at_ 16 s.ra.peak ||| at_ 32 s.ra.full.toNat ||| at_ 48 s.ra.hits.toNat

def CtxSt.code : CtxSt → Nat
  | .free => 0
  | .opened => 1
  | .tearing => 2
  | .closed => 3

/-- R485. -/
def Dev.ctxInfo (s : Dev) (n : Nat) : Word :=
  let c := s.ctx n
  at_ 0 c.st.code ||| at_ 2 c.part ||| at_ 16 c.gen.toNat ||| at_ 32 c.job.toNat
def Dev.ctxErrReg (s : Dev) (n : Nat) : Word :=
  let c := s.ctx n
  at_ 0 (bit c.eValid) ||| at_ 1 (bit c.eOver) ||| at_ 16 c.eCode.toNat ||| at_ 32 c.eTarget

/-- R486. -/
def Dev.regionInfo (s : Dev) (n : Nat) : Word :=
  match s.region n with
  | none => 0
  | some r =>
    at_ 0 1 ||| at_ 1 (bit (r.gen != (s.ctx r.ctx).gen)) ||| at_ 2 r.perm.toNat ||| at_ 6 r.part ||| at_ 9 r.ctx |||
      at_ 19 r.gen.toNat ||| at_ 32 (r.size / 2 ^ 21)
def Dev.regionBase (s : Dev) (n : Nat) : Word := (s.region n).elim 0 fun r => BitVec.ofNat 64 r.base

/-- R520. -/
def Dev.combStat (s : Dev) : Word :=
  let n := fun (w : Bool) => s.axa.comb.countP fun e => (e.2.map fun c => c.awaiting == w).getD false
  at_ 0 (n false) ||| at_ 16 (n true) ||| at_ 32 (s.axa.absorbed / 1024 % 2 ^ 16) ||| at_ 48 s.axa.stale.toNat

/-- The record of a group number. -/
def Dev.groupNum (s : Dev) (n : Nat) : Option Group := s.coll.groups.findSome? fun e => e.2.bind fun g => if g.group = n then some g else none

def GrpSt.code : GrpSt → Nat
  | .idle => 1
  | .running => 2
  | .aborted => 3

/-- R551, R552. -/
def Group.info (g : Group) : Word :=
  at_ 0 g.queue ||| at_ 12 g.core ||| at_ 18 g.ctx ||| at_ 32 (g.p - 1) ||| at_ 48 g.rank
def Group.stat (g : Group) : Word :=
  at_ 0 g.st.code ||| at_ 8 g.credits ||| at_ 16 g.cause.toNat ||| at_ 32 g.tokensIn.toNat ||| at_ 48 g.timeout

/-- R553. -/
def Dev.collStat (s : Dev) : Word :=
  let gs := s.coll.groups.filterMap (·.2)
  at_ 0 gs.length ||| at_ 16 (gs.countP (·.st == .aborted)) ||| at_ 32 s.coll.aborts.toNat ||| at_ 48 s.coll.refused.toNat

/-! ### Host, recovery -/

/-- R565: the doorbell page of a queue answers a port that a partition of this port owns the queue, from step 10 on. -/
def Dev.doorOpen (s : Dev) (port q : Nat) : Bool := s.ready && ((s.qOwner q).map fun n => s.portOf n == port).getD false

/-- R563 STATUS of a queue's doorbell page. -/
def Dev.queueStatus (s : Dev) (port q : Nat) : Word :=
  let k := s.queue q
  at_ 0 k.entries.length ||| at_ 6 (bit (s.qHeld q)) ||| at_ 8 (if port = 0 then k.last0 else k.last1).toNat ||| at_ 32 k.seq.toNat

/-- R580. -/
def Dev.hostStat (s : Dev) (p : Nat) : Word :=
  let h := s.hport p
  at_ 0 (bit h.up) ||| at_ 1 h.speed ||| at_ 4 h.width ||| at_ 8 h.l0p ||| at_ 12 (bit h.flit) ||| at_ 13 (bit h.d3hot) |||
    at_ 16 h.cplLost.toNat ||| at_ 32 h.flrs.toNat

/-- R581. -/
def Dev.evtRing (s : Dev) (n : Nat) : Word :=
  let r := s.ring n
  at_ 0 r.prod.toNat ||| at_ 16 r.cons.toNat ||| at_ 32 r.drops.toNat ||| at_ 48 r.log2

/-- R589: device resets within the last ten minutes. -/
def Dev.devResets (s : Dev) : Nat := s.rcv.devTimes.countP fun t => decide (s.clock < t + 600000)

/-- R615. -/
def Dev.resetCtl (s : Dev) : Word := s.reg 0 0xB08 ||| at_ 16 (bit s.rcv.go) ||| at_ 17 (bit s.rcv.go)
/-- R616. -/
def Dev.resetStat (s : Dev) : Word :=
  let r := s.rcv
  at_ 0 r.lastDomain ||| at_ 8 r.lastUnit ||| at_ 32 r.lastCause.toNat ||| at_ 48 r.escalations.toNat ||| at_ 56 (cap 3 s.devResets)
/-- R617. -/
def Dev.supvHb (s : Dev) : Word := at_ 0 s.rcv.hbCount.toNat ||| at_ 32 (bit s.rcv.hbHalt)
/-- R618. -/
def Dev.capsuleStat (s : Dev) : Word :=
  let c := s.rcv.capsule
  at_ 0 (if c.halves = 0 then 0 else c.nextSeq.toNat) ||| at_ 32 c.halves ||| at_ 48 c.trunc.toNat

/-! ### Power -/

/-- R621: power limits by mode. -/
def modeLimit (m : Nat) : Nat := if m = 0 then 4800 else if m = 1 then 3800 else 2800
/-- R622: VCORE_CDn of a mode before its trim, in mV. -/
def modeMv (m : Nat) : Nat := if m = 0 then 870 else if m = 1 then 800 else 650

/-- R625, R627: the limit L: from the start of a change where the clock falls, from its end where it rises, as the POWER
section lowers it. -/
def Dev.powerLimit (s : Dev) : Nat :=
  let now := s.pow.modeNow.toNat
  let m := match s.pow.change with
    | some m => max m.toNat now
    | none => now
  let base := modeLimit m
  match s.img.loaded with
  | none => base
  | some i => min base (i.power.limits.getD m base)

/-- R645: the target state. -/
def Dev.latTarget (s : Dev) : Nat :=
  match s.img.loaded with
  | none => 0
  | some i =>
    let tols := (if s.parts.any (·.port == 0) then [s.pow.lt0.toNat] else []) ++ (if s.parts.any (·.port == 1) then [s.pow.lt1.toNat] else [])
    match tols with
    | [] => 0
    | t :: l =>
      let tol := l.foldl min t
      ((List.range 4).filter fun j => decide (i.power.exits.getD j 0 ≤ tol) || tol == 0xFFFFF).foldl (fun m j => max m (j + 1)) 0

def Dev.pwrCtl (s : Dev) : Word :=
  let p := s.pow
  at_ 0 p.mode.toNat ||| at_ 4 p.modeNow.toNat ||| at_ 6 (bit p.change.isSome) |||
    at_ 8 (maskOf 4 fun n => p.forced || (s.dieT n).forced) ||| at_ 16 s.powerLimit ||| at_ 32 (cap 16 p.p)
def Dev.latTolReg (s : Dev) : Word :=
  let p := s.pow
  at_ 0 p.lt0.toNat ||| at_ 20 p.lt1.toNat ||| at_ 40 (max p.lat (bit (s.cores.any (·.2.p1)))) ||| at_ 44 s.latTarget
def Dev.pwrStep (s : Dev) : Word :=
  let die := fun n => at_ (4 * n) (s.powerStep n) ||| at_ (24 + 4 * n) (s.dieT n).tstep
  (List.range 4).foldl (fun w n => w ||| die n)
    (at_ 16 s.pow.pstep ||| at_ 20 (maskOf 4 fun n => decide (0 < (s.dieT n).curFloor) || decide (0 < s.dipFloor n)))

/-- R637: the hottest reading of a unit of the last round, in 0.1 °C; sensors excluded do not count. -/
def Dev.hottest (s : Dev) (f : TUnit → Bool) : Option Int :=
  (s.pow.sensors.filter fun e => f e.1 && !(s.pow.excluded.contains (e.1, e.2.1))).foldl
    (fun m e => some (m.elim e.2.2.1 (max e.2.2.1))) none

/-- R659. -/
def Dev.tempReg (s : Dev) : Word :=
  let t := fun f => twos 8 (((s.hottest f).getD 0) / 10)
  let cd := (List.range 4).foldl (fun w n => w ||| at_ (8 * n) (t (· == .cd n))) 0
  cd ||| at_ 32 (t (· == .hub)) ||| at_ 40 (t fun u => match u with | .eng _ => true | _ => false) |||
    at_ 48 (t fun u => match u with | .stack _ => true | _ => false)

/-- R660. -/
def Dev.railStat (s : Dev) (r : Nat) : Word :=
  if 40 < r then 0
  else
    let x := s.rail r
    at_ 0 (cap 12 x.volt) ||| at_ 16 (cap 11 x.curr) ||| at_ 32 (cap 12 (x.low.getD 0)) ||| at_ 48 (cap 12 x.dips)

/-- R661. -/
def Dev.clkStat (s : Dev) : Word :=
  let p := s.pow
  at_ 0 (bit p.fabRef) ||| at_ 1 (bit p.ref0) ||| at_ 2 (bit p.ref1) ||| at_ 3 (bit p.holdover) ||| at_ 16 p.holdMs.toNat

/-! ### The HUB block -/

def Dev.hubReg (s : Dev) (off : Nat) : Word :=
  match off with
  | 0x0000 => s.vDeviceId
  | 0x0040 => s.vDieFeat
  | 0x0080 => s.vBootStat
  | 0x0100 => s.gated (at_ 0 s.img.coresUsable.toNat ||| at_ 32 s.img.coresEnabled.toNat)
  | 0x0108 => s.gated s.img.arraysUsable
  | 0x0110 => s.gated (at_ 0 s.img.stacksUsable.toNat ||| at_ 32 s.img.stacksFitted.toNat)
  | 0x0118 => s.vCapChannels
  | 0x0120 => s.gated (at_ 0 s.img.engUsable.toNat ||| at_ 16 s.img.engFitted.toNat)
  | 0x0130 => s.gated (at_ 0 s.img.capGen.toNat)
  | 0x0140 => s.vImgStat
  | 0x0148 => s.img.loaded.elim 0 (·.id)
  | 0x0150 => at_ 0 (s.img.loaded.elim 0 (·.version.toNat)) ||| at_ 32 s.img.reloads.toNat
  | 0x0168 => s.vPartInfo
  | 0x0170 => s.vPartCores
  | 0x0208 => s.d2dMap (fldN (s.hub 0x200) 0 8) (fldN (s.hub 0x200) 13 1) (fldN (s.hub 0x200) 8 5)
  | 0x0210 => s.d2dStat (fldN (s.hub 0x200) 0 8) (fldN (s.hub 0x200) 13 1) (fldN (s.hub 0x200) 8 5)
  | 0x0218 => at_ 0 (bit (!s.d2d.retrainFor.isEmpty)) ||| at_ 1 (bit s.d2dBusy)
  | 0x0310 => s.testStat
  | 0x0400 => at_ 0 s.mem.hold.toNat ||| at_ 16 (bit s.mem.held)
  | 0x0418 => s.vSetInfo
  | 0x0508 => s.portStat (fldN (s.hub 0x500) 0 3)
  | 0x0510 => if 6 ≤ fldN (s.hub 0x500) 0 3 then 0 else ((s.fport (fldN (s.hub 0x500) 0 3)).nbr).elim 0 (·.serial)
  | 0x0518 => s.portCtrl (fldN (s.hub 0x500) 0 3)
  | 0x0520 => s.attnStat
  | 0x0528 => s.attnCtl
  | 0x0600 => s.vFabCfg
  | 0x0608 => s.img.loaded.elim 0 fun i => at_ 0 i.fabric.plan.toNat
  | 0x0618 => s.cktStat (fldN (s.hub 0x610) 0 4)
  | 0x0620 => at_ 0 s.fab.query.toNat
  | 0x0628 => s.fab.result
  | 0x0630 => s.fabStat
  | 0x0638 => s.auditStat
  | 0x0708 => s.raStat
  | 0x0710 => s.dedupStat
  | 0x0728 => s.ctxInfo (fldN (s.hub 0x720) 0 10)
  | 0x0730 => s.ctxErrReg (fldN (s.hub 0x720) 0 10)
  | 0x0748 => s.regionInfo (fldN (s.hub 0x740) 0 12)
  | 0x0750 => s.regionBase (fldN (s.hub 0x740) 0 12)
  | 0x0808 => s.combStat
  | 0x0908 => (s.groupNum (fldN (s.hub 0x900) 0 11)).elim 0 (·.info)
  | 0x0910 => (s.groupNum (fldN (s.hub 0x900) 0 11)).elim 0 (·.stat)
  | 0x0918 => (s.groupNum (fldN (s.hub 0x900) 0 11)).elim 0 (·.inst)
  | 0x0920 => s.collStat
  | 0x0A08 => s.hostStat (fldN (s.hub 0xA00) 0 1)
  | 0x0A18 => s.evtRing (fldN (s.hub 0xA10) 0 3)
  | 0x0B08 => s.resetCtl
  | 0x0B10 => s.resetStat
  | 0x0B18 => s.supvHb
  | 0x0B20 => s.capsuleStat
  | 0x0C00 => s.pwrCtl
  | 0x0C08 => s.latTolReg
  | 0x0C10 => s.pwrStep
  | 0x0C18 => s.tempReg
  | 0x0C28 => s.railStat (fldN (s.hub 0xC20) 0 6)
  | 0x0C30 => s.clkStat
  | _ => if (hubPlain off).isSome then s.hub off else 0

/-! ### The CORE blocks -/

/-- R227: STATE of an array. -/
def Dev.arrState (s : Dev) (c a : Nat) : Nat :=
  let m := s.arr c a
  if m.st = .retired then 3
  else if !s.arrUsable c a then 0
  else if !(((s.partOfCore c).bind s.sect).any fun p => (p.arrayUse.find? (·.1 == c)).any fun u => u.2.getLsbD a) then 0
  else if m.st = .ready then 1
  else 2

/-- R227. SPARES reads 0, its reset value, until the BIST of start step 6 has settled the row maps (log entry 57). -/
def Dev.arrStat (s : Dev) (c : Nat) : Word :=
  let spares := fun a => if s.boot.step ≤ 6 then 0 else 4 - (s.arr c a).map.length
  let one := fun a => let m := s.arr c a; (s.arrState c a + spares a * 4 + m.queue.length * 32 + bit m.wvalid * 256 : Nat)
  at_ 0 (one 0) ||| at_ 16 (one 1) ||| at_ 32 (s.arr c 0).cause.toNat ||| at_ 48 (s.arr c 1).cause.toNat

/-- R228. -/
def MArray.mapReg (m : MArray) : Word :=
  let f := (m.map.zipIdx.take 4).foldl (fun w e => w ||| at_ (10 * e.2) (e.1 + 512)) 0
  match m.suspects.getLast? with
  | some r => f ||| at_ 40 r ||| at_ 49 1
  | none => f

/-- R229. -/
def Core.residueLog (k : Core) : Word :=
  at_ 0 (bit k.rlValid) ||| at_ 1 (bit k.rlOver) ||| at_ 2 k.rlArray ||| at_ 3 (bit k.rlLocated) ||| at_ 4 k.rlRow ||| at_ 13 k.rlCol |||
    at_ 21 k.rlDrain ||| at_ 31 k.rlThread ||| at_ 35 (bit k.rlEcc) ||| at_ 40 k.a0.errCount.toNat ||| at_ 48 k.a1.errCount.toNat

def Core.faultReg (k : Core) : Word := at_ 0 (bit k.fValid) ||| at_ 1 (bit k.fOver) ||| at_ 4 k.fThread ||| at_ 16 k.fCode.toNat
def Core.storeErr (k : Core) : Word := at_ 0 k.errCorr.toNat ||| at_ 16 k.errUncorr.toNat ||| at_ 32 k.errWord.toNat

/-- R188–R194, R227–R229. -/
def Dev.coreReg (s : Dev) (c off : Nat) : Word :=
  if !s.coreOn c then 0
  else
    let k := s.core c
    match off with
    | 0x00 =>
      at_ 0 c ||| (if s.img.loaded.isNone then 0
        else match s.partOfCore c with
          | none => at_ 16 (bit (s.arrUsable c 0) + 2 * bit (s.arrUsable c 1))
          | some n => at_ 8 n ||| at_ 11 1 ||| at_ 12 (s.rsv c) ||| at_ 16 (bit (s.arrUsable c 0) + 2 * bit (s.arrUsable c 1)))
    | 0x08 => (List.range 16).foldl (fun w t => w ||| at_ (4 * t) (s.thr ⟨c, t⟩).st.code) 0
    | 0x10 => at_ 0 k.thrReset.toNat
    | 0x18 =>
      let busy := k.resetting || k.thrReset != 0 || (List.range 16).any (fun t => (s.thr ⟨c, t⟩).st == .resetting) || k.a0.st == .reset || k.a1.st == .reset
      at_ 0 (bit k.resetting) ||| at_ 1 (bit busy) ||| at_ 8 k.resetCount.toNat ||| at_ 16 k.resetCause.toNat
    | 0x20 => s.coreWdog c
    | 0x28 => k.faultReg
    | 0x30 => at_ 0 k.fPc.toNat
    | 0x38 => k.storeErr
    | 0x40 => s.arrStat c
    | 0x48 => k.a0.mapReg
    | 0x50 => k.a1.mapReg
    | 0x58 => k.residueLog
    | _ => 0

/-! ### Counter banks and mailbox -/

/-- R663: the bank of a page: (bank number, kind, counters). -/
def Dev.bankAt (s : Dev) (block off : Nat) : Option (Nat × Nat × Nat) :=
  let page := off / 0x1000
  if block = 0x60 then (if page = 0 then some (bankHub, 1, 32) else none)
  else if 0x61 ≤ block ∧ block < 0x65 then
    let n := block - 0x61
    if page = 0 then some (bankDie n, 2, 16)
    else if page < 9 then (if s.coreOn (8 * n + page - 1) then some (bankCore (8 * n + page - 1), 3, 8) else none)
    else if page < 17 then (if s.stackFitted (8 * n + page - 9) then some (bankStack (8 * n + page - 9), 4, 8) else none)
    else none
  else if block = 0x65 then (if page < 14 ∧ s.engFitted page then some (bankEng page, 5, 8) else none)
  else none

/-- R665–R669. -/
def Dev.bankReg (s : Dev) (b kind n off : Nat) : Word :=
  let k := s.bank b
  if off = 0 then at_ 0 k.ovf.toNat ||| at_ 32 (bit k.resetSeen) ||| at_ 33 kind ||| at_ 36 n
  else if off = 8 then at_ 0 (bit k.freeze)
  else if 0x100 ≤ off ∧ off < 0x100 + 16 * n then
    let c := look {} k.ctrs ((off - 0x100) / 16)
    if off % 16 = 0 then c.sel else at_ 0 c.value.toNat ||| at_ 48 c.wraps.toNat
  else if 0x400 ≤ off ∧ off < 0x400 + 8 * n then at_ 0 (look {} k.ctrs ((off - 0x400) / 8)).snap.toNat
  else 0

def Dev.evcReg (s : Dev) (block off : Nat) : Word :=
  if block = 0x60 ∧ off = 0x10000 then s.reg 0x60 0x10000 ||| at_ 16 (bit s.evc.arm)
  else if block = 0x60 ∧ off = 0x10008 then s.reg 0x60 0x10008
  else if block = 0x60 ∧ off = 0x10010 then at_ 0 s.evc.seq.toNat
  else if block = 0x60 ∧ off = 0x10018 then s.evc.time
  else match s.bankAt block off with
    | some (b, kind, n) => s.bankReg b kind n (off % 0x1000)
    | none => 0

/-- R561. -/
def Dev.mboxReg (s : Dev) (port off : Nat) : Word :=
  let m := (s.hport port).mbox
  match off with
  | 0x00 => s.reg (mboxBlock port) 0
  | 0x08 => s.reg (mboxBlock port) 8
  | 0x10 => at_ 0 m.kind ||| at_ 2 (bit m.go)
  | 0x18 => at_ 0 (bit m.busy) ||| at_ 16 m.code.toNat
  | _ => 0

end Sys2Proof.Machine
end

