-- ==== Sys2Proof/WellFormed.lean ====
section
/-! DEFINITION. The ranges of the commands' operands: an ill-formed command names no unit, register or place of the
package and changes nothing (log entry 4). -/

namespace Sys2Proof

/-- R24: an assigned link ID. -/
def linkOk (l : Nat) : Bool := l < 0x16 || (0x20 ≤ l && l < 0x40)

/-- R151: thread 0–15 of core 0–31. -/
def Tid.ok (x : Tid) : Bool := x.core < 32 && x.thr < 16

/-- R363: a wavelength of a fibre. -/
def LambdaRef.ok (l : LambdaRef) : Bool := l.eng < 14 && l.fib < 8 && l.dir < 2 && l.lam < 16

/-- R426: a link that carries credits: fabric ports 0–5, circuits 0–15, D2D links. -/
def LinkRef.ok : LinkRef → Bool
  | .port p => p < 6
  | .circuit c => c < 16
  | .d2d l => linkOk l

/-- R635: a unit with sensors. -/
def TUnit.ok : TUnit → Bool
  | .hub => true
  | .cd n => n < 4
  | .stack k => k < 32
  | .eng e => e < 14

/-- R635: the number of its sensors. -/
def TUnit.sensors : TUnit → Nat
  | .hub => 8
  | .cd _ => 36
  | .stack _ => 4
  | .eng _ => 2

/-- R452: field widths of a packet that are not already in the types; the access lies in one 512 B granule and is
aligned to its size (R292, R321). -/
def Packet.ok (p : Packet) : Bool :=
  p.vc < 6 && p.srcDev < 2 ^ 14 && p.srcDom < 16 && p.dstDev < 2 ^ 14 && p.dstDom < 16 && p.ctx < 1024 &&
    0 < p.size && p.size ≤ 512 && p.addr.toNat / 512 == (p.addr.toNat + p.size - 1) / 512 && p.inp.isNone

/-- R416, R422: a link by which packets come in: a port, or a circuit ended here. -/
def inputOk : LinkRef → Bool
  | .port p => p < 6
  | .circuit c => 8 ≤ c && c < 16
  | .d2d _ => false

/-- R556: a speed and width of a PCI Express link, and its active width under L0p, which FLIT mode alone has. -/
def linkUpOk (port speed width : Nat) (flit : Bool) (l0p : Nat) : Bool :=
  let lanes := fun (w : Nat) => w == 1 || w == 2 || w == 4 || w == 8
  port < 2 && decide (1 ≤ speed) && speed < 7 && lanes width && lanes l0p && l0p ≤ width && (flit || speed == 6 || l0p == width)

/-- The operands are in range. -/
def Instr.wf : Instr → Bool
  | .powerGood _ _ => true
  | .startStepDone _ => true
  | .bootStepTimeout => true
  | .dieReleaseTimeout die => die < 4
  | .configRequest req => req.port < 2
  | .perstAssert port => port < 2
  | .perstDeassert port => port < 2
  | .csrWrite port block off size _ => port < 2 && block < 144 && off < 2 ^ 20 && (size == 4 || size == 8) && off % size == 0
  | .csrAccessBad port _ _ => port < 2
  | .mboxBootFirmware port => port < 2
  | .mboxWholeImage port => port < 2
  | .mboxFetchDone port _ => port < 2
  | .quote q => q < 4096
  | .quoteSigned _ => true
  | .logRead q => q < 4096
  | .testReq port _ => port < 2
  | .testGrant port _ => port < 2
  | .mgmtTestReq q => q < 4096
  | .mgmtTestGrant q => q < 4096
  | .testIdleStart kind _ => kind < 6
  | .testWindowEnd kind _ => kind < 6
  | .testComplete kind _ _ => kind < 6
  | .d2dFlitReceive link dir bundle _ chk _ => linkOk link && dir < 2 && bundle < 28 && chk.errs.all (· < 64)
  | .laneSwap link dir bundle taken => linkOk link && dir < 2 && bundle < 28 && taken.lane < 68
  | .laneSwapDone link dir bundle => linkOk link && dir < 2 && bundle < 28
  | .laneMarginLive link dir bundle _ => linkOk link && dir < 2 && bundle < 28
  | .creditReturnAfterRetrain link dir => link.ok && dir < 2
  | .pathChange link _ => linkOk link
  | .pathChangeDone link => linkOk link
  | .d2dRetrain port => port < 2
  | .d2dRetrainDeferredStart link => linkOk link
  | .d2dRetrainReport link _ _ => linkOk link
  | .widthEscalate link => linkOk link
  | .fetchLineArrive x victim _ => x.ok && victim < 512
  | .computeEntryStart q core thr => q < 4096 && core < 32 && thr < 16
  | .illegalInstruction x _ => x.ok
  | .nop x _ => x.ok
  | .endWork x _ => x.ok
  | .add x _ => x.ok
  | .sub x _ => x.ok
  | .mul x _ => x.ok
  | .mulh x _ => x.ok
  | .and x _ => x.ok
  | .or x _ => x.ok
  | .xor x _ => x.ok
  | .shl x _ => x.ok
  | .shr x _ => x.ok
  | .sra x _ => x.ok
  | .slt x _ => x.ok
  | .sltu x _ => x.ok
  | .sel x _ => x.ok
  | .addi x _ => x.ok
  | .andi x _ => x.ok
  | .ori x _ => x.ok
  | .xori x _ => x.ok
  | .shli x _ => x.ok
  | .shri x _ => x.ok
  | .srai x _ => x.ok
  | .lih x _ => x.ok
  | .beq x _ => x.ok
  | .bne x _ => x.ok
  | .blt x _ => x.ok
  | .bge x _ => x.ok
  | .bltu x _ => x.ok
  | .bgeu x _ => x.ok
  | .jal x _ => x.ok
  | .jalr x _ => x.ok
  | .rdsys x _ => x.ok
  | .rkey x _ => x.ok
  | .icinv x _ => x.ok
  | .ld x _ => x.ok
  | .st x _ => x.ok
  | .vld x _ => x.ok
  | .vst x _ => x.ok
  | .pld x _ => x.ok
  | .pst x _ => x.ok
  | .rld x _ => x.ok
  | .rvld x _ => x.ok
  | .rst x _ => x.ok
  | .rvst x _ => x.ok
  | .raxa x _ => x.ok
  | .rfadd x _ => x.ok
  | .rswap x _ => x.ok
  | .rcas x _ => x.ok
  | .sadd x _ => x.ok
  | .swait x _ => x.ok
  | .swaitTimeout x => x.ok
  | .fence x _ => x.ok
  | .qpost x _ => x.ok
  | .qpostStatus x => x.ok
  | .vadd x _ => x.ok
  | .vsub x _ => x.ok
  | .vmul x _ => x.ok
  | .vfma x _ => x.ok
  | .vmin x _ => x.ok
  | .vmax x _ => x.ok
  | .vcmp x _ => x.ok
  | .vcvt x _ => x.ok
  | .vexp2 x _ => x.ok
  | .vrcp x _ => x.ok
  | .vrsq x _ => x.ok
  | .vand x _ => x.ok
  | .vor x _ => x.ok
  | .vxor x _ => x.ok
  | .vbcast x _ => x.ok
  | .vext x _ => x.ok
  | .vsum x _ => x.ok
  | .vscale x _ => x.ok
  | .pand x _ => x.ok
  | .por x _ => x.ok
  | .pnot x _ => x.ok
  | .mload x _ => x.ok
  | .mstream x _ => x.ok
  | .mdrain x _ => x.ok
  | .mracc x _ => x.ok
  | .mdrv x _ => x.ok
  | .arrayQueueSlotFree x => x.ok
  | .arrayInstrStart core a => core < 32 && a < 2
  | .arrayRowFeed core a => core < 32 && a < 2
  | .drainRowWrite core a _ => core < 32 && a < 2
  | .arrayInstrComplete core a => core < 32 && a < 2
  | .mraccOperationSend core a => core < 32 && a < 2
  | .arrayResidueRate core a => core < 32 && a < 2
  | .arrayResetEscalate core a => core < 32 && a < 2
  | .remoteReply core entry => core < 32 && entry < 256
  | .portAccept x => x.ok
  | .portEntryFree x => x.ok
  | .retireWdog x => x.ok
  | .parkWdog x => x.ok
  | .arrayWdog core a => core < 32 && a < 2
  | .threadReset port core _ => port < 2 && core < 32
  | .portOrphan x => x.ok
  | .threadResetEscalate x => x.ok
  | .coreReset _ core => core < 32
  | .coreResetEscalate core => core < 32
  | .imgReload q _ => q < 4096
  | .reloadCheckDone => true
  | .reloadSwitch => true
  | .reloadDrainExpired => true
  | .read stack chan _ _ => stack < 32 && chan < 31
  | .write stack chan _ _ => stack < 32 && chan < 31
  | .accum stack chan _ _ => stack < 32 && chan < 31
  | .atomic stack chan _ _ => stack < 32 && chan < 31
  | .readout stack chan _ _ => stack < 32 && chan < 31
  | .mgmt stack _ => stack < 32
  | .retrainTurn => true
  | .retrainDone stack chan _ => stack < 32 && chan < 31
  | .memRetrainHold port _ => port < 2
  | .memRetrainHoldEnd => true
  | .scrubPass stack chan _ _ => stack < 32 && chan < 31
  | .migrateThreshold stack chan => stack < 32 && chan < 31
  | .migStart port stack chan => port < 2 && stack < 32 && chan < 31
  | .migrateDone fin => fin.stack < 32
  | .cmdWatchdog stack chan => stack < 32 && chan < 31
  | .laserLow eng input _ => eng < 14 && input < 2
  | .laserLost eng input _ => eng < 14 && input < 2
  | .laserNotice eng _ => eng < 14
  | .laserRecover eng input _ => eng < 14 && input < 2
  | .laserRecalDone eng input => eng < 14 && input < 2
  | .continuousCalibration eng fib => eng < 14 && fib < 8
  | .lambdaSwap l => l.ok
  | .throughFail l => l.ok
  | .fibrePairTrained eng fib _ => eng < 14 && fib < 8
  | .ident eng fib _ => eng < 14 && fib < 8
  | .identResend port => port < 6
  | .portMissing port => port < 6
  | .heartbeatWdog eng fib => eng < 14 && fib < 8
  | .qualificationWindowEnd eng => eng < 14
  | .trainingRetry port => port < 6
  | .signalRegain eng => eng < 14
  | .withdraw port _ => port < 6
  | .linkReset _ eng => eng < 14
  | .linkResetEscalate eng => eng < 14
  | .portRetrain => true
  | .portRediscover => true
  | .portWithdraw => true
  | .portRestore => true
  | .portLocate _ => true
  | .attnPress => true
  | .attnForced => true
  | .attnRelease => true
  | .attnCancel => true
  | .attnBlocked => true
  | .attnDrain => true
  | .attnQuiesceDone => true
  | .attnSafe => true
  | .portFlitReceive port _ _ _ _ => port < 6
  | .packetForward p came => p.ok && inputOk came.via
  | .linkCredit link _ _ _ => link.ok
  | .breakNotice ckt => ckt < 16
  | .circuitHeartbeatWdog ckt => ckt < 16
  | .detune => true
  | .circuitRestore ckt => ckt < 16
  | .circuitReturn ckt => ckt < 16
  | .noRouteHold _ => true
  | .segmentReturn _ => true
  | .creditAudit link => link.ok
  | .audit link _ => link.ok
  | .routeQuery port _ => port < 2
  | .load p => p.ok
  | .store p => p.ok
  | .accumulate p => p.ok
  | .fetchAdd p => p.ok
  | .swap p => p.ok
  | .compareSwap p => p.ok
  | .syncAdd p => p.ok
  | .copyRead p => p.ok
  | .copyWrite p => p.ok
  | .response p => p.ok
  | .negativeAcknowledgement p => p.ok
  | .hold p => p.ok
  | .holdRepeat stack chan _ => stack < 32 && chan < 31
  | .release p => p.ok
  | .dedupExpire _ _ _ => true
  | .attemptTimeout core entry => core < 32 && entry < 256
  | .ctxOpen q => q < 4096
  | .ctxTeardown q => q < 4096
  | .jobTeardown q => q < 4096
  | .ctxFree q => q < 4096
  | .teardownComplete ctx => ctx < 1024
  | .teardownEscalate ctx => ctx < 1024
  | .regionAdd q => q < 4096
  | .regionRemove q => q < 4096
  | .regionRenew q => q < 4096
  | .regionCommandDone q => q < 4096
  | .post port q => port < 2 && q < 4096
  | .copyEntryStart q => q < 4096
  | .copyPieceIssue run _ => run < 512
  | .bulkLost run => run < 512
  | .combiningFlush e => e < 16384
  | .combiningStale e => e < 16384
  | .combiningFlushWaitEnd => true
  | .groupCreate q => q < 4096
  | .groupDestroy q => q < 4096
  | .collAbort q => q < 4096
  | .legDispatch q thr => q < 4096 && thr < 16
  | .peerTimeout q => q < 4096
  | .portExpect q => q < 4096
  | .fabAvoid q => q < 4096
  | .evtRing q => q < 4096
  | .managementPacket _ => true
  | .flr port => port < 2
  | .cplLost port => port < 2
  | .msixUnmask port vec => port < 2 && vec < 2048
  | .qProgressWdog q => q < 4096
  | .dieHeartbeat die => die < 4
  | .stackMgmtWdog stack => stack < 32
  | .engMgmtWdog eng => eng < 14
  | .computeDieReset _ die => die < 4
  | .stackReset _ stack => stack < 32
  | .deviceReset _ => true
  | .dieResetEscalate die => die < 4
  | .stackResetEscalate stack => stack < 32
  | .deviceResetEscalate => true
  | .hubWdog => true
  | .supvHbTick => true
  | .supvN _ => true
  | .housekeepingRound _ => true
  | .pstepLower => true
  | .pwrModeForced => true
  | .pwrForceEnd => true
  | .tstepLower die => die < 4
  | .thermModeForced die => die < 4
  | .thermForceEnd die => die < 4
  | .thermSensor u i => u.ok && decide (i < u.sensors)
  | .clkDeltaT hot cold => hot.ok && cold.ok
  | .modeChange port _ => port < 2
  | .modeChangeDone => true
  | .pwrFastLimit x => x.die < 4
  | .dipWarn x => x.rail < 41
  | .dipReset x => x.rail < 41
  | .dipFloorRelease x => x.rail < 41
  | .pwrStackLost x => x.stack < 32
  | .thermalShutdown x => x.u.ok
  | .latTol port _ => port < 2
  | .coreP1Entry core => core < 32
  | .latencyStateEntry => true
  | .latencyStateExit => true
  | .clkRefLost => true
  | .clkRefReturn => true
  | .vrNoAck reg => reg < 8
  | .evcSel port bank j _ => port < 2 && bank < 83 && j < 32
  | .snapArm port => port < 2
  | .snapNow port => port < 2
  | .readHb => true
  | .readBoot => true
  | .readTemp => true
  | .setOffset _ => true
  | .readCsr => true
  | .jtagInstruction _ => true
  | .powerRemove => true
  | .arrayResetDone core a _ => core < 32 && a < 2
  | .coreResetDone core => core < 32
  | .computeDieResetDone die => die < 4
  | .stackResetDone stack => stack < 32
  | .linkResetDone eng => eng < 14
  | .pcieLinkDown port _ => port < 2
  | .pcieLinkUp port speed width mode => linkUpOk port speed width mode.flit mode.l0p
  | .idleControlFlit eng fib => eng < 14 && fib < 8

end Sys2Proof
end

