-- ==== Sys2Proof/Machine/Act.lean ====
section
/-! DEFINITION. How a command acts on the state: ill-formed operands and a package without power change nothing;
otherwise the effect, and what settles after it. -/

namespace Sys2Proof.Machine

/-- R61, R641, R690, R692: the package is powered and not shut down, so that its hub can act. -/
def Dev.live (s : Dev) : Bool := s.boot.powered && !s.side.supvLow && !s.pow.shutdown

/-- R693: the shadows in the VAUX domain follow their registers while the hub runs, and keep them when it does not. -/
def Dev.shadows (s : Dev) : Dev :=
  if s.live then { s with side := { s.side with shHb := s.supvHb, shBoot := s.vBootStat, shTemp := s.tempReg } } else s

/-- What follows every command: a reload that a reset ended, granted tests that can start, packets that can leave, tests that
give way to work, what settles, the threads that wait for a counter, the shadows. -/
def Dev.finish (s : Dev) : Dev := s.reloadAborts.startGranted.retryWaiting.yieldTests.settle.yieldTests.wakeAll.shadows

/-- The outcome of a command whose effect is `f`; `ok` says that its operands are well-formed. -/
def actIf (ok : Bool) (f : Dev → Dev) (s : State) : Host.Outcome State Fault Refusal :=
  .next (if ok && s.dev.live then { s with dev := (f s.dev).finish } else s)

/-- The same for a given command. -/
def act (c : Instr) (f : Dev → Dev) (s : State) : Host.Outcome State Fault Refusal := actIf c.wf f s

/-- The outcome of a command that acts also without power (pins, sideband, supply). -/
def actAlways (ok : Bool) (f : Dev → Dev) (s : State) : Host.Outcome State Fault Refusal :=
  .next (if ok then { s with dev := (f s.dev).finish } else s)

end Sys2Proof.Machine
end

