-- ==== Sys2Proof/Machine/Sha256.lean ====
section
/-! DEFINITION. SHA-256 (named by R70, R74, R78, R100; its definition is FIPS 180-4, log entry 7). Words are numbers below 2^32,
and the constants are computed from what they are: fractional parts of roots of primes. -/

namespace Sys2Proof.Machine

/-- The big-endian number of a list of bytes. -/
def beNat (l : List Byte) : Nat := l.foldl (fun n b => 256 * n + b.toNat) 0

/-- The `n` big-endian bytes of a number. -/
def beBytes (n x : Nat) : List Byte := (toBytes n x).reverse

/-! ### Constants -/

/-- The largest number of `n` more bits over `r` whose `k`-th power is at most `x`, found from the highest bit down. -/
def rootFloor (k x : Nat) : Nat → Nat → Nat
  | 0, r => r
  | n + 1, r => rootFloor k x n (if (r + 2 ^ n) ^ k ≤ x then r + 2 ^ n else r)

/-- The first 32 bits after the point of the `k`-th root of `p`. -/
def rootFraction (k p : Nat) : Nat := rootFloor k (p * 2 ^ (32 * k)) 36 0 % 2 ^ 32

/-- The primes below `n`, for `n` up to 361. -/
def primesBelow (n : Nat) : List Nat :=
  (List.range n).filter fun p => decide (2 ≤ p) && (span 2 17).all fun d => decide (p ≤ d) || p % d != 0

/-- The words that the hash begins with: square roots of the first 8 primes. -/
def hashStart : List Nat := (primesBelow 20).map (rootFraction 2)

/-- The constants of the rounds: cube roots of the first 64 primes. -/
def hashConsts : List Nat := (primesBelow 312).map (rootFraction 3)

/-! ### One block -/

/-- A word turned right by `n` bits. -/
def turned (x n : Nat) : Nat := x / 2 ^ n + x % 2 ^ n * 2 ^ (32 - n)

/-- A word under three turns. -/
def spread3 (i j k x : Nat) : Nat := turned x i ^^^ turned x j ^^^ turned x k

/-- The schedule as a window of sixteen words, oldest first: the window one round later. -/
def slide (w : List Nat) : List Nat :=
  let x := w.getD 1 0
  let y := w.getD 14 0
  let new := w.getD 0 0 + w.getD 9 0 + (turned x 7 ^^^ turned x 18 ^^^ x / 8) + (turned y 17 ^^^ turned y 19 ^^^ y / 1024)
  w.drop 1 ++ [new % 2 ^ 32]

/-- A round: the eight words and the window of the schedule go on by the round's constant. -/
def hashRound (st : List Nat × List Nat) (k : Nat) : List Nat × List Nat :=
  match st.1 with
  | [p0, p1, p2, p3, q0, q1, q2, q3] =>
    let lower := q3 + k + st.2.getD 0 0 + spread3 6 11 25 q0 + (q2 ^^^ (q0 &&& (q1 ^^^ q2)))
    let upper := lower + spread3 2 13 22 p0 + ((p0 &&& p1) ||| (p2 &&& (p0 ||| p1)))
    ([upper % 2 ^ 32, p0, p1, p2, (p3 + lower) % 2 ^ 32, q0, q1, q2], slide st.2)
  | _ => st

/-- The words of the hash after a block. -/
def hashBlock (h block : List Nat) : List Nat :=
  (h.zip (hashConsts.foldl hashRound (h, block)).1).map fun e => (e.1 + e.2) % 2 ^ 32

/-! ### A message -/

/-- A list cut into pieces of `k`, at most `n` of them. -/
def pieces {α : Type} (k : Nat) : Nat → List α → List (List α)
  | 0, _ => []
  | n + 1, l => if l.isEmpty then [] else l.take k :: pieces k n (l.drop k)

/-- The message with its closing bit, zeros and its length in bits, a multiple of 64 bytes. -/
def padded (m : List Byte) : List Byte := m ++ 0x80 :: List.replicate ((119 - m.length % 64) % 64) 0 ++ beBytes 8 (8 * m.length)

/-- SHA-256 of bytes, as the 256-bit number its 32 bytes spell, the first byte most significant. -/
def sha256 (m : List Byte) : BitVec 256 :=
  let words := (pieces 4 (m.length + 72) (padded m)).map beNat
  BitVec.ofNat 256 (((pieces 16 words.length words).foldl hashBlock hashStart).foldl (fun n x => 2 ^ 32 * n + x) 0)

end Sys2Proof.Machine
end

