-- ==== Sys2Proof/Machine/Measure.lean ====
section
/-! DEFINITION. Measurement (R78–R81): extensions of the accumulators and the log. -/

namespace Sys2Proof.Machine

/-- R78: an extension is made. The log holds 4,096 entries (R80). DESIGN CHOICE (log entry 53): with the log full, an extension
that is no reload's extends its accumulator and leaves no entry. -/
def Dev.extendNow (s : Dev) (m : MeasEntry) : Dev :=
  let old := look 0 s.boot.accs m.acc
  { s with boot := { s.boot with
      accs := put 0 s.boot.accs m.acc (sha256 (beBytes 32 old.toNat ++ beBytes 32 m.digest.toNat))
      log := if s.boot.log.length < 4096 then s.boot.log ++ [m] else s.boot.log } }

/-- R81: an extension asked for; it waits for a quote that is being signed. -/
def Dev.extend (s : Dev) (acc : Nat) (event : BitVec 8) (version : BitVec 32) (digest : BitVec 256) : Dev :=
  let m : MeasEntry := { acc, event, version, digest }
  if s.boot.signing.isSome then { s with boot := { s.boot with extWait := s.boot.extWait ++ [m] } } else s.extendNow m

end Sys2Proof.Machine
end

