-- ==== Sys2Proof/Machine/Formats.lean ====
section
/-! DEFINITION. Number formats (R231–R235, R265, R279, R309): element codes, exact values, one rounding to nearest even. -/

namespace Sys2Proof.Machine

/-- An exact value: ±m × 2^e, an infinity, or NaN. -/
inductive Num where
  | nan
  | inf (neg : Bool)
  | fin (neg : Bool) (m : Nat) (e : Int)
deriving DecidableEq, Repr

def Num.zero : Num := .fin false 0 0

/-- R279: element types, by TY code. -/
inductive Ty where
  | fp32 | bf16 | fp16 | int32 | e4m3 | e5m2 | e2m1 | int8 | e3m2 | e2m3
deriving DecidableEq, Repr

def tyOf (n : Nat) : Option Ty :=
  match n with
  | 0 => some .fp32
  | 1 => some .bf16
  | 2 => some .fp16
  | 3 => some .int32
  | 4 => some .e4m3
  | 5 => some .e5m2
  | 6 => some .e2m1
  | 7 => some .int8
  | 8 => some .e3m2
  | 9 => some .e2m3
  | _ => none

def Ty.bits : Ty → Nat
  | .fp32 | .int32 => 32
  | .bf16 | .fp16 => 16
  | .e4m3 | .e5m2 | .int8 => 8
  | .e3m2 | .e2m3 => 6
  | .e2m1 => 4

/-- R279: elements of a v register. -/
def Ty.count (t : Ty) : Nat := if t.bits = 6 then 680 else 4096 / t.bits

/-- R231: exponent bits, mantissa bits, bias; none for integers. -/
def Ty.fp : Ty → Option (Nat × Nat × Nat)
  | .fp32 => some (8, 23, 127)
  | .bf16 => some (8, 7, 127)
  | .fp16 => some (5, 10, 15)
  | .e4m3 => some (4, 3, 7)
  | .e5m2 => some (5, 2, 15)
  | .e2m1 => some (2, 1, 1)
  | .e3m2 => some (3, 2, 3)
  | .e2m3 => some (2, 3, 1)
  | .int32 | .int8 => none

/-- Formats with infinities and IEEE NaNs. -/
def Ty.ieee : Ty → Bool
  | .fp32 | .bf16 | .fp16 | .e5m2 => true
  | _ => false

/-- An integer as a value. -/
def Num.ofInt (n : Int) : Num := .fin (n < 0) n.natAbs 0

/-- The value of an element code (R231). -/
def decodeNum (t : Ty) (code : Nat) : Num :=
  match t.fp with
  | none => Num.ofInt (BitVec.ofNat t.bits code).toInt
  | some (ew, mw, bias) =>
    let neg := code.testBit (ew + mw)
    let e := code / 2 ^ mw % 2 ^ ew
    let m := code % 2 ^ mw
    if t.ieee ∧ e = 2 ^ ew - 1 then (if m = 0 then .inf neg else .nan)
    else if t = .e4m3 ∧ e = 15 ∧ m = 7 then .nan
    else if e = 0 then .fin neg m (1 - bias - mw)
    else .fin neg (m + 2 ^ mw) ((e : Int) - bias - mw)

/-- Shift right by `k`, to nearest even; `sticky` says that nonzero bits lie below. -/
def rneShift (m k : Nat) (sticky : Bool) : Nat :=
  let q := m / 2 ^ k
  let r := m % 2 ^ k
  let half := 2 ^ k / 2
  if k = 0 then q
  else if half < r || (r == half && (sticky || q % 2 == 1)) then q + 1 else q

/-- The magnitude code of m × 2^e (plus something below it where `sticky`), rounded to nearest even, its exponent unbounded
above. -/
def magCode (mw bias : Nat) (m : Nat) (e : Int) (sticky : Bool) : Nat :=
  if m = 0 then 0
  else
    let top : Int := e + m.log2
    let emin : Int := 1 - bias
    let ef := max top emin
    let k := ef - mw - e
    let n := if k ≤ 0 then m * 2 ^ (-k).toNat else rneShift m k.toNat sticky
    n + (ef - emin).toNat * 2 ^ mw

/-- The canonical NaN of a type, +0 where it has none (R176, R309). -/
def Ty.nanCode : Ty → Nat
  | .fp32 => 0x7FC00000
  | .bf16 => 0x7FC0
  | .fp16 => 0x7E00
  | .e4m3 => 0x7F
  | .e5m2 => 0x7E
  | _ => 0

/-- A sign in front of a magnitude code. -/
def signed (t : Ty) (neg : Bool) (mag : Nat) : Nat := if neg then mag + 2 ^ (t.bits - 1) else mag

/-- R309: the code of a value beyond the range: infinity, NaN of E4M3, or the largest value. -/
def overCode (t : Ty) (sat : Bool) (neg : Bool) : Nat :=
  match t with
  | .fp32 => signed t neg 0x7F800000
  | .bf16 => signed t neg 0x7F80
  | .fp16 => signed t neg 0x7C00
  | .e4m3 => signed t neg (if sat then 0x7E else 0x7F)
  | .e5m2 => signed t neg (if sat then 0x7B else 0x7C)
  | .e2m1 => signed t neg 0x7
  | .e3m2 | .e2m3 => signed t neg 0x1F
  | .int8 => if neg then 0x80 else 0x7F
  | .int32 => if neg then 0x80000000 else 0x7FFFFFFF

/-- The largest magnitude code of a finite value. -/
def Ty.maxMag : Ty → Nat
  | .fp32 => 0x7F7FFFFF
  | .bf16 => 0x7F7F
  | .fp16 => 0x7BFF
  | .e4m3 => 0x7E
  | .e5m2 => 0x7B
  | .e2m1 => 0x7
  | .e3m2 | .e2m3 => 0x1F
  | .int8 | .int32 => 0

/-- R176, R309: the code of ±m × 2^e in a type, rounded to nearest even. -/
def finCode (t : Ty) (sat neg : Bool) (m : Nat) (e : Int) (sticky : Bool) : Nat :=
  match t.fp with
  | some (_, mw, bias) =>
    let c := magCode mw bias m e sticky
    if t.maxMag < c then overCode t sat neg else signed t neg c
  | none =>
    let n := if 0 ≤ e then m * 2 ^ e.toNat else rneShift m (-e).toNat sticky
    if neg then (if 2 ^ (t.bits - 1) < n then overCode t sat true else (2 ^ t.bits - n) % 2 ^ t.bits)
    else if 2 ^ (t.bits - 1) ≤ n then overCode t sat false else n

/-- R176, R309: the code of a value. -/
def encodeNum (t : Ty) (sat : Bool) (v : Num) : Nat :=
  match v with
  | .nan => t.nanCode
  | .inf neg => if t = .e5m2 then signed t neg 0x7C else overCode t sat neg
  | .fin neg m e => finCode t sat neg m e false

/-- The signed mantissa of ±m × 2^e over the exponent `f ≤ e`. -/
def alignTo (neg : Bool) (m : Nat) (e f : Int) : Int :=
  let n : Int := m * 2 ^ (e - f).toNat
  if neg then -n else n

/-- Exact sum. A sum of zero is −0 only where both terms are negative zeros. -/
def Num.add : Num → Num → Num
  | .nan, _ => .nan
  | _, .nan => .nan
  | .inf a, .inf b => if a = b then .inf a else .nan
  | .inf a, _ => .inf a
  | _, .inf b => .inf b
  | .fin a m e, .fin b n f =>
    let g := min e f
    let s := alignTo a m e g + alignTo b n f g
    if s = 0 then .fin (a && b) 0 g else .fin (s < 0) s.natAbs g

def Num.neg : Num → Num
  | .nan => .nan
  | .inf a => .inf (!a)
  | .fin a m e => .fin (!a) m e

/-- Exact product. -/
def Num.mul : Num → Num → Num
  | .nan, _ => .nan
  | _, .nan => .nan
  | .inf a, .inf b => .inf (a != b)
  | .inf a, .fin b n _ => if n = 0 then .nan else .inf (a != b)
  | .fin a m _, .inf b => if m = 0 then .nan else .inf (a != b)
  | .fin a m e, .fin b n f => .fin (a != b) (m * n) (e + f)

/-- v × 2^k. -/
def Num.scale (v : Num) (k : Int) : Num :=
  match v with
  | .fin a m e => .fin a m (e + k)
  | v => v

/-- a < b, a = b; none where a or b is NaN. Both zeros are equal. -/
def Num.cmp : Num → Num → Option Ordering
  | .nan, _ => none
  | _, .nan => none
  | .inf a, .inf b => some (if a = b then .eq else if a then .lt else .gt)
  | .inf a, _ => some (if a then .lt else .gt)
  | _, .inf b => some (if b then .gt else .lt)
  | .fin a m e, .fin b n f =>
    let g := min e f
    some (compare (alignTo a m e g) (alignTo b n f g))

def Num.isNeg : Num → Bool
  | .nan => false
  | .inf a => a
  | .fin a _ _ => a

/-- R307: minimum (or, where `big`, maximum), with −0 below +0. -/
def Num.minmax (big : Bool) (a b : Num) : Num :=
  match a.cmp b with
  | none => .nan
  | some .eq => if a.isNeg == big then b else a
  | some o => if (o == .gt) == big then a else b

def Num.isNan : Num → Bool
  | .nan => true
  | _ => false
def Num.isInf : Num → Bool
  | .inf _ => true
  | _ => false

/-- IEEE 754 binary32 addition on codes. -/
def rne32 (a b : Num) : BitVec 32 := BitVec.ofNat 32 (encodeNum .fp32 false (a.add b))

/-- R265: an FP32 code converted to a type. -/
def conv32 (t : Ty) (code : BitVec 32) : Nat := encodeNum t false (decodeNum .fp32 code.toNat)

/-! ### Reciprocal, reciprocal square root, power of two (R308) -/

/-- Integer square root, bit by bit from bit `k` down. -/
def isqrtGo (n : Nat) : Nat → Nat → Nat
  | 0, r => r
  | k + 1, r =>
    let r' := r + 2 ^ k
    isqrtGo n k (if r' * r' ≤ n then r' else r)

def isqrt (n : Nat) : Nat := isqrtGo n (n.log2 / 2 + 1) 0

/-- Multiply by the square roots of 2 that the bits of a fraction select: `r` holds 2^(2^−j), 128 bits after the point. -/
def pow2Go : Nat → Nat → Nat → Nat → Nat
  | 0, _, _, acc => acc
  | n + 1, frac, r, acc =>
    let r' := isqrt (r * 2 ^ 128)
    pow2Go n (frac * 2 % 2 ^ 64) r' (if 2 ^ 63 ≤ frac then acc * r' / 2 ^ 128 else acc)

/-- 2^(frac × 2^−64), 128 bits after the point. -/
def pow2Frac (frac : Nat) : Nat := pow2Go 64 frac (2 * 2 ^ 128) (2 ^ 128)

/-- A result: a special value, or a magnitude m × 2^e with more below it where `sticky`. -/
inductive Approx where
  | special (v : Num)
  | val (neg : Bool) (m : Nat) (e : Int) (sticky : Bool)
deriving DecidableEq, Repr

def rcpNum : Num → Approx
  | .nan => .special .nan
  | .inf a => .special (.fin a 0 0)
  | .fin a m e => if m = 0 then .special (.inf a) else .val a (2 ^ 256 / m) (-256 - e) (2 ^ 256 % m != 0)

def rsqNum : Num → Approx
  | .nan => .special .nan
  | .inf a => .special (if a then .nan else Num.zero)
  | .fin a m e =>
    if m = 0 then .special (.inf a)
    else if a then .special .nan
    else
      let m' := if e % 2 = 0 then m else 2 * m
      let e' := if e % 2 = 0 then e else e - 1
      let r := isqrt (2 ^ 512 / m')
      .val false r (-256 - e' / 2) (r * r * m' != 2 ^ 512)

/-- 2^x. An x beyond ±2^11 overflows or vanishes in every type; an x below 2^−30 in magnitude gives a result next to 1. -/
def exp2Num : Num → Approx
  | .nan => .special .nan
  | .inf a => .special (if a then Num.zero else .inf false)
  | .fin a m e =>
    if m = 0 then .special (.fin false 1 0)
    else
      let top : Int := e + m.log2
      if 11 ≤ top then .val false 1 (if a then -2048 else 2048) true
      else if top < -30 then (if a then .val false (2 ^ 128 - 1) (-128) true else .val false (2 ^ 128) (-128) true)
      else
        -- x × 2^64 is an integer: e ≥ −30 − 23
        let fx : Int := alignTo a m (e + 64) 0
        let i := fx / 2 ^ 64
        let f := (fx % 2 ^ 64).toNat
        if f = 0 then .val false 1 i false else .val false (pow2Frac f) (i - 128) true

/-- R308: the FP32 results within 1 ulp: below and above an inexact value, an exact value and its neighbours. The device
writes one of them, a fixed function of the opcode and the input bits. -/
def within1ulp (opc : BitVec 8) (input : BitVec 32) (neg : Bool) (m : Nat) (e : Int) (sticky : Bool) : Nat :=
  let up := magCode 23 127 m e sticky
  -- the code of the value cut toward zero: rounded to nearest, and one less where that lies above the value
  let v := decodeNum .fp32 (min up 0x7F7FFFFF)
  let exact : Num := .fin false m e
  let above := (v.cmp exact == some .gt) && decide (up ≤ 0x7F7FFFFF)
  let t := if above then up - 1 else up
  let isExact := (v.cmp exact == some .eq) && !sticky
  let pick := Config.ulpPick opc input
  let c := if 0x7F7FFFFF < up then up
    else if isExact then [t, t + 1, t - 1].getD (pick % 3) t
    else [t, t + 1].getD (pick % 2) t
  if 0x7F7FFFFF < c then overCode .fp32 false neg else signed .fp32 neg c

/-- R308: the code of a result in a type. -/
def approxCode (t : Ty) (opc : BitVec 8) (input : Nat) (r : Approx) : Nat :=
  match r with
  | .special v => encodeNum t false v
  | .val neg m e sticky =>
    if t = .fp32 then within1ulp opc (BitVec.ofNat 32 input) neg m e sticky
    else finCode t false neg m e sticky

end Sys2Proof.Machine
end

