-- ==== Sys2Proof/Machine/MatrixOps.lean ====
section
/-! DEFINITION. Matrix operands: formats and pairs (R233–R238), descriptors and their checks (R242–R245, R266), operand
layouts (R239–R241), the row sums of MSTREAM (R253–R261). -/

namespace Sys2Proof.Machine

/-! ### Formats -/

/-- R235: the element type of a format code. -/
def mxTy (fmt : Nat) : Option Ty :=
  match fmt with
  | 0x0 => some .e4m3
  | 0x1 => some .e5m2
  | 0x2 => some .e4m3
  | 0x3 => some .e5m2
  | 0x4 => some .e3m2
  | 0x5 => some .e2m3
  | 0x6 => some .e2m1
  | 0x7 => some .e2m1
  | 0x8 => some .int8
  | 0x9 => some .int8
  | 0xA => some .bf16
  | 0xB => some .fp16
  | 0xC => some .e2m1
  | 0xD => some .e2m1
  | _ => none

/-- Block-scaled formats, and those with nudges. -/
def mxScaled (fmt : Nat) : Bool := [0x2, 0x3, 0x4, 0x5, 0x6, 0x7, 0x8, 0xC, 0xD].contains fmt
def mxNudged (fmt : Nat) : Bool := fmt == 0x7 || fmt == 0xD

/-- R236: the largest K of a format. -/
def mxMaxK (fmt : Nat) : Nat := if fmt = 0x6 ∨ fmt = 0x7 then 512 else 256

/-- R236: pairs of weight and stream format. -/
def mxPair (w x : Nat) : Bool :=
  (decide (w ≤ 5) && decide (x ≤ 5)) || ((w == 0xC || w == 0xD) && decide (x ≤ 5)) ||
    ((w == 8 || w == 9) && (x == 8 || x == 9)) || ((w == 6 || w == 7) && (x == 6 || x == 7)) ||
    (w == 0xA && x == 0xA) || (w == 0xB && x == 0xB)

/-- R256: array cycles of a row. -/
def mxRowCycles (fmt out : Nat) : Nat := if fmt = 0xA ∨ fmt = 0xB ∨ out = 1 then 2 else 1

/-- R231, R233, R234: the value of an element: its scale byte (none: unscaled, R238), its nudge, MXINT8's factor 2^−6. -/
def mxValue (fmt : Nat) (scale : Option Nat) (nudge code : Nat) : Num :=
  match mxTy fmt with
  | none => .nan
  | some t =>
    let v := decodeNum t code
    let v := if fmt = 0x8 then v.scale (-6) else v
    match scale with
    | none => v
    | some x => if x = 0xFF then .nan else v.scale ((x : Int) - 127 - nudge)

/-! ### Descriptors -/

def MxDesc.mm1 (d : MxDesc) : Nat := fldN d.shape 0 24
def MxDesc.k (d : MxDesc) : Nat := fldN d.shape 24 10
def MxDesc.n (d : MxDesc) : Nat := fldN d.shape 34 9
def MxDesc.drow (d : MxDesc) : Nat := fldN d.shape 43 10
def MxDesc.fmt (d : MxDesc) : Nat := fldN d.shape 53 4
def MxDesc.acc (d : MxDesc) : Bool := d.shape.getLsbD 57
def MxDesc.xb (d : MxDesc) : Bool := d.shape.getLsbD 58
def MxDesc.out (d : MxDesc) : Nat := fldN d.shape 59 2
/-- M, or the row count. -/
def MxDesc.m (d : MxDesc) : Nat := d.mm1 + 1

/-- R243: the descriptor in 64 bytes. -/
def mxDesc (b : List Byte) : MxDesc :=
  let u := fun off n => ofBytes ((b.drop off).take n)
  { shape := BitVec.ofNat 64 (u 0 8), src := BitVec.ofNat 64 (u 8 8), scale := BitVec.ofNat 64 (u 16 8)
    srcPitch := BitVec.ofNat 32 (u 24 4), dstPitch := BitVec.ofNat 32 (u 28 4), dst := BitVec.ofNat 64 (u 32 8)
    sync := BitVec.ofNat 64 (u 40 8), tsync := BitVec.ofNat 64 (u 48 8), key := BitVec.ofNat 32 (u 56 4)
    anchor := BitVec.ofNat 16 (u 60 2), resv := BitVec.ofNat 16 (u 62 2) }

/-- A descriptor of zeros (MDRV has none). -/
def MxDesc.none : MxDesc :=
  { shape := 0, src := 0, scale := 0, srcPitch := 0, dstPitch := 0, dst := 0, sync := 0, tsync := 0, key := 0, anchor := 0, resv := 0 }

/-- Bytes of `n` elements of a format, packed (R239). -/
def mxBytes (fmt n : Nat) : Nat := ((mxTy fmt).elim 0 (fun t => t.bits * n) + 7) / 8

/-- Bytes of an output element by OUT. -/
def outBytes (out : Nat) : Nat := if out = 1 then 4 else 2

/-- The offset of [a, a + n) in the populated store of core `c`, where it lies in it. -/
def inStore (c a n : Nat) : Option Nat :=
  let base := 0x020000000000 + c * 0x02000000
  if base ≤ a ∧ a + n ≤ base + 0x01800000 then some (a - base) else Option.none

/-- Rows of pitch per block of a scaled weight tile: 32 + S. -/
def mxBlockRows (fmt : Nat) : Nat := if mxNudged fmt then 34 else 33

/-- R241: the bytes from SRC to the end of a weight tile. -/
def weightExtent (fmt k n pitch : Nat) : Nat :=
  if k = 0 then 0
  else if mxScaled fmt then ((k + 31) / 32 * mxBlockRows fmt - 1) * pitch + n
  else (k - 1) * pitch + mxBytes fmt n

/-- R245: shape. -/
def mxShapeOk (kind : ArrKind) (d : MxDesc) : Bool :=
  fldN d.shape 61 3 == 0 && d.resv == 0 && decide (1 ≤ d.n) && decide (d.n ≤ 256) &&
  match kind with
  | .mload => decide (d.k ≤ mxMaxK d.fmt)
  | .mstream => decide (d.k ≤ mxMaxK d.fmt) && (d.out != 0 || decide (d.drow + d.m ≤ 1024)) && (d.out == 0 || !d.acc)
  | .mdrain => decide (d.mm1 ≤ 1023) && decide (d.drow + d.m ≤ 1024)
  | .mracc => decide (d.mm1 ≤ 1023) && decide (d.drow + d.m ≤ 1024) && fldN d.anchor 10 6 == 0
  | .mdrv => true

/-- R245: format. -/
def mxFormatOk (kind : ArrKind) (d : MxDesc) : Bool :=
  match kind with
  | .mload => decide (d.fmt ≤ 0xD)
  | .mstream => decide (d.fmt ≤ 0xB) && !(d.xb && d.fmt == 0xA)
  | .mdrain => d.out != 0
  | _ => true

/-- R239–R241, R245, R266: addresses. -/
def mxAddrOk (c : Nat) (kind : ArrKind) (d : MxDesc) : Bool :=
  let src := d.src.toNat
  let sp := d.srcPitch.toNat
  let out := (inStore c d.dst.toNat ((d.m - 1) * d.dstPitch.toNat + d.n * outBytes d.out)).isSome
  match kind with
  | .mload =>
    src % 32 == 0 && sp % 32 == 0 && decide (max (mxBytes d.fmt d.n) d.n ≤ sp) &&
      (d.k == 0 || (inStore c src (weightExtent d.fmt d.k d.n sp)).isSome)
  | .mstream =>
    src % 32 == 0 && sp % 32 == 0 && (!mxScaled d.fmt || d.scale.toNat % 256 == 0) &&
      (d.k == 0 || ((inStore c src ((d.m - 1) * sp + mxBytes d.fmt d.k)).isSome &&
        (!mxScaled d.fmt || (inStore c d.scale.toNat (32 * d.m)).isSome))) &&
      (d.out == 0 || out)
  | .mdrain => out
  | .mracc => d.dst.toNat % 256 == 0 && d.dstPitch.toNat % 256 == 0 && decide (16 * d.n ≤ d.dstPitch.toNat)
  | .mdrv => true

/-- R245: the code with which a descriptor completes its instruction at once. -/
def mxCheck (c : Nat) (kind : ArrKind) (d : MxDesc) : Code :=
  if !mxShapeOk kind d then E_MX_SHAPE
  else if !mxFormatOk kind d then E_MX_FORMAT
  else if !mxAddrOk c kind d then E_MX_ADDR
  else E_OK

/-! ### Operands -/

/-- Element `j` of packed bytes. -/
def mxElem (fmt : Nat) (bytes : List Byte) (j : Nat) : Nat :=
  (mxTy fmt).elim 0 fun t =>
    let b := t.bits * j
    ofBytes ((bytes.drop (b / 8)).take 3) / 2 ^ (b % 8) % 2 ^ t.bits

/-- The nudge of index k within its block, from the block's nudge byte (R234). -/
def mxNudge (byte k : Nat) : Nat := byte / 2 ^ (2 * (k % 32 / 8)) % 4

/-- R241: the store offset of element row `k`, relative to the tile. -/
def weightRow (fmt pitch k : Nat) : Nat :=
  if mxScaled fmt then (k / 32 * mxBlockRows fmt + k % 32) * pitch else k * pitch

/-- R236, R237: formats that stream at rate 2, and are loaded paired. -/
def mxRate2 (fmt : Nat) : Bool := fmt == 0x6 || fmt == 0x7

/-- What the weight feeder writes at a time (R198, R241, R249): columns `lo` to `lo + cnt − 1` of element row `k`, the scale row
or the nudge row of block `b`. -/
inductive LoadPiece where
  | elems (k lo cnt : Nat)
  | scales (b : Nat)
  | nudges (b : Nat)
deriving DecidableEq, Repr

/-- R241: where a piece lies in the tile, from SRC on, and how many bytes it has. -/
def LoadPiece.extent (d : MxDesc) : LoadPiece → Nat × Nat
  | .elems k lo cnt => (weightRow d.fmt d.srcPitch.toNat k + mxBytes d.fmt lo, mxBytes d.fmt cnt)
  | .scales b => ((b * mxBlockRows d.fmt + 32) * d.srcPitch.toNat, d.n)
  | .nudges b => ((b * mxBlockRows d.fmt + 33) * d.srcPitch.toNat, d.n)

/-- R249: the cycles of a load: element rows at the rate of the format, then the scale row and the nudge row of each block; one
cycle for K = 0. -/
def loadCycles (d : MxDesc) : List (List LoadPiece) :=
  if d.k = 0 then [[]]
  else (List.range ((d.k + 31) / 32)).flatMap fun b =>
    let rows := span (32 * b) (min 32 (d.k - 32 * b))
    let whole := fun (k : Nat) => LoadPiece.elems k 0 d.n
    let elems :=
      if d.fmt = 0xA ∨ d.fmt = 0xB then
        rows.flatMap fun k => [[LoadPiece.elems k 0 (min d.n 128)], [LoadPiece.elems k 128 (d.n - 128)]]
      else if [0x6, 0x7, 0xC, 0xD].contains d.fmt then
        (List.range ((rows.length + 1) / 2)).map fun j => ((rows.drop (2 * j)).take 2).map whole
      else rows.map fun k => [whole k]
    elems ++ (if mxScaled d.fmt then [[.scales b]] else []) ++ if mxNudged d.fmt then [[.nudges b]] else []

/-- The bytes of a row, by column, zeros left out. -/
def rowCells {w : Nat} (base : Nat) (cs : List (BitVec w)) : SMap (BitVec w) :=
  cs.zipIdx.filterMap fun c => if c.1 = 0 then Option.none else some (base + c.2, c.1)

/-- The weights with a further piece, whose bytes are given. -/
def Weights.take (w : Weights) (d : MxDesc) (p : LoadPiece) (bytes : List Byte) : Weights :=
  match p with
  | .elems k lo cnt => { w with elems := w.elems ++ rowCells (k * 256 + lo) ((List.range cnt).map fun n => BitVec.ofNat 16 (mxElem d.fmt bytes n)) }
  | .scales b => { w with scales := w.scales ++ rowCells (b * 256) bytes }
  | .nudges b => { w with nudges := w.nudges ++ rowCells (b * 256) bytes }

/-- The element rows that a piece ends. -/
def LoadPiece.rows (d : MxDesc) : LoadPiece → Nat
  | .elems _ lo cnt => if d.n ≤ lo + cnt then 1 else 0
  | _ => 0

/-- R241: the tile, piece after piece: `get off n` gives n bytes at an offset from SRC. -/
def loadPieces (get : Nat → Nat → List Byte) (d : MxDesc) (w : Weights) (ps : List LoadPiece) : Weights :=
  ps.foldl (fun w p => w.take d p (get (p.extent d).1 (p.extent d).2)) w

/-- R241, R249: the weights of a tile that does not change while it is loaded. -/
def readWeights (get : Nat → Nat → List Byte) (d : MxDesc) : Weights :=
  loadPieces get d { fmt := d.fmt, k := d.k, n := d.n } (loadCycles d).flatten

/-- The value of a loaded weight. -/
def Weights.value (w : Weights) (k n : Nat) : Num :=
  let b := k / 32 * 256 + n
  mxValue w.fmt (if mxScaled w.fmt then some (look 0 w.scales b).toNat else Option.none)
    (if mxNudged w.fmt then mxNudge (look 0 w.nudges b).toNat k else 0) (look 0 w.elems (k * 256 + n)).toNat

/-- R239, R240: the values of a stream row, from its element bytes and its slot of the scale plane. -/
def streamRow (d : MxDesc) (row slot : List Byte) : List Num :=
  (List.range d.k).map fun k =>
    let b := k / 32
    mxValue d.fmt (if mxScaled d.fmt then some (slot.getD b 0).toNat else Option.none)
      (if mxNudged d.fmt then mxNudge (slot.getD (16 + b) 0).toNat k else 0) (mxElem d.fmt row k)

/-- One rounding per product (XB = 0). -/
def sumEach (ps : List Num) : BitVec 32 :=
  ps.foldl (fun s p => rne32 (decodeNum .fp32 s.toNat) p) 0

/-- Exact block sums, one rounding per block (XB = 1); `fuel` blocks. -/
def sumBlocks : Nat → List Num → BitVec 32 → BitVec 32
  | 0, _, s => s
  | n + 1, ps, s =>
    match ps with
    | [] => s
    | p :: l =>
      let t := (l.take 31).foldl Num.add p
      sumBlocks n (l.drop 31) (rne32 (decodeNum .fp32 s.toNat) (Num.add Num.zero t))

/-- R253: the row sums of one streamed row. -/
def rowSums (d : MxDesc) (w : Weights) (xs : List Num) : List (BitVec 32) :=
  (List.range d.n).map fun n =>
    let ps := xs.zipIdx.map fun x => x.1.mul (w.value x.2 n)
    if d.xb then sumBlocks 16 ps 0 else sumEach ps

/-- R255, R262, R265: packed output of FP32 codes by OUT. -/
def outElem (out : Nat) (c : BitVec 32) : Nat :=
  conv32 (if out = 1 then .fp32 else if out = 2 then .bf16 else .fp16) c
def outRow (out : Nat) (cs : List (BitVec 32)) : List Byte := cs.flatMap fun c => toBytes (outBytes out) (outElem out c)
def outTy (out : Nat) : Ty := if out = 2 then .bf16 else if out = 3 then .fp16 else .fp32

/-- NAN and INF bits of written codes (R247, R260). -/
def anyNan (t : Ty) (cs : List Nat) : Bool := cs.any fun c => (decodeNum t c).isNan
def anyInf (t : Ty) (cs : List Nat) : Bool := cs.any fun c => (decodeNum t c).isInf

end Sys2Proof.Machine
end

