-- ==== Sys2Proof/Machine/Arrays.lean ====
section
/-! DEFINITION. The life of a matrix array: status words, array resets, residue errors, retirement (R183, R186,
R207–R229, R247). -/

namespace Sys2Proof.Machine

/-- R247: the status word. -/
def statusWord (code : Code) (nan inf : Bool) (rows : Nat) : Word :=
  at_ 0 code.toNat ||| at_ 16 (bit nan) ||| at_ 17 (bit inf) ||| at_ 32 (rows % 2 ^ 25)

/-- R247: write a status word to a thread that still runs the work item; a thread that waits for it goes on. -/
def Thread.takeStatus (t : Thread) (a : Nat) (k : ArrInsn) (w : Word) : Thread :=
  if t.epoch ≠ k.epoch ∨ !(t.awaiting.contains (k.gd, a, k.id)) then t
  else
    let t := { (t.wg k.gd w) with awaiting := t.awaiting.filter (· ≠ (k.gd, a, k.id)) }
    if t.st = .parkedArray ∧ t.stash = none ∧ t.wait = .none ∧ !(t.awaiting.any (·.1 == k.gd)) then { t with st := .ready } else t

/-- R162, R263: a thread that waits for the read of an array instruction goes on; `none` gives it nothing. -/
def Thread.takeRead (t : Thread) (a : Nat) (k : ArrInsn) (v : Option VReg) : Thread :=
  if t.st = .parkedArray ∧ t.wait = .mdrv a k.id ∧ t.epoch = k.epoch then ((v.elim t fun r => t.wv k.gd r)).retire else t

/-- R247: the instruction ends: its status word, then the increment of its SYNC counter. -/
def Dev.endArr (s : Dev) (c a : Nat) (k : ArrInsn) (code : Code) : Dev :=
  let x : Tid := ⟨c, k.thr⟩
  let s := s.modThr x fun t => (t.takeStatus a k (statusWord code k.nan k.inf k.rows)).takeRead a k none
  if k.kind = .mdrv ∨ k.desc.sync = 0 then s
  else match place k.desc.sync.toNat with
    | .ctr i => if k.desc.sync.toNat % 8 = 0 ∧ s.partOfCore (i / 2048) = s.partOfCore c then s.addCtr i 1 else s
    | _ => s

/-- Remove an instruction from its queue. -/
def Dev.dropArr (s : Dev) (c a id : Nat) : Dev := s.modArr c a fun m => { m with queue := m.queue.filter (·.id ≠ id) }

/-- R183, R186, R220 step 1: the queue is emptied; every instruction ends with a code. Operations in flight are
orphaned (R274). -/
def Dev.emptyArr (s : Dev) (c a : Nat) (code : ArrInsn → Code) : Dev :=
  let q := (s.arr c a).queue
  let s := s.modArr c a fun m => { m with queue := [] }
  let s := s.modCore c fun k => { k with port := k.port.map fun (e : Nat × Option PEntry) =>
    (e.1, e.2.map fun p => if p.thr = arrIssuer a then { p with orphan := true } else p) }
  s.fold q fun s k => s.endArr c a k (code k)

/-- R183, R220: an array reset begins; instructions of the queue end with `E_ARRAY_WDOG` but those given a code. -/
def Dev.arrayReset (s : Dev) (c a : Nat) (code : ArrInsn → Code := fun _ => E_ARRAY_WDOG) : Dev :=
  if (s.arr c a).st = .retired then s
  else
    let s := s.resetTests fun kind unit => kind == 2 && unit == 2 * c + a
    let s := s.modArr c a fun m => { m with st := .reset }
    s.emptyArr c a code

/-- R223: an array is retired. -/
def Dev.retireArr (s : Dev) (c a : Nat) (cause : Code) : Dev :=
  if (s.arr c a).st = .retired then s
  else
    let s := s.resetTests fun kind unit => kind == 2 && unit == 2 * c + a
    let s := s.modArr c a fun m => { m.cleared with st := .retired, cause }
    let s := s.when (s.arrUsable c a) (·.capLoss)
    let s := { s with img := { s.img with arraysUsable := s.img.arraysUsable &&& ~~~(BitVec.ofNat 64 (2 ^ (2 * c + a))) } }
    let s := s.repaired E_ARRAY_RETIRED (2 * c + a) (cause.setWidth 64)
    (s.emptyArr c a fun _ => E_ARRAY_ABSENT).testDropAbsent

/-- R207: the physical row that carries logical row `k`: each failed row at or above it pushes it down by one. -/
def physRow (map : List Nat) (k : Nat) : Nat := map.foldl (fun p f => if f ≤ p then p + 1 else p) k

/-- R207, R208: a physical row carries a logical row. The others are the failed rows and those below the 256th good row. -/
def MArray.inUse (m : MArray) (row : Nat) : Bool := (List.range 256).any fun k => physRow m.map k == row

/-- R207, R212: add a failed row to the map, or retire the array: a row that carries no logical row cannot be spared. -/
def Dev.addRow (s : Dev) (c a row : Nat) : Dev :=
  let m := s.arr c a
  if m.st = .retired then s
  else if !m.inUse row then s.retireArr c a E_ARRAY_CHAIN
  else if 4 ≤ m.map.length then s.retireArr c a E_ARRAY_SPARES_OUT
  else
    let s := s.modArr c a fun m => { m with map := insertBy id row m.map, suspects := m.suspects.filter (· ≠ row) }
    s.repaired E_ARRAY_SPARE_APPLIED (2 * c + a) (BitVec.ofNat 64 row)

/-- R220: the array reset ends: in-field failures enter the map, bank and weights are cleared, the chain check decides. -/
def Dev.arrayResetEnd (s : Dev) (c a : Nat) (chainOk : Bool) : Dev :=
  if (s.arr c a).st ≠ .reset then s
  else
    let rows := (s.arr c a).failures
    let s := s.modArr c a fun m => { m.cleared with failures := [] }
    let s := s.fold rows fun s r => s.addRow c a r
    if (s.arr c a).st = .retired then s
    else if !chainOk then s.retireArr c a E_ARRAY_CHAIN
    else s.modArr c a fun m => { m with st := .ready }

/-- R214: the physical row at which a residue error is located: every failing column reports the same one. -/
def residueRow (res : Residue) : Option Nat :=
  match res with
  | [] => none
  | (_, none) :: _ => none
  | (_, some r) :: l => if l.all (fun e => e.2 == some r) then some r else none

/-- R229: the residue log. -/
def Core.logResidue (k : Core) (a : Nat) (loc : Option Nat) (col drain thr : Nat) (ecc : Bool) : Core :=
  if k.rlValid then { k with rlOver := true }
  else { k with rlValid := true, rlArray := a, rlLocated := loc.isSome, rlRow := loc.getD 0, rlCol := col, rlDrain := drain,
                rlThread := thr, rlEcc := ecc }

/-- R218: what a located error makes of its physical row. -/
def MArray.located (m : MArray) (row : Nat) : MArray :=
  if m.suspects.contains row then { m with failures := addNew m.failures row }
  else { m with suspects := (if 4 ≤ m.suspects.length then m.suspects.drop 1 else m.suspects) ++ [row] }

/-- R214–R219: a residue error of an instruction at a drain row. `E_DRAIN_UNCORR` retires the array (R216), and so does an error at
a row that carries no logical row (R212): a mapped one or one below the 256th good row. What tells an error of a row's partial-sum
register from one of its cells is the chain check of the array reset (R220), whose failure retires the array too. -/
def Dev.residueError (s : Dev) (c a : Nat) (k : ArrInsn) (drain : Nat) (res : Residue) (ecc : Bool) : Dev :=
  let loc := if ecc then none else residueRow res
  let code := if ecc then E_DRAIN_UNCORR else E_ARRAY_RESIDUE
  let col := (res.map (·.1)).foldl min 255
  let s := s.modCore c fun q => q.logResidue a loc (if ecc then 0 else col) drain k.thr ecc
  let s := s.modArr c a fun m =>
    { m with bad := if ecc then m.bad else addNew m.bad drain, errCount := sat8 m.errCount
             errTimes := s.clock :: m.errTimes.take 7 }
  let s := (s.logE code (2 * c + a)).count (bankCore c) 0x11
  let unused := loc.elim false fun r => !(s.arr c a).inUse r
  let s := s.when (!unused) fun s => loc.elim s fun r => s.modArr c a fun m => m.located r
  -- step 1: the instruction completes with its code, the others of the queue with that of the array reset
  let others := fun (i : ArrInsn) => if i.id = k.id then code else E_ARRAY_WDOG
  if ecc || unused then
    ((s.emptyArr c a others).retireArr c a (if ecc then E_DRAIN_UNCORR else E_ARRAY_CHAIN))
  else (s.arrayReset c a others).testAsk 2 (2 * c + a)

end Sys2Proof.Machine
end

