-- ==== Sys2Proof/Machine/Capsule.lean ====
section
/-! DEFINITION. The crash capsule (R351, R600–R605): captures, their sections, the ring, and what the window shows. -/

namespace Sys2Proof.Machine

def Dev.secThreads (s : Dev) (cores : List Nat) : List Word :=
  section_ 0x01 (cores.flatMap fun c => (List.range 16).flatMap fun t => s.threadRecord ⟨c, t⟩)

def Dev.secCoreRegs (s : Dev) (cores : List Nat) : List Word :=
  section_ 0x02 (cores.flatMap fun c => [0x28, 0x30, 0x40, 0x48, 0x50, 0x58, 0x38].map (s.coreReg c ·))

def Dev.secCounters (s : Dev) (f : Nat → Bool) : List Word :=
  section_ 0x03 ((s.sync.filter fun e => f e.1).flatMap fun e => [at_ 0 e.1, e.2])

/-- The links of a compute die (R24). -/
def linksOfDie (n : Nat) : List Nat := [n, (n + 3) % 4, 4 + n] ++ span (0x20 + 8 * n) 8
def allLinks : List Nat := List.range 0x16 ++ span 0x20 32

def Dev.secD2d (s : Dev) (links : List Nat) : List Word :=
  section_ 0x04 ((links.filter (s.linkFitted ·)).flatMap fun l => [0, 1].flatMap fun dir => (List.range (bundlesOf l)).flatMap fun b =>
    [at_ 0 l ||| at_ 8 b ||| at_ 16 dir, s.d2dStat l dir b])

def Dev.secMem (s : Dev) (ks : List Nat) : List Word :=
  section_ 0x05 (ks.flatMap fun k => [s.memStat k, s.axaStat k] ++ (List.range 31).map (s.chanStat k ·))

/-- R407: the fibres of the selectable circuit `n` (R435) on this device: (engine, pair, direction). -/
def Dev.cktFibres (s : Dev) (n : Nat) : List (Nat × Nat × Nat) :=
  let lvl2 := n % 2 == 1
  let minus := n / 2 % 2
  let dim := n / 4 % 2
  let ended := n / 8 % 2
  let c := if dim = 0 then s.devNum % 128 else s.devNum / 128
  let j := if lvl2 then c % 32 / 4 else c % 8
  let port := 2 * dim + (minus + ended) % 2
  (span (3 * j) 3).map fun f => (3 * port + f / 8, f % 8, ended)

/-- The selectable circuits of the plan. -/
def Dev.cktsOn (s : Dev) (e : Nat) : List Nat :=
  (List.range 16).filter fun n => (s.ckt n).st != .notInPlan && (s.cktFibres n).any (·.1 == e)

def Dev.secEngine (s : Dev) (es : List Nat) : List Word :=
  section_ 0x06 (es.flatMap fun e =>
    s.engStat e :: ((List.range 8).flatMap fun f => [s.fibStat e f 0, s.fibStat e f 1]) ++ (s.cktsOn e).map (s.cktStat ·))

/-- The eight words of a queue entry. -/
def entryWords (e : Entry) : List Word := (List.range 8).map fun i => BitVec.ofNat 64 (fldN e (64 * i) 64)

def Dev.secQueues (s : Dev) : List Word :=
  section_ 0x07 (((s.img.loaded.map (·.owners)).getD []).flatMap fun o =>
    [s.queueStatus (s.portOf o.2) o.1, at_ 0 (s.qDesc o.1).toNat] ++ (s.queue o.1).entries.flatMap fun e => entryWords e.e)

def Dev.secContexts (s : Dev) : List Word :=
  section_ 0x08 ((s.ra.ctxs.filter fun e => e.2.st != .free).flatMap fun e => [s.ctxInfo e.1, s.ctxErrReg e.1])
def Dev.secGroups (s : Dev) : List Word :=
  section_ 0x09 ((s.coll.groups.filterMap (·.2)).flatMap fun g => [g.info, g.stat, g.inst])
def Dev.secRegions (s : Dev) : List Word :=
  section_ 0x0A (s.ra.regions.flatMap fun e => [s.regionInfo e.1, s.regionBase e.1])
def Dev.secLog (s : Dev) : List Word :=
  section_ 0x0B ((s.rcv.log.take 4096).flatMap fun e => [at_ 0 e.code.toNat ||| at_ 32 e.unit, BitVec.ofNat 64 e.usec])
def Dev.secFabric (s : Dev) : List Word := section_ 0x0C [s.fabStat, s.auditStat, s.combStat, s.dedupStat, s.raStat]

/-- R603: the sections that each domain writes. -/
def Dev.sections (s : Dev) (domain unit : Nat) : List Word :=
  let cores := List.range 32
  match domain with
  | 2 => s.secThreads [unit] ++ s.secCoreRegs [unit]
  | 3 =>
    let cs := span (8 * unit) 8
    s.secThreads cs ++ s.secCoreRegs cs ++ s.secCounters (fun i => i / 16384 == unit) ++ s.secD2d (linksOfDie unit) ++ s.secLog
  | 4 => s.secMem [unit] ++ s.secLog
  | 5 => s.secEngine [unit] ++ s.secLog
  | 6 =>
    s.secThreads cores ++ s.secCoreRegs cores ++ s.secCounters (fun _ => true) ++ s.secD2d allLinks ++
      s.secMem ((List.range 32).filter (s.stackFitted ·)) ++ s.secEngine ((List.range 14).filter (s.engFitted ·)) ++ s.secQueues ++
      s.secContexts ++ s.secGroups ++ s.secRegions ++ s.secLog ++ s.secFabric
  | _ => []

/-- R602, R603: the capture of a reset of a core or a larger domain. -/
def Dev.capture (s : Dev) (domain unit : Nat) (cause : Code) : Dev := s.putCapture domain unit cause (s.sections domain unit)

/-- R351: the newest captures that fit one half, laid out again from its start. -/
def Capsule.oneHalf (c : Capsule) : Capsule :=
  let kept := c.captures.foldr (fun x (acc : List Capture × Nat) =>
    let n := 8 * x.words.length
    if acc.1.length + acc.2 = 0 ∨ acc.2 + n ≤ 0x08000000 - 0x1000 then (x :: acc.1, acc.2 + n) else acc) ([], 0)
  let laid := kept.1.foldl (fun (acc : List Capture × Nat) x => (acc.1 ++ [{ x with off := acc.2 }], acc.2 + 8 * x.words.length)) ([], 0x1000)
  { c with halves := 1, captures := laid.1, head := laid.2, oldest := (laid.1.head?.map (·.seq)).getD c.nextSeq }

/-- R351: a capsule stack is lost: the whole capsule goes to the half that remains; without one there is no capsule. -/
def Dev.capsuleLoss (s : Dev) (k : Nat) : Dev :=
  let c := s.rcv.capsule
  if c.halves = 0 || !s.capsuleStacks.contains k then s
  else
    let left := s.capsuleStacks.filter fun j => !s.boot.stacksLost.getLsbD j
    let c' := if left.isEmpty then { c with halves := 0, captures := [] } else if c.halves = 2 then c.oneHalf else c
    { s with rcv := { s.rcv with capsule := c' } }

/-- R601: the header. -/
def Capsule.header (c : Capsule) : List Word :=
  let h := fun (crc : Nat) =>
    [at_ 0 0x4C535043 ||| at_ 32 1 ||| at_ 48 c.halves, at_ 0 c.ringEnd, at_ 0 c.head, at_ 0 c.nextSeq.toNat ||| at_ 32 c.oldest.toNat,
     at_ 0 c.epoch.toNat, 0, 0, at_ 32 crc]
  h (crc32 ((wordBytes (h 0)).take 60))

/-- R605: a 64-bit word of the capsule, by its offset. -/
def Capsule.word (c : Capsule) (a : Nat) : Word :=
  if c.halves = 0 ∨ c.ringEnd ≤ a then 0
  else if a < 0x1000 then (c.header)[a / 8]?.getD 0
  else if c.halves = 2 ∧ 0x08000000 ≤ a ∧ a < 0x08001000 then (c.header)[(a - 0x08000000) / 8]?.getD 0
  else match c.captures.find? fun (x : Capture) => x.off ≤ a && a < x.off + 8 * x.words.length with
    | some x => (x.words)[(a - x.off) / 8]?.getD 0
    | none => 0

/-- R605: the window. -/
def Dev.capsuleWindow (s : Dev) (off : Nat) : Word :=
  s.rcv.capsule.word (fldN (s.hub 0xB28) 0 9 * 0x80000 + (off - 0x80000))

/-- R563: the doorbell page of a queue as a port reads it: STATUS, and zero elsewhere. -/
def Dev.doorReg (s : Dev) (port q off : Nat) : Word := if off = 0x48 && s.doorOpen port q then s.queueStatus port q else 0

/-- R559: a 64-bit register or window word, by block and offset; absent units and unassigned places read zero. -/
def Dev.wordAt (s : Dev) (port block off : Nat) : Word :=
  if block = 0 then (if 0x80000 ≤ off then s.capsuleWindow off else s.hubReg off)
  else if block = 1 then s.mboxReg port off
  else if 0x10 ≤ block ∧ block < 0x30 then s.coreReg (block - 0x10) off
  else if 0x30 ≤ block ∧ block < 0x50 then s.memReg (block - 0x30) off
  else if 0x50 ≤ block ∧ block < 0x5E then s.engReg (block - 0x50) off
  else if 0x60 ≤ block ∧ block < 0x66 then s.evcReg block off
  else if 0x80 ≤ block then s.doorReg port ((block - 0x80) * 256 + off / 4096) (off % 4096)
  else 0

/-- R15, R65: what an aligned read of 4 or 8 bytes through BAR0 of a port returns. Before step 10 all but the HUB block and the
boot mailbox read all ones. -/
def Dev.readReg (s : Dev) (port block off size : Nat) : Word :=
  if 2 ≤ block && !s.ready then BitVec.ofNat 64 (ones (8 * size))
  else BitVec.ofNat 64 (fldN (s.wordAt port block (off / 8 * 8)) (8 * (off % 8)) (8 * size))

end Sys2Proof.Machine
end

