-- ==== Sys2Proof/Machine/HbmOps.lean ====
section
/-! DEFINITION. The base dies: serving the requests of a channel queue, ECC and poison, tokens, retraining, migration, dead
channels (R321–R346, R488–R500, R594). -/

namespace Sys2Proof.Machine

/-! ### Choosing a request (R322, R324, R330–R333) -/

/-- The 32 B words of a request, by their number within the channel. -/
def MemReq.words (r : MemReq) : List Nat := words32 r.off r.size

/-- R330: the tokens of a request. -/
def MemReq.cost (r : MemReq) : Nat :=
  match r.kind with
  | .read | .write => (r.size + 63) / 64
  | .accum => 8
  | .fetchAdd | .swap | .compareSwap => 2
  | .readout => if r.clear then 8 else 4

/-- R331, R332: the partition charged holds the tokens; requests charged to none need none. -/
def Dev.hasTokens (s : Dev) (k : Nat) (r : MemReq) : Bool := r.part.elim true fun n => decide (r.cost ≤ (s.bucket k n).tokens)

/-- R322: no earlier request of the queue touches a word of request `i`. -/
def inOrder (q : List MemReq) (i : Nat) (r : MemReq) : Bool :=
  (q.take i).all fun e => e.words.all fun w => !(r.words.contains w)

/-- The requests of a queue that R322 lets be served. -/
def readyReqs (q : List MemReq) : List MemReq := (q.zipIdx.filter fun e => inOrder q e.2 e.1).map (·.1)

/-- The place of a partition in a round-robin that served `last` last. -/
def turnOf (last n : Nat) : Nat := (n + 7 - last % 8) % 8

/-- R332: requests with tokens go first; those without, round-robin by partition. -/
def Dev.fairOk (s : Dev) (k p : Nat) (r : MemReq) : Bool :=
  let q := readyReqs (s.chan k p).queue
  if s.hasTokens k r then true
  else if q.any (s.hasTokens k ·) then false
  else
    let me := turnOf (s.chan k p).rr (r.part.getD 0)
    q.all fun e => decide (me ≤ turnOf (s.chan k p).rr (e.part.getD 0))

/-- The channel serves request `i` of its queue now (R91, R339, R345, R349, R351). -/
def Dev.mayServe (s : Dev) (k p i : Nat) (r : MemReq) : Bool :=
  let c := s.chan k p
  (c.st != .retraining) && !s.windowOpen 3 (32 * k + p) && !(s.stk k).inReset && !(s.stk k).selfRefresh && !s.inReset 6 0 && inOrder c.queue i r && s.fairOk k p r

/-- R330–R333: the tokens of a served request are spent, or it is counted as borrowed. -/
def Dev.charge (s : Dev) (k p : Nat) (r : MemReq) : Dev :=
  match r.part with
  | none => s
  | some n =>
    if s.hasTokens k r then s.modBucket k n fun b => { b with tokens := b.tokens - r.cost, spent := b.spent + r.cost }
    else
      ((s.modBucket k n fun b => { b with borrowed := b.borrowed + 1 }).modChan k p fun c => { c with rr := n }).count
        (bankStack k) 0x48 1 none (some n)

/-- Serve request `i` of a channel's queue, of one of the kinds given. -/
def Dev.serve (s : Dev) (k p i : Nat) (kinds : MKind → Bool) (f : Dev → MemReq → Dev) : Dev :=
  match (s.chan k p).queue[i]? with
  | none => s
  | some r =>
    if kinds r.kind && s.mayServe k p i r then
      f ((s.charge k p r).modChan k p fun c => { c with queue := dropAt c.queue i }) r
    else s

/-! ### ECC, poison, data -/

/-- R706: a word with an error that the code of R334 does not find reads as the error has made it. -/
def Dev.eccMissed (s : Dev) (k p : Nat) (r : MemReq) (ws : List Nat) (e : Nat × Bool × BitVec 256) : Dev :=
  let w := r.off / 32 + e.1
  if !ws.contains w || s.poisoned k p w then s
  else { s with mem := { s.mem with data := setMasked s.mem.data (memKey k p (32 * w)) (ones 32) (toBytes 32 e.2.2.toNat) } }

/-- R334, R335, R706: what ECC found in the words `ws` that a request reads, and what it missed. -/
def Dev.eccApply (s : Dev) (k p : Nat) (r : MemReq) (ws : List Nat) (e : EccFind) : Dev :=
  let s := s.fold (e.missed.filter fun m => !((e.corrected ++ e.uncorrectable).contains m.1)) fun s m => s.eccMissed k p r ws m
  let here := fun (l : List Nat) => ws.filter fun w => l.contains (w - r.off / 32) && !s.poisoned k p w
  let bad := here e.uncorrectable
  let cor := (here (e.corrected ++ (e.missed.filter (·.2.1)).map (·.1))).filter fun w => !(bad.contains w)
  let s := s.when (!cor.isEmpty) fun s =>
    (s.modChan k p fun c => { c with ceTimes := List.replicate cor.length s.clock ++ c.ceTimes }).count (bankStack k) 0x47 cor.length
  s.fold bad fun s w => (s.setPoison k p w true).logE E_MEM_UNCORR (32 * k + p)

/-- R321: the poison bits of the words of an access. -/
def Dev.poisonBitsAt (s : Dev) (k p off n : Nat) : BitVec 16 :=
  BitVec.ofNat 16 ((words32 off n).foldl (fun m w => if s.poisoned k p w then m + 2 ^ (w - off / 32) else m) 0)

/-- R321: the poison bits of a request's words. -/
def Dev.poisonBits (s : Dev) (k p : Nat) (r : MemReq) : BitVec 16 :=
  BitVec.ofNat 16 (r.words.foldl (fun m w => if s.poisoned k p w then m + 2 ^ (w - r.off / 32) else m) 0)

def Dev.memRead (s : Dev) (k p off n : Nat) : List Byte := getBytes s.mem.data (memKey k p off) n

/-- Bytes of a channel, where bit i of the mask is set. -/
def Dev.memWrite (s : Dev) (k p off : Nat) (bytes : List Byte) (mask : Nat) : Dev :=
  { s with mem := { s.mem with data := setMasked s.mem.data (memKey k p off) mask bytes } }

/-- R489: the flags of a 16 B word. -/
def Dev.axaFlags (s : Dev) (k p off : Nat) : BitVec 2 := look 0 s.mem.flags (memKey k p off / 16)
def Dev.setAxaFlags (s : Dev) (k p off : Nat) (f : BitVec 2) : Dev :=
  { s with mem := { s.mem with flags := put 0 s.mem.flags (memKey k p off / 16) f } }

/-- R594: the tag of a request that is acknowledged. -/
def Dev.recordTag (s : Dev) (k : Nat) (r : MemReq) (prior : Word) : Dev :=
  s.modStk k fun b => { b with tags := (r.tag, prior) :: b.tags }

/-- The data units of a request (R675). -/
def MemReq.units (r : MemReq) : Nat := (r.size + 63) / 64

/-- The answer to a read of `len` bytes at `off`. -/
def Dev.readBack (s : Dev) (k p : Nat) (src : MSrc) (off len : Nat) : Dev :=
  s.respond src (s.memRead k p off len) (s.poisonBitsAt k p off len) E_OK

/-- READ, answered to its requester and to those whose reads were merged into it (R56). -/
def Dev.doRead (s : Dev) (k p : Nat) (e : EccFind) (r : MemReq) : Dev :=
  let s := s.eccApply k p r r.words e
  let s := s.count (bankStack k) 0x41 r.units none r.part
  (s.readBack k p r.src (r.off + r.lead) r.len).fold r.riders fun s x => s.readBack k p x.src x.off x.len

/-- R500: the 16 B words that a write covers whole lose their flags. -/
def Dev.clearFlags (s : Dev) (k p : Nat) (r : MemReq) : Dev :=
  s.fold (span (r.off / 16) (r.size / 16 + 1)) fun s w =>
    if (span (16 * w) 16).all fun a => decide (r.off ≤ a) && decide (a < r.off + r.size) && r.mask.testBit (a - r.off)
    then s.setAxaFlags k p (16 * w) 0 else s

/-- WRITE (R335, R336, R345, R500). A word written from poisoned data becomes poisoned. -/
def Dev.doWrite (s : Dev) (k p : Nat) (e : EccFind) (r : MemReq) : Dev :=
  if (s.chan k p).st = .dead then s.respond r.src [] 0 E_MEM_CHAN_DEAD
  else
    let part := partWords r.off r.size r.mask
    let whole := wholeWords r.off r.size r.mask
    let s := s.eccApply k p r part e
    if part.any (s.poisoned k p ·) then s.respond r.src [] 0 E_MEM_POISON
    else
      let s := s.memWrite k p r.off r.data r.mask
      let s := s.fold (part ++ whole) fun s w => s.setPoison k p w (r.poison.getLsbD (w - r.off / 32))
      let s := (s.clearFlags k p r).recordTag k r 0
      (s.count (bankStack k) 0x42 r.units none r.part).respond r.src [] 0 E_OK

/-- R494, R496: one word of an ACCUM. -/
def Dev.accWord (s : Dev) (k p off : Nat) (w : Nat × BitVec 128 × BitVec 2) : Dev :=
  let a := off + 16 * w.1
  let n := BitVec.ofNat 128 (ofBytes (s.memRead k p a 16)) + w.2.1
  let old := s.axaFlags k p a
  let new := old ||| w.2.2
  let s := (s.memWrite k p a (toBytes 16 n.toNat) (ones 16)).setAxaFlags k p a new
  let rose := new &&& ~~~old
  s.modStk k fun b =>
    { b with rangeSets := if rose.getLsbD 0 then sat16 b.rangeSets else b.rangeSets
             specialSets := if rose.getLsbD 1 then sat16 b.specialSets else b.specialSets }

/-- R137: the AXA region table in force refuses an accumulate at its application: its packet and the code. -/
def Dev.accumBad (s : Dev) (r : MemReq) : Option (Packet × Code) :=
  match r.src with
  | .remote p => (s.axaBad p).map fun c => (p, c)
  | _ => none

/-- ACCUM (R496, R498). R137: under the AXA region table in force now. -/
def Dev.doAccum (s : Dev) (k p : Nat) (e : EccFind) (r : MemReq) : Dev :=
  let s := s.eccApply k p r r.words e
  match s.accumBad r with
  | some (p, code) => s.refuse p code
  | none =>
    if s.poisonBits k p r ≠ 0 then s.respond r.src [] 0 E_MEM_POISON
    else
      let s := s.fold ((r.acc.map accWords).getD []) fun s w => s.accWord k p r.off w
      let s := (s.modStk k fun b => { b with accums := b.accums + 1 }).recordTag k r 0
      (s.count (bankStack k) 0x43 1 none r.part).respond r.src [] 0 E_OK

/-- R297: the new value of an ATOMIC. -/
def MemReq.newValue (r : MemReq) (prior : Word) : Word :=
  match r.kind with
  | .fetchAdd => prior + r.op1
  | .swap => r.op1
  | .compareSwap => if prior = r.op1 then r.op2 else prior
  | _ => prior

/-- R462, R463: the atomic of a packet is settled: its entry holds the result, or is freed where the atomic was refused; the
attempts that waited on it are answered. -/
def Dev.dedupDone (s : Dev) (p : Packet) (prior : Word) (code : Code) : Dev :=
  match s.ra.dedup.find? (·.isOf p) with
  | none => s
  | some d =>
    let l := if code = E_OK then s.ra.dedup.map fun e => if e.isOf p then { e with prior := some prior, waiters := [] } else e
      else s.ra.dedup.filter fun e => !e.isOf p
    let s := { s with ra := { s.ra with dedup := l } }
    s.fold d.waiters fun s w => s.answerPkt w (if code = E_OK then toBytes 8 prior.toNat else []) 0 code

/-- The answer of an ATOMIC, to its requester and to the attempts that waited. -/
def Dev.answerAtomic (s : Dev) (r : MemReq) (prior : Word) (code : Code) : Dev :=
  let s := s.respond r.src (if code = E_OK then toBytes 8 prior.toNat else []) 0 code
  match r.src with
  | .remote p => s.dedupDone p prior code
  | _ => s

/-- ATOMIC (R323, R336, R463). -/
def Dev.doAtomic (s : Dev) (k p : Nat) (e : EccFind) (r : MemReq) : Dev :=
  let s := s.eccApply k p r r.words e
  if s.poisonBits k p r ≠ 0 then s.answerAtomic r 0 E_MEM_POISON
  else
    let prior : Word := BitVec.ofNat 64 (ofBytes (s.memRead k p r.off 8))
    let s := (s.memWrite k p r.off (toBytes 8 (r.newValue prior).toNat) (ones 8)).recordTag k r prior
    (s.count (bankStack k) 0x44 1 none r.part).answerAtomic r prior E_OK

/-! ### Channels (R338–R346) -/

/-- A retrain of a channel begins. -/
def Dev.retrainChan (s : Dev) (k p : Nat) : Dev :=
  s.modChan k p fun c => if c.st = .active then { c with st := .retraining } else c

/-- R345: every word of a channel from word `n` on becomes poisoned and its flags are lost (R489). -/
def Dev.poisonTail (s : Dev) (k p n : Nat) : Dev :=
  let lo := memKey k p 0
  let gone := s.poisonFrom k p n
  let s := { s with mem := { s.mem with
    poison := s.mem.poison.filter fun w => !(decide (lo / 32 + n ≤ w) && decide (w < lo / 32 + 2 ^ 26))
    flags := s.mem.flags.filter fun e => !(decide (lo / 16 + 2 * n ≤ e.1) && decide (e.1 < lo / 16 + 2 ^ 27)) } }
  s.modChan k p fun c => { c with lost := some (c.lost.elim n (min n)), ue := sat16 c.ue (chanWords - n - gone) }

/-- R345: every word of a channel. -/
def Dev.poisonChan (s : Dev) (k p : Nat) : Dev := s.poisonTail k p 0

/-- R344: the logical channel switches to the standby. DESIGN CHOICE (log entry 53): STANDBY of R127 then reads the index of the
physical channel that was replaced. -/
def Dev.toStandby (s : Dev) (k p : Nat) : Dev :=
  let old := s.physOf k p
  let b := s.stk k
  let s := s.modStk k fun b =>
    { b with standby := old, standbyFree := false, migrating := none, migStart := if b.migStart = some p then none else b.migStart }
  let s := s.modChan k p fun c => { c with phys := if b.standby = p then none else some b.standby, st := .active, retrainFails := 0, wdogAt := none, deferred := false }
  s.repaired E_MEM_MIGRATE_DONE (32 * k + p)

/-- R343, R345: a channel that dies during its migration takes the standby at once. The words already copied keep their data,
the others are poisoned; the copy runs upward from word 0 (log entry 9). -/
def Dev.dieMigrating (s : Dev) (k p : Nat) : Dev := (s.poisonTail k p ((s.stk k).migrating.elim 0 (·.2))).toStandby k p

/-- R345: a channel dies. -/
def Dev.killChan (s : Dev) (k p : Nat) : Dev :=
  let c := s.chan k p
  if c.st = .dead then s
  else if c.st = .migrating then s.dieMigrating k p
  else
    let was := s.chanActive k p
    let s := (s.poisonChan k p).modChan k p fun c => { c with st := .dead, deferred := false }
    let s := s.when was (·.capLoss)
    (s.unitLost E_MEM_CHAN_DEAD (32 * k + p)).testDropAbsent

/-- R357: START clears where the migration that it asked for does not begin. -/
def Dev.startEnds (s : Dev) (k p : Nat) : Dev :=
  s.modStk k fun b => { b with migStart := if b.migStart = some p then none else b.migStart }

/-- R343: a millisecond of the copy: never less than 25 % of the channel's 76.8 GB/s (R340), 600,000 words. -/
def Dev.copyRound (s : Dev) (k : Nat) : Dev :=
  (s.modStk k fun b => { b with migrating := b.migrating.map fun m => (m.1, min migWords (m.2 + 600000 + Config.copyRate s.free)) }).draw

/-- R342: a migration begins, where the stack's standby is free. One of the same channel goes on. -/
def Dev.migrate (s : Dev) (k p : Nat) : Dev :=
  let b := s.stk k
  if b.migrating.any (·.1 == p) then s
  else if !b.standbyFree || b.migrating.isSome then (s.logE E_MEM_MIGRATE_FAIL (32 * k + p)).startEnds k p
  else if (s.chan k p).st = .dead then s.startEnds k p
  else
    let s := s.modStk k fun b => { b with migrating := some (p, 0) }
    (s.modChan k p fun c => { c with st := .migrating }).logE E_MEM_MIGRATE_START (32 * k + p)

end Sys2Proof.Machine
end

