-- ==== Sys2Proof/Machine/CoreReset.lean ====
section
/-! DEFINITION. Stopping and restarting a core (R184, R186, R591, R595), and the loss of units (R31, R58, R131, R607). -/

namespace Sys2Proof.Machine

/-- R184 step 1: the threads of a core are HELD. -/
def Thread.hold (t : Thread) : Thread :=
  { t with st := .held, stash := none, wait := .none, awaiting := [], blocked := [], jumpFrom := none }

/-- R184 step 1: the core is held. A collective on it is aborted (R186), tests of the core and its arrays stop (R92), a
reload of its partition ends (R138). -/
def Dev.coreHold (s : Dev) (c : Nat) : Dev :=
  let s := s.resetTests fun kind unit => (kind == 1 && unit == c) || (kind == 2 && unit / 2 == c)
  let s := s.fold (List.range 16) fun s t =>
    match (s.thr ⟨c, t⟩).legOf with
    | some q => if ((s.group q).bind (·.raised)).isNone then s.raiseGroup q E_CORE_RESET else s
    | none => s
  (s.reloadHit c).modCore c fun k =>
    { k with resetting := true, threads := (List.range 16).map fun t => (t, (look {} k.threads t).hold) }

/-- R184 step 3: every port entry is orphaned, arrays are reset. -/
def Dev.coreHalt (s : Dev) (c : Nat) : Dev :=
  let s := s.modCore c fun k =>
    { k with port := k.port.map fun (e : Nat × Option PEntry) => (e.1, e.2.map fun p => { p with orphan := true }) }
  (s.arrayReset c 0).arrayReset c 1

/-- R184 steps 1 and 3 together, as other domains use them. -/
def Dev.coreStop (s : Dev) (c : Nat) : Dev := (s.coreHold c).coreHalt c

/-- R184 steps 4 and 5, R284: registers, drain banks and CYCLE zeroed, the instruction cache invalidated, epochs advanced; work items
complete with `E_CORE_RESET`; the threads are EMPTY. -/
def Dev.coreFinish (s : Dev) (c : Nat) : Dev :=
  let s := s.fold (List.range 16) fun s t => s.endItem ⟨c, t⟩ E_CORE_RESET false
  s.modCore c fun k =>
    { k with
      resetting := false
      thrReset := 0
      icache := []
      threads := (List.range 16).map fun t => (t, { epoch := (look {} k.threads t).epoch + 1 })
      a0 := { k.a0 with bank := [], eccSoft := [], eccBad := [], unread := [] }
      a1 := { k.a1 with bank := [], eccSoft := [], eccBad := [], unread := [] }
      cycle := 0 }

/-- The arrays of a core have left their reset. -/
def Dev.arraysBack (s : Dev) (c : Nat) : Bool := (s.arr c 0).st != .reset && (s.arr c 1).st != .reset

/-- R584, R587: a core reset begins: a capture, and an event to the owner unless software asked for it (R607). -/
def Dev.beginCore (s : Dev) (c : Nat) (cause : Code) : Dev :=
  if s.coreBusy c || !s.coreUsable c then s
  else
    let s := s.lastReset 2 c cause
    let s := s.modCore c fun k => { k with resetCount := sat8 k.resetCount, resetCause := cause }
    let s := s.when (cause != E_OK) fun s => s.eventTo (s.partOfCore c) 10 cause c
    ((s.coreHold c).capture 2 c cause).coreHalt c

/-! ### Losses (R130, R131) -/

/-- Clear a bit. -/
def clearBit {w : Nat} (m : BitVec w) (i : Nat) : BitVec w := m &&& ~~~(BitVec.ofNat w (2 ^ i))
def setBit {w : Nat} (m : BitVec w) (i : Nat) : BitVec w := m ||| BitVec.ofNat w (2 ^ i)

/-- A core is lost: it and its arrays read absent; work on it ends. -/
def Dev.loseCore (s : Dev) (c : Nat) : Dev :=
  let s := { s with boot := { s.boot with coresLost := setBit s.boot.coresLost c } }
  if !s.img.capsValid || !s.coreUsable c then s
  else
    let n := 1 + bit (s.arrUsable c 0) + bit (s.arrUsable c 1)
    let s := ((s.coreStop c).coreFinish c).modCore c fun k => { k with resetting := false }
    let s := { s with img := { s.img with
      coresUsable := clearBit s.img.coresUsable c
      arraysUsable := clearBit (clearBit s.img.arraysUsable (2 * c)) (2 * c + 1) } }
    (s.capLoss n).testDropAbsent

/-- A stack is lost: its channels are dead (R345). -/
def Dev.loseStack (s : Dev) (k : Nat) : Dev :=
  let s := { s with boot := { s.boot with stacksLost := setBit s.boot.stacksLost k } }
  let s := s.capsuleLoss k
  if !s.img.capsValid || !s.stackUsable k then s
  else
    let was := ((List.range 31).filter (s.chanActive k ·)).length
    let s := s.fold (List.range 31) fun s p =>
      if (s.chan k p).st = .dead then s else (s.poisonChan k p).modChan k p fun c => { c with st := .dead, deferred := false }
    let s := s.modStk k fun b => { b with migrating := none, migStart := none }
    let s := { s with img := { s.img with stacksUsable := clearBit s.img.stacksUsable k } }
    (s.capLoss (1 + was)).testDropAbsent

/-- An engine is lost. -/
def Dev.loseEng (s : Dev) (e : Nat) : Dev :=
  let s := { s with boot := { s.boot with engsLost := setBit s.boot.engsLost e } }
  if !s.img.capsValid || !s.engUsable e then s
  else
    let s := { s with img := { s.img with engUsable := clearBit s.img.engUsable e } }
    let s := s.when ((enginesOf (portOfEng e)).all fun g => s.boot.engsLost.getLsbD g) fun s =>
      s.modFport (portOfEng e) fun p => { p with st := .absent }
    (s.capLoss).testDropAbsent

/-- R31, R58: a compute die is isolated: its cores, arrays, stacks and channels read absent. -/
def Dev.isolateDie (s : Dev) (n : Nat) : Dev :=
  if s.boot.isolated.getLsbD n then s
  else
    let s := { s with boot := { s.boot with isolated := setBit s.boot.isolated n, released := clearBit s.boot.released n } }
    let s := s.fold (span (8 * n) 8) fun s c => s.loseCore c
    let s := s.fold (span (8 * n) 8) fun s k => s.loseStack k
    s.unitLost E_D2D_DIE_ISOLATED n

end Sys2Proof.Machine
end

