-- ==== Sys2Proof/Machine/Links.lean ====
section
/-! DEFINITION. Die-to-die links: use masks, training, widths, retrains, agreement (R25–R48, R53, R54). -/

namespace Sys2Proof.Machine

/-! ### Masks (R26, R29) -/

/-- R29: the 64 lowest lanes not excluded, where there are 64. -/
def chooseMask (bad : BitVec 68) : Option (BitVec 68) :=
  let l := ((List.range 68).filter fun i => !bad.getLsbD i).take 64
  if l.length = 64 then some (l.foldl setBit 0) else none

/-- R26: the physical lane that carries logical lane `i`: the one that holds the i-th set bit of the use mask, counted from
bit 0. -/
def laneOf (mask : BitVec 68) (i : Nat) : Option Nat := ((List.range 68).filter (mask.getLsbD ·))[i]?

/-- R28: the lanes that do not pass: a wrong continuity pattern, or a bit error in step 2 or at any offset of step 3. -/
def failedLanes (t : LaneTest) : BitVec 68 := t.cont ||| t.prbs ||| t.early ||| t.late ||| t.high ||| t.low

/-- R28: the lanes of a bundle that a lane test fails. -/
def testFails (l : List LaneTest) (link dir b : Nat) : BitVec 68 :=
  l.foldl (fun m t => if t.link = link ∧ t.dir = dir ∧ t.bundle = b then m ||| failedLanes t else m) 0

/-- Lanes that the board record or the image excludes. -/
def Dev.recLanes (s : Dev) (l dir b : Nat) : BitVec 68 := laneMask ((s.rec?.map (·.lanes)).getD []) l dir b
def Dev.imgLanes (s : Dev) (l dir b : Nat) : BitVec 68 := laneMask ((s.img.loaded.map (·.repair.lanes)).getD []) l dir b

/-- The lanes that either end excludes since the start. -/
def Bundle.excl (u : Bundle) : BitVec 68 := u.exclA ||| u.exclB

/-- Both ends exclude lanes. -/
def Bundle.exclude (u : Bundle) (m : BitVec 68) : Bundle := { u with exclA := u.exclA ||| m, exclB := u.exclB ||| m }

/-- The lanes that one end of a link leaves out of a bundle: those of the record and the image, and its own. -/
def Dev.endBad (s : Dev) (second : Bool) (l dir b : Nat) : BitVec 68 :=
  s.recLanes l dir b ||| s.imgLanes l dir b ||| (if second then (s.bundle l dir b).exclB else (s.bundle l dir b).exclA)

/-- The lanes a bundle may not use: those of the record and the image, and those that either end excludes. -/
def Dev.badLanes (s : Dev) (l dir b : Nat) : BitVec 68 := s.recLanes l dir b ||| s.imgLanes l dir b ||| (s.bundle l dir b).excl

/-- The bundles of a link: direction and index. -/
def bundleIds (l : Nat) : List (Nat × Nat) := [0, 1].flatMap fun dir => (List.range (bundlesOf l)).map fun b => (dir, b)

/-- A bundle trains on a mask, or is disabled; its counters clear (R51). -/
def Bundle.train (u : Bundle) (m : Option (BitVec 68)) : Bundle :=
  { u with st := if m.isSome then .active else .disabled, mask := m.getD 0, errs := [], crcErr := 0, replay := 0 }

def Dev.trainBundle (s : Dev) (l dir b : Nat) : Dev :=
  s.modBundle l dir b fun u => u.train (chooseMask (s.badLanes l dir b))

def Dev.trainLink (s : Dev) (l : Nat) : Dev := s.fold (bundleIds l) fun s e => s.trainBundle l e.1 e.2

/-! ### Width (R31) -/

def Dev.widthLow (s : Dev) (l : Nat) : Nat := min (s.width l 0) (s.width l 1)

/-- R31: what the width of a link does. A CD–CD link without width is down; the others lose their unit. DESIGN CHOICE (log
entry 54): `E_D2D_BUNDLE_OFF` is logged each time the width of a link is taken and found below full; the manual does not say
how often. -/
def Dev.widthEffect (s : Dev) (l : Nat) : Dev :=
  if s.widthLow l = 0 then
    if l < 4 then if (s.link l).down then s else (s.modLink l fun k => { k with down := true }).logE E_D2D_LINK_REROUTE l
    else if l < 8 then s.isolateDie (l - 4)
    else if l < 0x16 then
      if s.boot.engsLost.getLsbD (l - 8) then s else (s.loseEng (l - 8)).unitLost E_D2D_BUNDLE_OFF (l - 8)
    else if s.boot.stacksLost.getLsbD (l - 0x20) then s else (s.loseStack (l - 0x20)).unitLost E_D2D_BUNDLE_OFF (l - 0x20)
  else
    let s := s.modLink l fun k => { k with down := false }
    if s.widthLow l < bundlesOf l then s.logE E_D2D_BUNDLE_OFF l else s

/-- The unit number of a lane in an in-field repair: direction, bundle, lane. -/
def laneWord (dir b lane : Nat) : Word := at_ 0 lane ||| at_ 8 b ||| at_ 16 dir

/-! ### Both directions of a link -/

/-- Receiver and replay buffer of a direction. -/
def DLink.rx (k : DLink) (dir : Nat) : Rx := if dir = 0 then k.rx0 else k.rx1
def DLink.tx (k : DLink) (dir : Nat) : SMap (BitVec 1024) := if dir = 0 then k.tx0 else k.tx1
def DLink.spent (k : DLink) (dir : Nat) : Nat := if dir = 0 then k.spent0 else k.spent1
def DLink.credHeld (k : DLink) (dir : Nat) : Bool := if dir = 0 then k.held0 else k.held1
def DLink.setRx (k : DLink) (dir : Nat) (v : Rx) : DLink := if dir = 0 then { k with rx0 := v } else { k with rx1 := v }
def DLink.setTx (k : DLink) (dir : Nat) (v : SMap (BitVec 1024)) : DLink := if dir = 0 then { k with tx0 := v } else { k with tx1 := v }
def DLink.setSpent (k : DLink) (dir n : Nat) : DLink := if dir = 0 then { k with spent0 := n } else { k with spent1 := n }
def DLink.hold (k : DLink) (dir : Nat) (b : Bool) : DLink := if dir = 0 then { k with held0 := b } else { k with held1 := b }

/-- R426: the credit quota of a D2D link and direction; the manual gives none (log entry 52). -/
def d2dQuota (l dir : Nat) : Nat := Config.d2dQuota l dir + 1

/-! ### In service (R25, R33–R37, R47) -/

/-- A flit that has left its sender is in the replay buffer (R25), and has taken a credit (R426). -/
def DLink.sendFlit (k : DLink) (dir seq : Nat) (flit : BitVec 1024) : DLink :=
  (k.setTx dir (insert (k.tx dir) seq flit)).setSpent dir (k.spent dir + 1)

/-- R33: a flit in flight on a bundle that stops is lost there, and asked for again. -/
def Dev.loseFlit (s : Dev) (l dir : Nat) (e : Nat × BitVec 1024) : Dev :=
  let k := s.link l
  if e.1 < (k.rx dir).next || (k.rx dir).held.any (·.1 == e.1) then s
  else
    let s := if (k.tx dir).any (·.1 == e.1) then s else s.modLink l fun k => k.sendFlit dir e.1 e.2
    (s.modLink l fun k => k.setRx dir { k.rx dir with nakked := addNew (k.rx dir).nakked e.1 }).out (.replay (.d2d l) dir e.1)

/-- R33, R34: a lane is swapped for the lowest unused lane that is not excluded, or the bundle is disabled. The receiver of
the bundle's direction returns its credits once the replay buffer is empty (R37). -/
def Dev.swapLane (s : Dev) (l dir b lane : Nat) : Dev :=
  let u := s.bundle l dir b
  let bad := setBit (s.badLanes l dir b) lane
  let s := (s.modBundle l dir b fun u => { (u.exclude (setBit 0 lane)) with errs := [] }).modLink l (·.hold dir true)
  match (List.range 68).find? fun i => !u.mask.getLsbD i && !bad.getLsbD i with
  | some i =>
    let s := s.modBundle l dir b fun u => { u with st := .swapping, mask := setBit (clearBit u.mask lane) i }
    s.repaired E_D2D_LANE_NEW l (laneWord dir b lane)
  | none =>
    let s := s.modBundle l dir b fun u => { u with st := .disabled, mask := 0 }
    (s.repaired E_D2D_BUNDLE_OFF l (laneWord dir b lane)).widthEffect l

/-! ### Retrains (R37, R43–R48, R53, R54) -/

/-- The compute dies at the ends of a link: first and second named unit. -/
def linkDies (l : Nat) : Option Nat × Option Nat :=
  if l < 4 then (some l, some ((l + 1) % 4)) else if l < 8 then (some (l - 4), none)
  else if l < 0x16 then (none, none) else (some ((l - 0x20) / 8), none)

/-- R43, R591, R593: the first, the second end of the link is in reset. -/
def Dev.firstInReset (s : Dev) (l : Nat) : Bool := (linkDies l).1.elim false (s.inReset 3 ·)
def Dev.secondInReset (s : Dev) (l : Nat) : Bool :=
  (linkDies l).2.elim false (s.inReset 3 ·) || (decide (0x20 ≤ l) && (s.stk (l - 0x20)).inReset)

/-- A compute die at an end of the link is in reset. -/
def Dev.endInReset (s : Dev) (l : Nat) : Bool :=
  ((linkDies l).1.elim false (s.inReset 3 ·)) || ((linkDies l).2.elim false (s.inReset 3 ·))

/-- A retrain of a link begins: the shortened lane test on all its bundles. Its test, if any, stops (R92). With `fresh` the
lanes excluded in service are cleared (R53); an end in reset starts again from the record and the image (R43). Credits wait
for the replay buffers (R37). -/
def Dev.startRetrain (s : Dev) (l : Nat) (fresh : Bool) : Dev :=
  let s := s.resetTests fun kind unit => kind == 4 && unit == l
  let s := s.modLink l fun k => { k with st := .testing, repA := [], repB := [], published := [], held0 := true, held1 := true }
  let a := fresh || s.firstInReset l
  let b := fresh || s.secondInReset l
  s.fold (bundleIds l) fun s e => s.modBundle l e.1 e.2 fun u =>
    { u with st := .training, exclA := if a then 0 else u.exclA, exclB := if b then 0 else u.exclB, errs := [] }

/-- R53, R54: a retrain asked for through `HUB.D2D_CTRL`. -/
def Dev.retrainReq (s : Dev) (l : Nat) : Dev :=
  if s.d2dBusy then s.logE E_D2D_BUSY l
  else if !s.linkFitted l then s
  else
    let s := { s with d2d := { s.d2d with retrainFor := addNew s.d2d.retrainFor l } }
    if s.endInReset l then s.modLink l fun k => { k with st := .deferred } else s.startRetrain l true

/-- The mask an end reports for a bundle; none where it is not active. -/
def reportAt (r : LinkReport) (dir b : Nat) : Option (BitVec 68) := (r.find? (·.1 == 32 * dir + b)).map (·.2)

/-- R44: the ends agree. -/
def agree (l : Nat) (a b : LinkReport) : Bool := (bundleIds l).all fun e => reportAt a e.1 e.2 == reportAt b e.1 e.2

/-- R43: what the shortened lane test finds: both ends leave out the lanes that fail it. -/
def Dev.testedLanes (s : Dev) (l : Nat) (tests : List LaneTest) : Dev :=
  s.fold (bundleIds l) fun s e => s.modBundle l e.1 e.2 (·.exclude (testFails tests l e.1 e.2))

/-- R29, R44: what one end reports after its lane test: the bundles that keep 64 lanes, on the mask it chooses, less those that
did not come up. -/
def Dev.endReport (s : Dev) (second : Bool) (l : Nat) (down : List Nat) : LinkReport :=
  (bundleIds l).filterMap fun e =>
    if down.contains (32 * e.1 + e.2) then none else (chooseMask (s.endBad second l e.1 e.2)).map fun m => (32 * e.1 + e.2, m)

/-- R45: both ends leave out the lanes that either excludes. -/
def Dev.mergeExcl (s : Dev) (l : Nat) : Dev := s.fold (bundleIds l) fun s e => s.modBundle l e.1 e.2 fun u => u.exclude u.excl

/-- R45: the mask that remains. A bundle that an end does not report stays disabled: the width never rises above the lower of
the two. -/
def Dev.merged (s : Dev) (l dir b : Nat) (ra rb : LinkReport) : Option (BitVec 68) :=
  if (reportAt ra dir b).isSome && (reportAt rb dir b).isSome then chooseMask (s.badLanes l dir b) else none

/-- R45: the published map. -/
def Dev.publish (s : Dev) (l : Nat) (ra rb : LinkReport) : LinkReport :=
  (bundleIds l).filterMap fun e => (s.merged l e.1 e.2 ra rb).map fun m => (32 * e.1 + e.2, m)

/-- R45, R59: publish a map to both ends, which train on it. -/
def Dev.setPublished (s : Dev) (l : Nat) (m : LinkReport) : Dev :=
  let s := s.modLink l fun k => { k with published := m }
  s.fold (bundleIds l) fun s e => s.modBundle l e.1 e.2 fun u =>
    { u with st := if (reportAt m e.1 e.2).isSome then .training else .disabled, mask := (reportAt m e.1 e.2).getD 0 }

/-- R44, R59: the ends agree: the hub publishes the map, and the link runs on it. Its RETRAIN is done (R53). -/
def Dev.agreed (s : Dev) (l : Nat) (a : LinkReport) : Dev :=
  let s := s.setPublished l a
  let s := s.fold (bundleIds l) fun s e => s.modBundle l e.1 e.2 (·.train (reportAt (s.link l).published e.1 e.2))
  let s := s.modLink l fun k => { k with st := .running, escalated := false, repA := [], repB := [] }
  ({ s with d2d := { s.d2d with retrainFor := s.d2d.retrainFor.filter (· ≠ l) } } : Dev).widthEffect l

/-- R44, R45: the reports of the two ends differ. At most three renegotiations follow (R46). -/
def Dev.disagree (s : Dev) (l : Nat) (a b : LinkReport) : Dev :=
  let n := match (s.link l).st with
    | .agreeing n => n
    | _ => 0
  let s := (s.modLink l fun k => { k with repA := a, repB := b }).logE E_D2D_WIDTH_MISMATCH l
  if 3 ≤ n then s
  else
    let s := s.mergeExcl l
    (s.modLink l fun k => { k with st := .agreeing (n + 1) }).setPublished l (s.publish l a b)

/-- R43–R45: the reports of the two ends: after the lane test each has chosen its masks; in a renegotiation each loads the
published map. A bundle that did not come up at an end is not in its report. -/
def Dev.endReports (s : Dev) (l : Nat) (tests : List LaneTest) (downA downB : List Nat) : Dev × LinkReport × LinkReport :=
  match (s.link l).st with
  | .agreeing _ =>
    let up := fun (down : List Nat) => (s.link l).published.filter fun e => !down.contains e.1
    (s, up downA, up downB)
  | _ =>
    let s := s.testedLanes l tests
    (s, s.endReport false l downA, s.endReport true l downB)

/-- R47: a lane swap or bundle disable during a renegotiation restarts it. -/
def Dev.restartAgree (s : Dev) (l : Nat) : Dev :=
  match (s.link l).st with
  | .agreeing n =>
    if n < 3 then
      (s.modLink l fun k => { k with st := .agreeing (n + 1) }).setPublished l (s.publish l (s.link l).repA (s.link l).repB)
    else s
  | _ => s

end Sys2Proof.Machine
end

