-- ==== Sys2Proof/Machine/PortOps.lean ====
section
/-! DEFINITION. Ports, engines and express circuits: circuits that break (R414, R416), detuning (R384, R409), IDENT and the
comparison with the plan (R379–R386), link faults, withdrawal, link resets (R387–R389). -/

namespace Sys2Proof.Machine

/-! ### Circuits (R407, R414–R417) -/

/-- R414, R432: a circuit breaks, once: it is logged, and the launching hub resends what the far end has not acknowledged
on the fallback path (R416). -/
def Dev.breakCkt (s : Dev) (n : Nat) (cause : Code) : Dev :=
  let c := s.ckt n
  if c.st = .notInPlan ∨ c.st = .broken then s
  else
    let first := (c.unacked.head?.map (·.1)).getD c.seq
    let s := s.modCkt n fun k => { k with st := .broken, breaks := sat16 k.breaks, cause, seq := first, unacked := [] }
    let s := (s.logE E_FAB_CKT_BREAK n).fullQuota (.circuit n)
    s.fold c.unacked fun s e => s.send e.2

/-- Break the circuits that have a fibre for which `f` holds (engine, pair, direction). -/
def Dev.breakWhere (s : Dev) (f : Nat × Nat × Nat → Bool) (cause : Code) : Dev :=
  s.fold ((List.range 16).filter fun n => (s.cktFibres n).any f) fun s n => s.breakCkt n cause

/-- R407: the circuits that pass this device in one dimension: launching and far device, level 2, direction −. -/
def Dev.carried (s : Dev) (y : Bool) : List (Nat × Nat × Bool × Bool) :=
  let pl := s.plan y
  let me := coords s.devNum
  let c := if y then me.2 else me.1
  let dev := fun (k : Nat) => if y then me.1 + 128 * k else k + 128 * me.2
  [false, true].flatMap fun lvl2 => [false, true].flatMap fun minus =>
    let len := if lvl2 then 32 else 8
    if (if lvl2 then pl.2.2 else pl.2.1) then
      ((span 1 (len - 1)).map fun k => if minus then (c + k) % pl.1 else (c + pl.1 * len - k) % pl.1).filterMap fun l =>
        if lvl2 && l % 4 != 0 then none
        else some (dev l, dev (if minus then (l + pl.1 * len - len) % pl.1 else (l + len) % pl.1), lvl2, minus)
    else []

/-- R414: BREAK toward both ends of every circuit that the device carries in a dimension. -/
def Dev.sendBreaks (s : Dev) (y : Bool) : Dev :=
  s.fold (s.carried y) fun s c => s.out (.breakCarried c.1 c.2.1 c.2.2.1 c.2.2.2 y)

/-- R414: a device about to stop passing light in a dimension: BREAK is sent; DETUNE follows. -/
def Dev.breakAll (s : Dev) (y : Bool) : Dev :=
  let s := s.sendBreaks y
  { s with fab := { s.fab with detuning := true } }

/-- R384, R391, R409, R595: an engine stops passing light. -/
def Dev.mustDetune (s : Dev) (e : Nat) : Bool :=
  (s.fport (portOfEng e)).st == .quarantined || (s.eng e).fenced || decide (4 ≤ s.rcv.phase) || s.inReset 6 0

/-! ### Engines and training (R370, R378, R387) -/

/-- The engine's transceivers can train. A halted start trains none (R67). -/
def Dev.canTrain (s : Dev) (e : Nat) : Bool :=
  let g := s.eng e
  s.engFitted e && !s.boot.engsLost.getLsbD e && !g.fenced && g.calibrated && !g.inReset && !g.txOff && !s.boot.halted

/-- A fibre pair begins to train; a pair whose own light is lost does not (R393). Its IDENT is exchanged anew (R378). -/
def Fibre.train (f : Fibre) : Fibre := { f with up := false, training := !f.txLost, silent := false, ident := none }

/-- R378: the fibre pairs of an engine train. -/
def Dev.trainEng (s : Dev) (e : Nat) : Dev :=
  if !s.canTrain e then s
  else
    let s := s.modEng e fun g => { g with withdrawn := false, linkFault := false, window := false }
    s.fold (List.range 8) fun s f => s.modFib e f Fibre.train

/-- R378, R385: all engines of a port train, which is a discovery; a quarantined port makes one only under R385. -/
def Dev.trainPort (s : Dev) (p : Nat) : Dev :=
  (s.modFport p fun t => { t with discover := t.discover || t.st != .quarantined }).fold (enginesOf p) fun s e => s.trainEng e

/-- Fibre pairs of a port: (engine, pair). -/
def portPairs (p : Nat) : List (Nat × Nat) := (enginesOf p).flatMap fun e => (List.range 8).map fun f => (e, f)

/-- A pair of the port still trains. -/
def Dev.portTraining (s : Dev) (p : Nat) : Bool := (portPairs p).any fun e => (s.fib e.1 e.2).training

/-- R397: RETRAIN, and RESTORE, clear when training ends. -/
def Dev.trainEnd (s : Dev) (p : Nat) : Dev :=
  if s.portTraining p then s else s.modFport p fun t => { t with retrainBit := false, restoreBit := false }

/-! ### The replay buffer of a port (R365) -/

/-- R365: the flits that the neighbour has not acknowledged are replayed on the engines that remain; without one they stay in
the replay buffer. -/
def Dev.replayPort (s : Dev) (p : Nat) : Dev :=
  if (s.fport p).unacked.isEmpty || !((enginesOf p).any (s.engSends ·)) then s
  else (s.countPort p 0x62 ((s.fport p).unacked.map flits).sum).fold (s.fport p).unacked fun s k => s.out (.resent p k)

/-! ### IDENT (R379, R380) -/

def Dev.ownSerial (s : Dev) : BitVec 64 := (s.rec?.map (·.serial)).getD 0

/-- R379: the IDENT of a fibre pair. -/
def Dev.identOf (s : Dev) (e f : Nat) : Ident :=
  { serial := s.ownSerial, port := portOfEng e, eng := engPos e, fib := f, dev := s.devNum, devValid := s.img.loaded.isSome,
    domain := s.domNum, plan := (s.img.loaded.map (·.fabric.plan)).getD 0, ver := Config.linkVer, verMin := Config.linkVerMin }

/-- R379: IDENT on every pair of a port. -/
def Dev.sendIdents (s : Dev) (p : Nat) : Dev :=
  s.fold ((portPairs p).filter fun e => s.canTrain e.1 && !(s.fib e.1 e.2).txLost) fun s e =>
    s.out (.ident p e.1 e.2 (s.identOf e.1 e.2))

/-- R380: the version two ends run at. -/
def versionOf (m : Ident) : Option (BitVec 8) :=
  let v := min Config.linkVer.toNat m.ver.toNat
  if max Config.linkVerMin.toNat m.verMin.toNat ≤ v then some (BitVec.ofNat 8 v) else none

/-! ### The comparison with the plan (R381–R386) -/

def Dev.portPlan (s : Dev) (p : Nat) : Option PortPlan := s.img.loaded.bind fun i => i.fabric.ports[p]?

/-- R386: the serial expected on a port: that of the plan, or the one PORT_EXPECT set; zero for any. -/
def Dev.expSerial (s : Dev) (p : Nat) : BitVec 64 := (s.fport p).expectNow.getD (((s.portPlan p).map (·.serial)).getD 0)

/-- R381, R382, R429: the port expects no neighbour. -/
def Dev.portUnused (s : Dev) (p : Nat) : Bool :=
  ((s.portPlan p).map (·.unused)).getD true || (decide (4 ≤ p) && !((s.img.loaded.map (·.fabric.waystation)).getD false))

/-- The serial of an IDENT is expected on a port by name. -/
def Dev.serialOn (s : Dev) (p : Nat) (m : Ident) : Bool := !s.portUnused p && s.expSerial p != 0 && s.expSerial p == m.serial
def Dev.devOn (s : Dev) (p : Nat) (m : Ident) : Bool :=
  !s.portUnused p && m.devValid && ((s.portPlan p).map (·.dev)).getD 0 == m.dev

/-- R381: row 4's first clause does not apply to the ports of a dimension of size 2. -/
def Dev.ringOfTwo (s : Dev) (p : Nat) : Bool := decide (p < 4) && decide ((s.plan (decide (2 ≤ p))).1 = 2)

/-- R381: the device matches the port's expectation. -/
def Dev.matchesPort (s : Dev) (p : Nat) (m : Ident) : Bool :=
  (s.expSerial p == 0 || s.expSerial p == m.serial) && (!m.devValid || s.devOn p m)

/-- R381 row 4. -/
def Dev.swapped (s : Dev) (p : Nat) (m : Ident) : Bool :=
  let others := (List.range 6).filter (· ≠ p)
  (!s.ringOfTwo p && (others.any (s.serialOn · m) && !(s.serialOn p m) || others.any (s.devOn · m) && !(s.devOn p m))) ||
    (s.matchesPort p m && m.port != ((s.portPlan p).map (·.port)).getD 0)

/-- R429, R430: the domain that a trunk port of this device leads to. -/
def Dev.trunkDomain (s : Dev) (p : Nat) : Option Nat :=
  ((s.img.loaded.map (·.fabric.trunks)).getD []).findIdx? fun t => t.via.isNone && t.pairs.any fun e => e.1 == s.devNum && trunkPort e.2 == p

/-- R381, R429: the row of the comparison that applies to an IDENT of a port; none: up. -/
def Dev.verdict (s : Dev) (p : Nat) (m : Ident) : Option Code :=
  let heard := (portPairs p).filterMap fun e => (s.fib e.1 e.2).ident.map fun i => (e, i)
  if m.serial == s.ownSerial then some E_PORT_LOOPBACK
  else if s.portUnused p then some E_PORT_EXTRA
  else if heard.any fun h => h.2.serial != m.serial || h.2.eng != engPos h.1.1 || h.2.fib != h.1.2 then some E_PORT_SWAPPED
  else if s.swapped p m then some E_PORT_SWAPPED
  else if (s.expSerial p != 0 && s.expSerial p != m.serial) || (m.devValid && !(s.devOn p m)) ||
      m.plan != (s.img.loaded.map (·.fabric.plan)).getD 0 ||
      (decide (4 ≤ p) && m.devValid && s.trunkDomain p != some m.domain) then some E_PORT_FOREIGN
  else none

/-- R384, R607: a port is quarantined: no flit passes, its rings are to be detuned, circuits through it end. -/
def Dev.quarantine (s : Dev) (p : Nat) (code : Code) : Dev :=
  let t := s.fport p
  if t.st = .quarantined ∧ t.cause = code then s.modFport p fun t => { t with rediscoverBit := false }
  else
    let s := s.modFport p fun t => { t with st := .quarantined, cause := code, rediscoverBit := false }
    let s := s.logE code p
    let s := s.eventAll 8 code p (s.portStat p) ((t.nbr.map (·.serial)).getD 0)
    let s := s.when (decide (p < 4)) fun s => s.breakAll (decide (2 ≤ p))
    s.breakWhere (fun f => portOfEng f.1 == p) code

/-- R409: the engines of a port pass light, from the moment the FABRIC section is applied. -/
def Dev.passLight (s : Dev) (p : Nat) : Dev :=
  if s.img.loaded.isNone ∨ 4 ≤ p then s
  else s.fold (enginesOf p) fun s e =>
    s.modEng e fun g => if g.fenced || !g.calibrated then g else { g with detuned := false, passing := true }

/-- R381: the port comes up. -/
def Dev.portUp (s : Dev) (p : Nat) : Dev :=
  (s.modFport p fun t => { t with st := .up, rediscoverBit := false }).passLight p

/-- R386: an expected serial set by PORT_EXPECT takes effect at the port's next discovery. -/
def FPort.adopt (t : FPort) : FPort :=
  if t.discover then { t with expectNow := if t.expect.isSome then t.expect else t.expectNow, expect := none } else t

/-- R381, R393: compare a port with the plan, once its version is agreed and the device's own image has loaded. -/
def Dev.comparePort (s : Dev) (p : Nat) : Dev :=
  match (s.fport p).nbr with
  | none => s
  | some m =>
    if s.img.loaded.isNone then s.modFport p fun t => { t with st := .identified }
    else
      let s := s.modFport p fun t => { t.adopt with discover := false, early := !m.devValid }
      match s.verdict p m with
      | some c => s.quarantine p c
      | none => s.portUp p

/-- R383, R385: a quarantined port is compared again at its discovery, or, where it was first compared before its neighbour's
image had loaded, by an IDENT with DEV_VALID set. -/
def FPort.compares (t : FPort) (m : Ident) : Bool := t.st != .quarantined || t.discover || (t.early && m.devValid)

/-- R379–R383: an IDENT arrives on a fibre pair. -/
def Dev.heard (s : Dev) (e f : Nat) (m : Ident) : Dev :=
  let p := portOfEng e
  let s := (s.modFib e f fun b => { b with ident := some m }).modFport p fun t => { t with nbr := some m }
  match versionOf m with
  | none =>
    if (s.fport p).st = .mismatch then s.modFport p fun t => { t with rediscoverBit := false }
    else (s.modFport p fun t => { t with st := .mismatch, cause := E_PORT_VERSION, version := 0, rediscoverBit := false }).logE E_PORT_VERSION p
  | some v => if (s.fport p).compares m then (s.modFport p fun t => { t with version := v }).comparePort p else s

/-! ### Link faults and withdrawal (R387–R389) -/

/-- The engines of a port that are in service. -/
def Dev.portEngs (s : Dev) (p : Nat) : List Nat :=
  (enginesOf p).filter fun e => s.engFitted e && !s.boot.engsLost.getLsbD e && !(s.eng e).fenced

/-- R387, R393, R607: every engine of the port has a link fault. A port in MISMATCH stays there (R380). -/
def Dev.portFault (s : Dev) (p : Nat) : Dev :=
  let t := s.fport p
  if (s.portEngs p).isEmpty || !((s.portEngs p).all fun e => (s.eng e).linkFault) || t.st == .quarantined || t.st == .linkFault ||
      t.st == .withdrawn || t.st == .unused || t.st == .mismatch then s
  else
    let s := (s.modFport p fun t => { t with st := .linkFault, cause := E_PORT_LINK_FAULT }).logE E_PORT_LINK_FAULT p
    s.eventAll 8 E_PORT_LINK_FAULT p (s.portStat p)

/-- R388, R389, R607: every engine of the port is withdrawn. A port in MISMATCH stays there (R380). -/
def Dev.portWithdrawn (s : Dev) (p : Nat) : Dev :=
  if (s.portEngs p).isEmpty || !((s.portEngs p).all fun e => (s.eng e).withdrawn) || (s.fport p).st == .withdrawn || (s.fport p).st == .mismatch then s
  else
    let s := s.modFport p fun t => { t with st := .withdrawn }
    s.eventAll 8 E_OK p (s.portStat p)

/-- R397: the device withdraws a port of its own and holds it so. -/
def Dev.withdrawOwn (s : Dev) (p : Nat) : Dev :=
  let s := s.out (.withdraw p 7)
  let s := s.fold (enginesOf p) fun s e =>
    s.fold (List.range 8) (fun s f => s.modFib e f fun b => { b with up := false, training := false }) |>.modEng e fun g =>
      { g with withdrawn := true, window := false }
  s.modFport p fun t => { t with st := if t.st = .absent then .absent else .withdrawn }

/-- R389, R391: WITHDRAW on every port that is up. -/
def Dev.withdrawUp (s : Dev) : Dev :=
  s.fold ((List.range 6).filter fun p => (s.fport p).st == .up) fun s p => s.withdrawOwn p

/-! ### Link resets (R388, R587) -/

/-- R607: a kind 10 event to every defined partition. -/
def Dev.eventReset (s : Dev) (code : Code) (unit : Nat) : Dev := s.eventAll 10 code unit

/-- R388: a link reset of an engine begins: WITHDRAW on its siblings, a capture, the engine re-initialised with its rings
held; circuits launched or ended on it break (R432); its flits in flight are replayed (R365). -/
def Dev.beginLink (s : Dev) (e : Nat) (cause : Code) (byCtl : Bool) : Dev :=
  if s.inReset 5 e || s.inReset 6 0 || !s.engFitted e || s.boot.engsLost.getLsbD e then s
  else
    let p := portOfEng e
    let s := (s.lastReset 5 e cause).eventReset cause e
    let s := s.when (decide (e < 12)) fun s => s.out (.withdraw p (BitVec.ofNat 3 (2 ^ engPos e)))
    let s := s.resetTests fun kind unit => kind == 5 && unit / 8 == e
    let s := s.capture 5 e cause
    let s := { s with rcv := { s.rcv with active := s.rcv.active ++ [({ domain := 5, unit := e, cause, byCtl } : ActiveReset)] } }
    let s := s.fold (List.range 8) fun s f => s.modFib e f fun b => { b with up := false, training := false, silent := false }
    let s := s.modEng e fun g => { g with inReset := true, window := false, linkFault := false, cause }
    let s := s.zeroBank (bankEng e)
    let s := s.when ((s.fport p).st == .up && !((enginesOf p).any (s.engCarries ·))) fun s => s.modFport p fun t => { t with st := .training }
    (s.breakWhere (fun f => f.1 == e) cause).replayPort p

/-- R615: a reset leaves the list of those in progress; GO clears where it was started by it. -/
def Dev.endActive (s : Dev) (domain unit : Nat) : Dev :=
  let mine := s.rcv.active.filter fun r => r.domain == domain && r.unit == unit
  { s with rcv := { s.rcv with
      active := s.rcv.active.filter fun r => !(r.domain == domain && r.unit == unit)
      go := s.rcv.go && !(mine.any (·.byCtl)) } }

/-- R388: the engine is ready to train, whether or not a neighbour answers. -/
def Dev.finishLink (s : Dev) (e : Nat) : Dev :=
  ((s.endActive 5 e).modEng e fun g => { g with inReset := false }).trainEng e

end Sys2Proof.Machine
end

