-- ==== Sys2Proof/Machine/Issue.lean ====
section
/-! DEFINITION. Issuing a core instruction (R156–R163, R276–R278, R282, R288, R289, R313): fetch, field checks, address
checks. -/

namespace Sys2Proof.Machine

/-- R163: instructions may be fetched from here: HBM inside a set of the core's partition, the populated store of a core
of it. -/
def Dev.fetchOk (s : Dev) (c a : Nat) : Bool :=
  match place a with
  | .hbm => (s.setAt a).isSome && s.ownerOf a == s.partOfCore c && (s.partOfCore c).isSome
  | .store k off => decide (off < storeTop) && s.coreUsable k && s.partOfCore k == s.partOfCore c && (s.partOfCore c).isSome
  | _ => false

/-- The core issues instructions: usable, not in reset, its clock running (R184, R646), not under test (R87). -/
def Dev.coreRuns (s : Dev) (c : Nat) : Bool :=
  s.coreUsable c && !s.coreBusy c && decide (s.pow.lat < 2) && !(s.core c).p1 && !s.testRunning 1 c

/-- R163: the 128 B line of a program counter. -/
def lineOf (pc : BitVec 50) : Nat := pc.toNat / 128

/-- R163, R316: the instruction at a thread's program counter is at hand. -/
def Dev.hasInsn (s : Dev) (x : Tid) : Bool :=
  (s.core x.core).icache.contains (lineOf (s.thr x).pc) || (s.thr x).line == .atHand

/-! ### The scheduler (R156) -/

/-- Another thread of the core could issue in this cycle: it is READY, its instruction is at hand, and its operands and unit are
(log entry 58). -/
def Dev.eligible (s : Dev) (y : Tid) : Bool :=
  (s.thr y).st == .ready && s.hasInsn y && (Config.eligible y.core (s.schedOf y.core).slot).getLsbD y.thr

/-- Round-robin over threads in ascending order, from the one after `last` on. -/
def roundRobin (last : Nat) (l : List Nat) : Option Nat := (l.filter (last < ·) ++ l.filter (· ≤ last)).head?

/-- R156: the thread that the scheduler chooses among the eligible ones: a reserved one, but an unreserved one after two issues of
reserved ones in a row; within the class, round-robin. -/
def Dev.choice (s : Dev) (c : Nat) (eligible : List Nat) : Option Nat :=
  let k := s.schedOf c
  let rsv := eligible.filter fun t => s.reserved ⟨c, t⟩
  let free := eligible.filter fun t => !s.reserved ⟨c, t⟩
  if rsv.isEmpty || (k.inRow == 2 && !free.isEmpty) then roundRobin k.lastFree free else roundRobin k.lastRsv rsv

/-- R156: the scheduler chooses thread `x`, whose instruction a command issues. -/
def Dev.chosen (s : Dev) (x : Tid) : Bool :=
  s.choice x.core ((List.range 16).filter fun t => t == x.thr || s.eligible ⟨x.core, t⟩) == some x.thr

/-- R156: the scheduler after an issue of thread `x`. -/
def Dev.scheduled (s : Dev) (x : Tid) : Dev :=
  s.modSched x.core fun k =>
    if s.reserved x then { k with lastRsv := x.thr, inRow := min 2 (k.inRow + 1), slot := k.slot + 1 }
    else { k with lastFree := x.thr, inRow := 0, slot := k.slot + 1 }

/-- The device at the issue of an instruction, which source 0x02 of the core's bank counts (R156, R673). -/
def Dev.issued (s : Dev) (x : Tid) : Dev := (s.count (bankCore x.core) 0x02 1 (some x.thr)).scheduled x

/-- R163: the line of the thread's instruction is fetched. -/
def Thread.miss (t : Thread) : Thread := { t with st := .parkedFetch, line := .cached }

/-- Issue an instruction on thread `x` (R156, R163). A thread that is not READY, whose core does not run, or that the scheduler
does not choose, does not issue: nothing changes. A thread that reads a register whose array status is not yet written waits in
PARKED_ARRAY (R247); `reads` are the g registers that the instruction reads. -/
def Dev.issue (s : Dev) (x : Tid) (reads : List (BitVec 5)) (sem : Dev → Dev) : Dev :=
  let t := s.thr x
  if t.st ≠ .ready ∨ !s.coreRuns x.core then s
  else if !s.fetchOk x.core t.pc.toNat ∨ t.pcOut then s.faultThr x E_FETCH_ADDR
  else if !s.hasInsn x then (s.count (bankCore x.core) 0x10 1 (some x.thr)).modThr x Thread.miss
  else if t.awaiting.any (fun w => reads.contains w.1) then
    s.modThr x fun t => { t with st := .parkedArray, wait := .none, stash := none }
  else if !s.chosen x then s
  else sem (s.issued x)

/-- R278, R313: a nonzero unused field, a reserved FN or type faults. -/
def Dev.checked (s : Dev) (x : Tid) (ok : Bool) (sem : Dev → Dev) : Dev :=
  if ok then sem s else s.faultThr x E_RESERVED_FIELD

/-- The instruction's effect is a change of its thread's registers; it then retires. -/
def Dev.upd (s : Dev) (x : Tid) (f : Thread → Thread) : Dev := s.modThr x fun t => (f t).retire

/-- Field checks of format R (R276–R278): the fields in use are D, A, B, C as flagged, FN within `fn`. -/
def rFmt (i : Insn) (d a b c : Bool) (fn : Nat) : Bool :=
  i.upper == 0 && (d || i.d == 0) && (a || i.a == 0) && (b || i.b == 0) && (c || i.c == 0) && decide (i.fn.toNat ≤ fn)

/-- Field checks of format I: IMM in the upper word. -/
def iFmt (i : Insn) (d a : Bool) : Bool := (d || i.d == 0) && (a || i.a == 0) && i.b == 0 && i.c == 0 && i.fn == 0

/-- IMM or OFF, sign-extended. -/
def immOf (i : Insn) : Word := i.upper.signExtend 64

/-- A field that names a p register: its upper bits are zero. -/
def pField (r : BitVec 5) : Bool := r.toNat < 8

/-- R288, R289, R299, R313: the fault of an on-device access by local address, if any. `counter` says whether the
instruction may reach a sync counter, `memory` whether it may reach memory. -/
def Dev.addrFault (s : Dev) (x : Tid) (a : Word) (size : Nat) (counter memory : Bool) : Option Code :=
  let n := a.toNat
  if n % size ≠ 0 then some E_ADDR_ALIGN
  else if 2 ^ 50 ≤ n then some E_ADDR_RANGE
  else
    let own := fun (o : Option Nat) => if o == s.partOfCore x.core && o.isSome then none else some E_ADDR_PART
    match place n with
    | .hbm => if !memory || (s.chanOf n).isNone then some E_ADDR_RANGE else own (s.ownerOf n)
    | .store c off =>
      if !memory then some E_ADDR_RANGE
      else if storeTop ≤ off || !s.coreUsable c then some E_STORE_UNMAPPED else own (s.partOfCore c)
    | .ctr i => if counter then own (s.partOfCore (i / 2048)) else some E_ADDR_RANGE
    | _ => some E_ADDR_RANGE

/-- The address is in the thread's own core store (R149): its offset. -/
def ownStore (x : Tid) (a : Word) : Option Nat :=
  match place a.toNat with
  | .store c off => if c = x.core then some off else none
  | _ => none

/-- Go on unless there is a fault. -/
def Dev.unless (s : Dev) (x : Tid) (fault : Option Code) (sem : Dev → Dev) : Dev :=
  match fault with
  | some c => s.faultThr x c
  | none => sem s

/-! ### The port's grants (R268) -/

/-- The posted operation of a thread that its port has not accepted. -/
def Dev.unaccepted (s : Dev) (x : Tid) : Option (Nat × PEntry) :=
  (s.pents x.core).find? fun p => p.2.thr == x.thr && !p.2.accepted && !p.2.orphan

/-- A thread asks the port to accept its operation. -/
def Dev.asksPort (s : Dev) (x : Tid) : Bool :=
  (s.thr x).st == .parkedPort && (s.thr x).stash.isNone && s.coreRuns x.core && (s.unaccepted x).isSome

/-- The MRACC in progress of an array, and the drain-bank row of its next operation. -/
def MArray.racc (m : MArray) : Option ArrInsn := m.queue.find? fun k => k.kind == .mracc && k.started && !k.done

/-- The MRACC of an array asks the port to take its next operation: its array is ready and there is an entry for it. -/
def Dev.asksArray (s : Dev) (c a : Nat) : Bool :=
  let m := s.arr c a
  m.racc.isSome && m.st == .ready && !s.coreBusy c && decide (((s.pents c).filter (·.2.thr == arrIssuer a)).length < 64) &&
    (s.freeEntry c (arrIssuer a) none).isSome

/-- R268: who asks the port of a core: 0 and 1 the arrays, 2 the threads. -/
def Dev.asks (s : Dev) (c who : Nat) : Bool := if who = 2 then (List.range 16).any fun t => s.asksPort ⟨c, t⟩ else s.asksArray c who

/-- R268: the round-robin grant of a core's port comes to `who`: none of those asks that stand between the last granted and it. -/
def Dev.portTurn (s : Dev) (c who : Nat) : Bool :=
  let last := (s.core c).granted
  (List.range ((who + 2 - last) % 3)).all fun i => !s.asks c ((last + 1 + i) % 3)

/-- R268: the port has granted. -/
def Dev.grantPort (s : Dev) (c who : Nat) : Dev := s.modCore c fun k => { k with granted := who }

end Sys2Proof.Machine
end

