-- ==== Sys2Proof/Machine/LocalMem.lean ====
section
/-! DEFINITION. Loads and stores by local address: LD, ST, VLD, VST, PLD, PST (R287–R291, R168–R172). Each has its
operation, which PORT_ENTRY_FREE issues again (R160), and its meaning. -/

namespace Sys2Proof.Machine

/-- A load of `size` bytes at a local address: from the own core store at once (R150, R172), else through the port. -/
def Dev.loadOp (s : Dev) (x : Tid) (opc : BitVec 8) (i : Insn) (a : Word) (size : Nat) (counter : Bool) (d : Dst) : Dev :=
  s.unless x (s.addrFault x a size counter true) fun s =>
    match ownStore x a with
    | some off =>
      let bad := s.storeBadAt x.core off size
      let bytes := s.storeRead x.core off size
      let s := s.storeTouch x.core off size
      if bad then s.faultThr x E_STORE_UNCORR else s.upd x fun t => t.load d bytes
    | none => s.callOp x opc i (.load d) (s.localPkt x .load a size) false

/-- A store at a local address, byte k where bit k of `mask` is set. -/
def Dev.storeOp (s : Dev) (x : Tid) (opc : BitVec 8) (i : Insn) (a : Word) (bytes : List Byte) (mask : Nat) : Dev :=
  s.unless x (s.addrFault x a bytes.length false true) fun s =>
    match ownStore x a with
    | some off =>
      if s.storeWriteBad x.core off bytes.length mask then (s.storeWrite x.core off bytes mask).faultThr x E_STORE_UNCORR
      else (s.storeWrite x.core off bytes mask).upd x id
    | none =>
      s.postOp x opc i { s.localPkt x .store a bytes.length with data := bytes, mask } false

/-- R277: the address of a format M instruction. -/
def Dev.memAddr (s : Dev) (x : Tid) (i : Insn) : Word := (s.thr x).rg i.a + immOf i

/-- R287: sizes by FN. -/
def sizeG (i : Insn) : Nat := 2 ^ (i.fn.toNat % 4)
def sizeV (i : Insn) : Nat := 32 * 2 ^ i.fn.toNat

def semLd (x : Tid) (i : Insn) (s : Dev) : Dev :=
  s.checked x (i.b == 0 && i.c == 0 && decide (i.fn.toNat < 8)) fun s =>
    s.loadOp x 0x40 i (s.memAddr x i) (sizeG i) true (.g i.d (sizeG i) (i.fn.getLsbD 2))

def semSt (x : Tid) (i : Insn) (s : Dev) : Dev :=
  s.checked x (i.d == 0 && i.c == 0 && decide (i.fn.toNat < 4)) fun s =>
    s.storeOp x 0x41 i (s.memAddr x i) (toBytes (sizeG i) ((s.thr x).rg i.b).toNat) (ones (sizeG i))

def semVld (x : Tid) (i : Insn) (s : Dev) : Dev :=
  s.checked x (i.b == 0 && i.c == 0 && decide (i.fn.toNat < 5)) fun s =>
    s.loadOp x 0x42 i (s.memAddr x i) (sizeV i) false (.v i.d (sizeV i))

/-- R167, R287: bit k of the predicate governs byte k. -/
def semVst (x : Tid) (i : Insn) (s : Dev) : Dev :=
  s.checked x (i.d == 0 && pField i.c && decide (i.fn.toNat < 5)) fun s =>
    s.storeOp x 0x43 i (s.memAddr x i) (vBytes ((s.thr x).rv i.b) (sizeV i))
      (((s.thr x).rp (i.c.setWidth 3)).toNat % 2 ^ sizeV i)

def semPld (x : Tid) (i : Insn) (s : Dev) : Dev :=
  s.checked x (i.b == 0 && i.c == 0 && i.fn == 0 && pField i.d) fun s =>
    s.loadOp x 0x44 i (s.memAddr x i) 64 false (.p i.d)

def semPst (x : Tid) (i : Insn) (s : Dev) : Dev :=
  s.checked x (i.d == 0 && i.c == 0 && i.fn == 0 && pField i.b) fun s =>
    s.storeOp x 0x45 i (s.memAddr x i) (toBytes 64 ((s.thr x).rp (i.b.setWidth 3)).toNat) (ones 64)

def execLd (x : Tid) (i : Insn) : State → Host.Outcome State Fault Refusal :=
  act (.ld x i) fun s => s.issue x [i.a] (semLd x i)
def execSt (x : Tid) (i : Insn) : State → Host.Outcome State Fault Refusal :=
  act (.st x i) fun s => s.issue x [i.a, i.b] (semSt x i)
def execVld (x : Tid) (i : Insn) : State → Host.Outcome State Fault Refusal :=
  act (.vld x i) fun s => s.issue x [i.a] (semVld x i)
def execVst (x : Tid) (i : Insn) : State → Host.Outcome State Fault Refusal :=
  act (.vst x i) fun s => s.issue x [i.a] (semVst x i)
def execPld (x : Tid) (i : Insn) : State → Host.Outcome State Fault Refusal :=
  act (.pld x i) fun s => s.issue x [i.a] (semPld x i)
def execPst (x : Tid) (i : Insn) : State → Host.Outcome State Fault Refusal :=
  act (.pst x i) fun s => s.issue x [i.a] (semPst x i)

end Sys2Proof.Machine
end

