-- ==== Sys2Proof/Machine/Remote.lean ====
section
/-! DEFINITION. Remote instructions (R292–R298): RLD, RVLD, RST, RVST, RAXA, RFADD, RSWAP, RCAS. -/

namespace Sys2Proof.Machine

/-- R292: an HGA is a multiple of the size. -/
def hgaFault (hga : Word) (size : Nat) : Option Code := if hga.toNat % size ≠ 0 then some E_ADDR_ALIGN else none

/-- The bytes 16–256 of an RVLD or RVST. -/
def sizeR (i : Insn) : Nat := 16 * 2 ^ i.fn.toNat

/-- A posted operation by HGA; under a block (R456) the port reports it when it accepts it. -/
def Dev.remotePost (s : Dev) (x : Tid) (opc : BitVec 8) (i : Insn) (hga : Word) (p : Packet) : Dev :=
  s.unless x (hgaFault hga p.size) fun s => s.postOp x opc i p true

def semRld (x : Tid) (i : Insn) (s : Dev) : Dev :=
  s.checked x (rFmt i true true false false 0) fun s =>
    let hga := (s.thr x).rg i.a
    s.unless x (hgaFault hga 8) fun s => s.callOp x 0x50 i (.load (.g i.d 8 false)) (s.thrPkt x .load 0 hga 8) true

def semRvld (x : Tid) (i : Insn) (s : Dev) : Dev :=
  s.checked x (rFmt i true true false false 4) fun s =>
    let hga := (s.thr x).rg i.a
    s.unless x (hgaFault hga (sizeR i)) fun s =>
      s.callOp x 0x51 i (.load (.v i.d (sizeR i))) (s.thrPkt x .load 0 hga (sizeR i)) true

def semRst (x : Tid) (i : Insn) (s : Dev) : Dev :=
  s.checked x (rFmt i false true true false 0) fun s =>
    let hga := (s.thr x).rg i.a
    s.remotePost x 0x52 i hga { s.thrPkt x .store 0 hga 8 with data := toBytes 8 ((s.thr x).rg i.b).toNat }

def semRvst (x : Tid) (i : Insn) (s : Dev) : Dev :=
  s.checked x (rFmt i false true true false 4) fun s =>
    let hga := (s.thr x).rg i.a
    s.remotePost x 0x53 i hga { s.thrPkt x .store 0 hga (sizeR i) with data := vBytes ((s.thr x).rv i.b) (sizeR i) }

/-- R296: the control word of RAXA. -/
def raxaOk (c : Word) : Bool := decide (fldN c 4 3 < 4) && fldN c 7 9 == 0 && fldN c 26 38 == 0

/-- R296: the contributions of an RAXA: element j of vb for word j. -/
def raxaPayload (v : VReg) (c : Word) : AccPayload :=
  let n := fldN c 0 4 + 1
  let ty := fldN c 4 3
  let w := if ty = 0 then 32 else if ty = 1 then 16 else 8
  { summed := false, ty, anchor := c.extractLsb' 16 10, mask := BitVec.ofNat 16 (ones n), flags := 0
    data := (List.range n).map fun j => BitVec.ofNat 128 (fldN v (w * j) w) }

def semRaxa (x : Tid) (i : Insn) (s : Dev) : Dev :=
  s.checked x (rFmt i false true true true 0 && raxaOk ((s.thr x).rg i.c)) fun s =>
    let hga := (s.thr x).rg i.a
    s.remotePost x 0x54 i hga
      { s.thrPkt x .accumulate 2 hga 256 with acc := some (raxaPayload ((s.thr x).rv i.b) ((s.thr x).rg i.c)) }

/-- R297: a returning atomic with its operands. -/
def Dev.atomicOp (s : Dev) (x : Tid) (opc : BitVec 8) (i : Insn) (kind : PKind) (op1 op2 : Word) : Dev :=
  let hga := (s.thr x).rg i.a
  s.unless x (hgaFault hga 8) fun s =>
    s.callOp x opc i (.atomic i.d) { s.thrPkt x kind 0 hga 8 with op1, op2 } true

def semRfadd (x : Tid) (i : Insn) (s : Dev) : Dev :=
  s.checked x (rFmt i true true true false 0) fun s => s.atomicOp x 0x55 i .fetchAdd ((s.thr x).rg i.b) 0
def semRswap (x : Tid) (i : Insn) (s : Dev) : Dev :=
  s.checked x (rFmt i true true true false 0) fun s => s.atomicOp x 0x56 i .swap ((s.thr x).rg i.b) 0
/-- op1 is compared with the prior value; op2 replaces it where they are equal. -/
def semRcas (x : Tid) (i : Insn) (s : Dev) : Dev :=
  s.checked x (rFmt i true true true true 0) fun s =>
    s.atomicOp x 0x57 i .compareSwap ((s.thr x).rg i.b) ((s.thr x).rg i.c)

def execRld (x : Tid) (i : Insn) : State → Host.Outcome State Fault Refusal :=
  act (.rld x i) fun s => s.issue x [i.a] (semRld x i)
def execRvld (x : Tid) (i : Insn) : State → Host.Outcome State Fault Refusal :=
  act (.rvld x i) fun s => s.issue x [i.a] (semRvld x i)
def execRst (x : Tid) (i : Insn) : State → Host.Outcome State Fault Refusal :=
  act (.rst x i) fun s => s.issue x [i.a, i.b] (semRst x i)
def execRvst (x : Tid) (i : Insn) : State → Host.Outcome State Fault Refusal :=
  act (.rvst x i) fun s => s.issue x [i.a] (semRvst x i)
def execRaxa (x : Tid) (i : Insn) : State → Host.Outcome State Fault Refusal :=
  act (.raxa x i) fun s => s.issue x [i.a, i.c] (semRaxa x i)
def execRfadd (x : Tid) (i : Insn) : State → Host.Outcome State Fault Refusal :=
  act (.rfadd x i) fun s => s.issue x [i.a, i.b] (semRfadd x i)
def execRswap (x : Tid) (i : Insn) : State → Host.Outcome State Fault Refusal :=
  act (.rswap x i) fun s => s.issue x [i.a, i.b] (semRswap x i)
def execRcas (x : Tid) (i : Insn) : State → Host.Outcome State Fault Refusal :=
  act (.rcas x i) fun s => s.issue x [i.a, i.b, i.c] (semRcas x i)

end Sys2Proof.Machine
end

