-- ==== Sys2Proof/Machine/Sync.lean ====
section
/-! DEFINITION. Sync counters, FENCE and QPOST (R299–R306), and what returns to a thread: replies, port acceptance, freed
port entries, timeouts (R158–R160, R301, R306). -/

namespace Sys2Proof.Machine

/-- R300: SADD by FN: REL bit 0, SET bit 1, LOC bit 2. The release form waits in PARKED_ACCESS for earlier operations. -/
def semSadd (x : Tid) (i : Insn) (s : Dev) : Dev :=
  let loc := i.fn.getLsbD 2
  let set := i.fn.getLsbD 1
  s.checked x (rFmt i false true true false 7 && (!set || loc)) fun s =>
    let ga := (s.thr x).rg i.a
    let fault := if loc then s.addrFault x ga 8 true false else hgaFault ga 8
    s.unless x fault fun s =>
      let p := if loc then s.localPkt x .syncAdd ga 8 else s.thrPkt x .syncAdd 3 ga 8
      let p := { p with op1 := (s.thr x).rg i.b, op2 := BitVec.ofNat 64 (bit set) }
      if i.fn.getLsbD 0 && s.outstanding x false then
        s.modThr x fun t => { t with st := .parkedAccess, wait := .rel p !loc, stash := none }
      else s.postOp x 0x60 i p !loc

/-- R301: SWAIT completes at once where the condition holds. -/
def semSwait (x : Tid) (i : Insn) (s : Dev) : Dev :=
  let gc := (s.thr x).rg i.c
  s.checked x (rFmt i true true true true 0 && fldN gc 16 48 == 0) fun s =>
    let ga := (s.thr x).rg i.a
    s.unless x (s.addrFault x ga 8 true false) fun s =>
      match place ga.toNat with
      | .ctr k =>
        let target := (s.thr x).rg i.b
        if reached (s.ctr k) target then s.upd x fun t => t.wg i.d 0
        else s.modThr x fun t => { t with st := .parkedSync, wait := .sync k target i.d (fldN gc 0 16), stash := none }
      | _ => s

/-- R304, R305: FENCE. -/
def semFence (x : Tid) (i : Insn) (s : Dev) : Dev :=
  s.checked x (rFmt i true false false false 1) fun s =>
    let fn1 := i.fn.getLsbD 0
    if s.outstanding x fn1 then s.modThr x fun t => { t with st := .parkedAccess, wait := .fence fn1 i.d, stash := none }
    else s.modThr x fun t => t.fenceEnd fn1 i.d s.devNum

/-- R288, R306: the entry is read from the issuing core's own store. -/
def qpostFault (x : Tid) (a : Word) : Option Code :=
  if a.toNat % 64 ≠ 0 then some E_ADDR_ALIGN
  else match ownStore x a with
    | some off => if storeTop ≤ off then some E_STORE_UNMAPPED else none
    | none => some E_ADDR_RANGE

/-- R306: the entry as read. QPOST faults only under R288, and the manual gives no result for an uncorrectable word of it: its
bytes are free values (log entry 57). -/
def Dev.qpostEntry (s : Dev) (c off : Nat) : Entry :=
  let bytes := s.storeRead c off 64
  BitVec.ofNat 512 (ofBytes (if s.storeBadAt c off 64 then
    bytes.zipIdx.map fun b => if s.storeBadAt c (off + b.2) 1 then Config.freeByte (s.free + b.2) else b.1
  else bytes))

def semQpost (x : Tid) (i : Insn) (s : Dev) : Dev :=
  s.checked x (rFmt i true true true false 0) fun s =>
    let a := (s.thr x).rg i.b
    s.unless x (qpostFault x a) fun s =>
      match s.freeEntry x.core x.thr (s.thr x).legOf with
      | none => s.parkPort x 0x70 i
      | some e =>
        let off := (ownStore x a).getD 0
        let q := fldN ((s.thr x).rg i.a) 0 12
        let entry := s.qpostEntry x.core off
        let s := (s.storeTouch x.core off 64).when (s.storeBadAt x.core off 64) fun s => { s with free := s.free + 64 }
        let p := { s.localPkt x .store (BitVec.ofNat 64 q) 64 with data := toBytes 64 entry.toNat }
        (s.alloc x e .qpost p false true).modThr x fun t =>
          { t with st := .parkedAccess, stash := none, wait := .qpost q entry i.d }

def execSadd (x : Tid) (i : Insn) : State → Host.Outcome State Fault Refusal :=
  act (.sadd x i) fun s => s.issue x [i.a, i.b] (semSadd x i)
def execSwait (x : Tid) (i : Insn) : State → Host.Outcome State Fault Refusal :=
  act (.swait x i) fun s => s.issue x [i.a, i.b, i.c] (semSwait x i)
def execFence (x : Tid) (i : Insn) : State → Host.Outcome State Fault Refusal :=
  act (.fence x i) fun s => s.issue x [] (semFence x i)
def execQpost (x : Tid) (i : Insn) : State → Host.Outcome State Fault Refusal :=
  act (.qpost x i) fun s => s.issue x [i.a, i.b] (semQpost x i)

/-- R301: the timeout of a waiting SWAIT expires; a timeout of 0 never does. -/
def execSwaitTimeout (x : Tid) : State → Host.Outcome State Fault Refusal :=
  act (.swaitTimeout x) fun s =>
    let t := s.thr x
    match t.st, t.wait with
    | .parkedSync, .sync _ _ gd us =>
      if us = 0 then s else s.modThr x fun t => (t.wg gd (E_SYNC_TIMEOUT.setWidth 64)).retire
    | _, _ => s

/-- R306: the status of a QPOST to queue `q`. -/
def Dev.qpostCode (s : Dev) (x : Tid) (q : Nat) : Code :=
  if s.qOwner q ≠ s.partOfCore x.core ∨ (s.qOwner q).isNone then E_Q_NOT_OWNER
  else if s.qType q = 3 ∨ s.qType q = 4 then E_Q_TYPE
  else if 32 ≤ (s.queue q).entries.length then E_Q_FULL
  else E_OK

/-- R306: the hub places the entry of a QPOST where it may. -/
def Dev.placeEntry (s : Dev) (x : Tid) (q : Nat) (e : Entry) : Dev := s.when (s.qpostCode x q == E_OK) (·.postEntry q e)

/-- R306: the hub has placed the entry of a QPOST of a thread, or refused it; the status reaches the thread. That of an
orphaned one is discarded (R181). -/
def execQpostStatus (x : Tid) : State → Host.Outcome State Fault Refusal :=
  act (.qpostStatus x) fun s =>
    match (s.pents x.core).find? (fun p => p.2.thr == x.thr && p.2.kind == .qpost) with
    | none => s
    | some (n, p) =>
      if p.orphan then (s.placeEntry x p.pkt.addr.toNat (BitVec.ofNat 512 (ofBytes p.pkt.data))).freeEnt x.core n
      else match (s.thr x).wait with
        | .qpost q e gd => ((s.placeEntry x q e).modThr x fun t => (t.wg gd ((s.qpostCode x q).setWidth 64)).retire).freeEnt x.core n
        | _ => s

/-- R460, R465, R466, R475: what ends an operation is taken up: a refusal of an atomic one of whose attempts timed out settles
nothing, and an indeterminate outcome ends the context. -/
def Dev.takeUp (s : Dev) (c e : Nat) (data : List Byte) (poison : BitVec 16) (code : Code) : Dev :=
  match s.pent c e with
  | none => s
  | some p =>
    let atomic := match p.kind with
      | .atomic _ => true
      | _ => false
    let unsure := code != E_OK && (code == E_RA_INDETERMINATE || (p.timedOut && atomic))
    if unsure then
      (s.takeReply c e data poison E_RA_INDETERMINATE).when (p.pkt.gen == (s.ctx p.pkt.ctx).gen) (·.indeterminate p.pkt.ctx p.pkt.dstDev)
    else (s.takeReply c e data poison code).when (code == E_RA_TIMEOUT) (·.targetLost p.pkt.ctx p.pkt.dstDev code)

/-- R159, R293, R294: the reply or acknowledgement at the head of a core's port for entry `entry` is taken up. -/
def execRemoteReply (core entry : Nat) : State → Host.Outcome State Fault Refusal :=
  act (.remoteReply core entry) fun s =>
    let k := s.core core
    match k.replies.find? (·.entry == entry) with
    | none => s
    | some r =>
      if s.coreBusy core then s
      else
        let i := k.replies.findIdx (·.entry == entry)
        (s.modCore core fun k => { k with replies := dropAt k.replies i }).takeUp core entry r.data r.poison r.code

/-- R159, R268: the port accepts the posted operation of a thread, in the threads' turn. -/
def execPortAccept (x : Tid) : State → Host.Outcome State Fault Refusal :=
  act (.portAccept x) fun s =>
    if !s.asksPort x ∨ !s.portTurn x.core 2 then s
    else match s.unaccepted x with
      | some p => (s.grantPort x.core 2).acceptEntry x p.1 p.2
      | none => s

/-- R160: the operation of an instruction that waits for a port entry. -/
def Dev.reissue (s : Dev) (x : Tid) (k : Stash) : Dev :=
  match k.opc.toNat with
  | 0x40 => semLd x k.insn s
  | 0x41 => semSt x k.insn s
  | 0x42 => semVld x k.insn s
  | 0x43 => semVst x k.insn s
  | 0x44 => semPld x k.insn s
  | 0x45 => semPst x k.insn s
  | 0x50 => semRld x k.insn s
  | 0x51 => semRvld x k.insn s
  | 0x52 => semRst x k.insn s
  | 0x53 => semRvst x k.insn s
  | 0x54 => semRaxa x k.insn s
  | 0x55 => semRfadd x k.insn s
  | 0x56 => semRswap x k.insn s
  | 0x57 => semRcas x k.insn s
  | 0x60 =>
    match (s.thr x).wait with
    | .rel p remote => s.postOp x 0x60 k.insn p remote
    | _ => semSadd x k.insn s
  | 0x70 => semQpost x k.insn s
  | _ => s

/-- R160: a port entry is free for a thread that waits for one: it issues its instruction. -/
def execPortEntryFree (x : Tid) : State → Host.Outcome State Fault Refusal :=
  act (.portEntryFree x) fun s =>
    let t := s.thr x
    match t.st, t.stash with
    | .parkedPort, some k =>
      if s.coreRuns x.core && (s.freeEntry x.core x.thr t.legOf).isSome then s.reissue x k else s
    | _, _ => s

/-- R177: a watchdog faults a thread that holds work. -/
def Dev.wdog (s : Dev) (x : Tid) (watched : Bool) (code : Code) : Dev :=
  if watched && (s.thr x).work.isSome && !s.coreBusy x.core then s.faultThr x code else s

/-- R178, R179: a READY thread retired nothing for RETIRE_LIMIT. -/
def execRetireWdog (x : Tid) : State → Host.Outcome State Fault Refusal :=
  act (.retireWdog x) fun s => s.wdog x ((s.thr x).st == .ready) E_THREAD_RETIRE_WDOG

/-- R178: the parked states but PARKED_SYNC. -/
def ThrSt.parked : ThrSt → Bool
  | .parkedAccess | .parkedPort | .parkedArray | .parkedFetch => true
  | _ => false

/-- R187: the park watchdog frees the entries that a reset of their thread orphaned before the port accepted the operation: no
reply or acknowledgement will. -/
def Dev.freeUnsent (s : Dev) (x : Tid) : Dev :=
  s.fold ((s.pents x.core).filter fun e => e.2.thr == x.thr && e.2.orphan && !e.2.accepted) fun s e => s.freeEnt x.core e.1

/-- R178, R179: a thread stayed parked for PARK_LIMIT. -/
def execParkWdog (x : Tid) : State → Host.Outcome State Fault Refusal :=
  act (.parkWdog x) fun s => (s.wdog x (s.thr x).st.parked E_THREAD_PARK_WDOG).freeUnsent x

/-- R560: a port may write the CORE block of a core. -/
def Dev.corePortOk (s : Dev) (port c : Nat) : Bool :=
  match s.partOfCore c with
  | none => true
  | some n => s.portOf n == port

/-- R180: resets of the threads of a mask. A core reset in progress absorbs them (R186). An EMPTY thread is reset too: its
registers are zeroed and its epoch advances. -/
def Dev.resetThreads (s : Dev) (core : Nat) (mask : BitVec 16) : Dev :=
  if s.coreBusy core then s
  else s.fold ((List.range 16).filter (mask.getLsbD ·)) fun s t =>
    let x : Tid := ⟨core, t⟩
    let s := s.modCore core fun k => { k with thrReset := k.thrReset ||| BitVec.ofNat 16 (2 ^ t) }
    if (s.thr x).st = .resetting then s else s.beginReset x E_THREAD_RESET E_OK

/-- R190: a write to CORE.THR_RESET. -/
def execThreadReset (port core : Nat) (mask : BitVec 16) : State → Host.Outcome State Fault Refusal :=
  act (.threadReset port core mask) fun s =>
    if !s.corePortOk port core then s.logE E_HOST_NOT_OWNER core
    else if !s.coreUsable core then s
    else s.resetThreads core mask

/-- R180 step 2: at 8 µs the posted entries of a thread in reset that are not acknowledged are orphaned and logged. -/
def execPortOrphan (x : Tid) : State → Host.Outcome State Fault Refusal :=
  act (.portOrphan x) fun s =>
    if (s.thr x).st ≠ .resetting ∨ !s.outstanding x false then s
    else
      let s := s.modCore x.core fun k => { k with port := k.port.map fun (e : Nat × Option PEntry) =>
        (e.1, e.2.map fun p => if p.thr = x.thr then { p with orphan := true } else p) }
      (s.logE E_PORT_ORPHAN (16 * x.core + x.thr)).tryFinish x

end Sys2Proof.Machine
end

