-- ==== Sys2Proof/Machine/Resets.lean ====
section
/-! DEFINITION. Reset domains (R182–R185, R388, R584–R599): core, compute die, stack, link and device resets, their ends
and escalations, and the watchdogs that start them. -/

namespace Sys2Proof.Machine

/-! ### Compute die resets (R591) -/

/-- The usable cores of a compute die. -/
def Dev.dieCores (s : Dev) (n : Nat) : List Nat := (span (8 * n) 8).filter (s.coreUsable ·)

/-- R591 steps 3 and 4: the links of the die are in their lane test. -/
def Dev.retrainDie (s : Dev) (n : Nat) : Dev := s.fold ((linksOfDie n).filter (s.linkFitted ·)) fun s l => s.startRetrain l false

/-- R46: a compute die is reset for a width that does not settle. A die whose reset is already in progress has its links test
again from step 3 of R591, which is what the reset still has to do. -/
def Dev.resetEndDie (s : Dev) (n : Nat) (begin : Dev → Dev) : Dev :=
  if s.inReset 3 n then (s.lastReset 3 n E_D2D_WIDTH_ESCALATE).retrainDie n else begin s

/-- R591 steps 1–4: cores stopped, the die captured, the links of the die in their lane test. R671: its counter banks are
zeroed. -/
def Dev.beginDie (s : Dev) (n : Nat) (cause : Code) (byCtl : Bool) : Dev :=
  if s.inReset 3 n || s.inReset 6 0 || !s.dieReleased n then s
  else
    let s := (s.lastReset 3 n cause).eventReset cause n
    let s := { s with rcv := { s.rcv with active := s.rcv.active ++ [({ domain := 3, unit := n, cause, byCtl } : ActiveReset)] } }
    let s := { s with boot := { s.boot with released := clearBit s.boot.released n } }
    let s := s.fold (s.dieCores n) fun s c => s.coreStop c
    let s := s.capture 3 n cause
    ((s.zeroBank (bankDie n)).fold (s.dieCores n) fun s c => s.zeroBank (bankCore c)).retrainDie n

/-- R591: the links of the die run again and its arrays have left their resets. -/
def Dev.dieBack (s : Dev) (n : Nat) : Bool :=
  ((linksOfDie n).all fun l => !s.linkFitted l || (s.link l).st == .running || (s.link l).st == .deferred) &&
    (s.dieCores n).all fun c => s.arraysBack c

/-- R174, R175, R229: what a compute die reset zeroes in a core. STORE_ERR counts on (R194). -/
def Core.zeroed (k : Core) : Core :=
  { k with
    store := [], storeSoft := [], storeBad := []
    a0 := { k.a0 with errCount := 0 }
    a1 := { k.a1 with errCount := 0 } }

/-- R591 steps 6 and 7. -/
def Dev.finishDie (s : Dev) (n : Nat) : Dev :=
  let s := s.endActive 3 n
  let s := s.fold (s.dieCores n) fun s c => (s.coreFinish c).modCore c Core.zeroed
  { s with boot := { s.boot with released := setBit s.boot.released n } }

/-! ### Stack resets (R593) -/

/-- The stack is fitted and not lost. -/
def Dev.stackThere (s : Dev) (k : Nat) : Bool := s.stackFitted k && !s.boot.stacksLost.getLsbD k

/-- R593 steps 1–4: the stack captured, its channels and its link retrain. -/
def Dev.beginStack (s : Dev) (k : Nat) (cause : Code) (byCtl : Bool) : Dev :=
  if s.inReset 4 k || s.inReset 6 0 || !s.stackThere k then s
  else
    let s := (s.lastReset 4 k cause).eventReset cause k
    let s := { s with rcv := { s.rcv with active := s.rcv.active ++ [({ domain := 4, unit := k, cause, byCtl } : ActiveReset)] } }
    let s := s.resetTests fun kind unit => kind == 3 && unit / 32 == k
    let s := (s.modStk k fun b => { b with inReset := true }).capture 4 k cause
    let s := (s.zeroBank (bankStack k)).startRetrain (0x20 + k) false
    s.fold (List.range 31) fun s p => s.retrainChan k p

/-- R593 step 5: the stack serves again. -/
def Dev.finishStack (s : Dev) (k : Nat) : Dev :=
  let s := (s.endActive 4 k).modStk k fun b => { b with inReset := false }
  s.fold (List.range 31) fun s p => s.modChan k p fun c => if c.st = .retraining then { c with st := .active } else c

/-! ### The voltages of the compute dies (R622, R624, R688) -/

/-- R622: the trim of VCORE_CDn in mV, within ±30. -/
def Dev.trimOf (s : Dev) (n : Nat) : Int := max (-30) (min 30 (((s.rec?.map (·.trim)).getD []).getD n 0))

/-- R622: a voltage of VCORE_CDn, trimmed, and within 0.60–0.90 V, which is also 150 mV from VCORE_HUB. -/
def Dev.vcore (s : Dev) (n nominal : Nat) : Nat := (max 600 (min 900 ((nominal : Int) + s.trimOf n))).toNat

/-- R688: VOUT_COMMAND to the regulator of a rail. -/
def Dev.setVolt (s : Dev) (rail mv : Nat) : Dev := (s.modRail rail fun r => { r with set := mv }).out (.vout rail mv)

/-- R630, R638: the mode whose clock and voltage a die runs at: EFFICIENT where it is forced. -/
def Dev.dieMode (s : Dev) (n : Nat) : Nat := if s.pow.forced || (s.dieT n).forced then 2 else s.pow.modeNow.toNat

/-- The voltage of each compute die follows its mode, and the 0.60 V retention level in P3 and P4 (R643). -/
def Dev.setDies (s : Dev) : Dev :=
  s.fold (List.range 4) fun s n =>
    let mv := s.vcore n (if 3 ≤ s.pow.lat then 600 else modeMv (s.dieMode n))
    if (s.rail n).set = mv then s else s.setVolt n mv

/-- R624: the start setting. -/
def Dev.startSetting (s : Dev) : Dev := ({ s with pow := { s.pow with modeNow := 2, change := none, later := none } } : Dev).setDies

/-! ### Device resets (R595) -/

/-- R507: every open combining entry is flushed, and no entry opens. -/
def Dev.closeCombining (s : Dev) : Dev :=
  let s := { s with axa := { s.axa with closed := true } }
  s.fold s.axa.comb fun s e => s.flush e.1

/-- Combining entries that await a response. -/
def Dev.combWaiting (s : Dev) : Bool := s.axa.comb.any fun e => (e.2.map (·.awaiting)).getD false

/-- R507: entries that still wait are freed and logged. -/
def Dev.dropStale (s : Dev) : Dev :=
  s.fold s.axa.comb fun s e =>
    if (e.2.map (·.awaiting)).getD false then
      let s := (s.setComb e.1 none).logE E_AXA_COMB_STALE e.1
      { s with axa := { s.axa with stale := sat8 s.axa.stale } }
    else s

/-- R350, R594, R597: a base die is outside a device reset: its data, its channel map, its dead channels (R346), its counts of
errors, a migration in progress and the requests it holds stay; nobody waits for their answers. The counts since the start begin
again (R355, R356). -/
def Chan.kept (c : Chan) : Chan :=
  { c with st := if c.st = .retraining then .active else c.st, ue := 0, rr := 0
           queue := c.queue.map fun r => { r with src := .hub, riders := [] } }
def Stack.kept (b : Stack) : Stack :=
  { chans := b.chans.map fun e => (e.1, e.2.kept), standby := b.standby, standbyFree := b.standbyFree, temp := b.temp, steep := b.steep,
    steepAt := b.steepAt, tags := b.tags, buckets := b.buckets.map fun e => (e.1, { e.2 with borrowed := 0 }), selfRefresh := true
    migrating := b.migrating, migStart := b.migStart, scrubs := b.scrubs }

/-- R596: what a PCI Express port keeps. -/
def HPort.kept (h : HPort) : HPort := { h with mbox := {} }

/-- R63, R595 step 7: the start resumes at step 4, with the boot firmware and the board record kept. -/
def Boot.restart (b : Boot) (now : Nat) : Boot :=
  { powered := b.powered, step := 4, fwSlot := b.fwSlot, recCopy := b.recCopy, epoch := b.epoch + 1, startMs := now, part := b.part,
    pkgRev := b.pkgRev, steppings := b.steppings, firmware := b.firmware, record := b.record, keyOk := b.keyOk,
    perst0 := b.perst0, perst1 := b.perst1, perstBoth := b.perstBoth,
    attnHeld := b.attnHeld, code := if b.keyOk then E_OK else E_KEY_UNWRAP }

/-- R79, R595: the kept boot firmware and board record, with its version floors, are measured again. -/
def Dev.measureKept (s : Dev) : Dev :=
  let s := s.boot.firmware.elim s fun f => s.extend 0 0x01 f.version f.digest
  s.boot.record.elim s fun r => (s.extend 1 0x02 r.record.seq r.record.digest).extend 1 0x03 0 (sha256 r.record.floors)

/-- R671, R680: the banks that a device reset zeroes. -/
def allBanks : SMap Bank := (List.range 83).map fun b => (b, ({ resetSeen := true } : Bank))

/-- R660: MIN and DIPS of a rail count from the start on; the rail itself goes on. -/
def Rail.anew (r : Rail) : Rail := { r with low := none, dips := 0 }

/-- R595 steps 6 and 7, R599: what a device reset leaves. GO and BUSY of RESET_CTL stay until it completes (R615). -/
def Dev.restarted (s : Dev) : Dev :=
  { clock := s.clock, free := s.free, outbox := s.outbox, side := s.side
    boot := s.boot.restart s.clock
    tests := { pending := s.tests.kept }
    mem := { data := s.mem.data, poison := s.mem.poison, flags := s.mem.flags, stks := s.mem.stks.map (fun e => (e.1, e.2.kept)), nextTag := s.mem.nextTag }
    host := { p0 := s.host.p0.kept, p1 := s.host.p1.kept }
    pow := { modeNow := 2, mode := 0, rails := s.pow.rails.map fun e => (e.1, e.2.anew), osc := s.pow.osc, fabRef := s.pow.fabRef, ref0 := s.pow.ref0, ref1 := s.pow.ref1 }
    rcv := { active := s.rcv.active, go := s.rcv.go, lastDomain := s.rcv.lastDomain, lastUnit := s.rcv.lastUnit, lastCause := s.rcv.lastCause,
             escalations := s.rcv.escalations, devTimes := s.rcv.devTimes, hbCount := s.rcv.hbCount, capsule := s.rcv.capsule }
    evc := { banks := allBanks } }

/-- R595 steps 3–7: cores stopped, the device captured, every accepted entry completed, the start resumed at step 4. -/
def Dev.resetGo (s : Dev) : Dev :=
  if !s.rcv.flushing || !s.inReset 6 0 || s.combWaiting then s
  else
    let cause := ((s.rcv.active.find? (·.domain == 6)).map (·.cause)).getD E_OK
    let s := s.fold ((List.range 32).filter (s.coreUsable ·)) fun s c => s.coreStop c
    let s := s.capture 6 0 cause
    let s := s.fold s.host.queues fun s q => s.completeAll q.1 E_DEVICE_RESET
    s.restarted.measureKept.startSetting

/-- R391: the drain goes on in phase 3 without a release. -/
def Dev.drainNow (s : Dev) (code : Code) : Dev :=
  if 3 ≤ s.rcv.phase then s
  else { s with rcv := { s.rcv with phase := 3, drainCode := code, pressMs := if s.rcv.phase = 0 then s.clock else s.rcv.pressMs } }

/-- R589, R595 steps 1–3: a device reset begins, or, for the fourth cause within ten minutes, the device drains. A halted start
keeps its halt (R67). -/
def Dev.beginDevice (s : Dev) (cause : Code) (byCtl : Bool) : Dev :=
  if s.inReset 6 0 || s.boot.halted then s
  else if 3 ≤ s.devResets then (s.logE E_DEVICE_RESET_LOOP 0).drainNow E_DEVICE_RESET_LOOP
  else
    let s := ((s.lastReset 6 0 cause).logE E_DEVICE_RESET 0).eventAll 10 E_DEVICE_RESET 0 (at_ 32 cause.toNat)
    let held := s.rcv.phase = 1 ∨ s.rcv.phase = 2
    let s := { s with
      boot := { s.boot with attnHeld := s.boot.attnHeld || decide held }
      rcv := { s.rcv with
        devTimes := s.clock :: s.rcv.devTimes
        active := [({ domain := 6, unit := 0, cause, byCtl } : ActiveReset)]
        go := byCtl
        flushing := true
        phase := if held then 0 else s.rcv.phase } }
    let s := (s.breakAll false).breakAll true
    let s := (s.breakWhere (fun _ => true) cause).withdrawUp
    s.closeCombining.resetGo

/-! ### Requests through HUB.RESET_CTL (R590, R615) -/

/-- R590, R615: a request for a reset; `there` says that the unit exists, `busy` that it or a domain that contains it is in
reset. DOMAIN and UNIT are written with GO. A halted start resets nothing (R67, log entry 53). -/
def Dev.resetReq (s : Dev) (domain unit : Nat) (there busy : Bool) (go : Dev → Dev) : Dev :=
  let s := s.setReg 0 0xB08 (at_ 0 domain ||| at_ 8 unit)
  if !there then s.logE E_RESET_REQ_BAD unit
  else if busy || s.boot.halted then s.logE E_RESET_BUSY unit
  else go { s with rcv := { s.rcv with go := true } }

def Dev.dieReset (s : Dev) (src : ResetSrc) (n : Nat) : Dev :=
  match src with
  | .request _ => s.resetReq 2 n (s.dieReleased n || s.inReset 3 n) (s.inReset 3 n || s.inReset 6 0) (·.beginDie n E_OK true)
  | .hub cause => s.beginDie n cause false

def Dev.stackRst (s : Dev) (src : ResetSrc) (k : Nat) : Dev :=
  match src with
  | .request _ => s.resetReq 3 k (s.stackThere k) (s.inReset 4 k || s.inReset 6 0) (·.beginStack k E_OK true)
  | .hub cause => s.beginStack k cause false

def Dev.linkRst (s : Dev) (src : ResetSrc) (e : Nat) : Dev :=
  match src with
  | .request _ =>
    s.resetReq 4 e (s.engFitted e && !s.boot.engsLost.getLsbD e) (s.inReset 5 e || s.inReset 6 0) (·.beginLink e E_OK true)
  | .hub cause => s.beginLink e cause false

def Dev.devReset (s : Dev) (src : ResetSrc) : Dev :=
  match src with
  | .request _ => s.resetReq 5 0 true (s.inReset 6 0) (·.beginDevice E_OK true)
  | .hub cause => s.beginDevice cause false

/-! ### The commands -/

/-- R184, R191: `CORE.RESET` is written through a port, or the hub resets a core. -/
def execCoreReset (src : ResetSrc) (core : Nat) : State → Host.Outcome State Fault Refusal :=
  act (.coreReset src core) fun s =>
    match src with
    | .request port => if !s.corePortOk port core then s.logE E_HOST_NOT_OWNER core else s.beginCore core E_OK
    | .hub cause => s.beginCore core cause

/-- R184 steps 4 and 5. -/
def execCoreResetDone (core : Nat) : State → Host.Outcome State Fault Refusal :=
  actIf (core < 32) fun s =>
    if !(s.core core).resetting || s.inReset 3 (core / 8) || s.inReset 6 0 || !s.arraysBack core then s else s.coreFinish core

/-- R182: a thread reset missed its deadline. -/
def execThreadResetEscalate (x : Tid) : State → Host.Outcome State Fault Refusal :=
  act (.threadResetEscalate x) fun s =>
    if (s.thr x).st ≠ .resetting then s
    else (s.escalate E_THREAD_RESET_ESCALATE (16 * x.core + x.thr)).beginCore x.core E_THREAD_RESET_ESCALATE

/-- R183: an array reset missed its deadline. -/
def execArrayResetEscalate (core a : Nat) : State → Host.Outcome State Fault Refusal :=
  act (.arrayResetEscalate core a) fun s =>
    if (s.arr core a).st ≠ .reset ∨ s.coreBusy core then s
    else (s.escalate Config.arrayEscalation (2 * core + a)).beginCore core Config.arrayEscalation

/-- R185: a core reset missed its deadline; the compute die reset absorbs it. -/
def execCoreResetEscalate (core : Nat) : State → Host.Outcome State Fault Refusal :=
  act (.coreResetEscalate core) fun s =>
    if !(s.core core).resetting || s.inReset 3 (core / 8) || s.inReset 6 0 then s
    else (s.escalate E_CORE_RESET_ESCALATE core).beginDie (core / 8) E_CORE_RESET_ESCALATE false

/-- R46: the ends of a link still disagree after three renegotiations or 1 ms: its compute dies whose report differs from the
published map are reset. DESIGN CHOICE (log entry 54): an end without a compute die (the hub, an engine, a stack) resets
nothing, and the link stays in its renegotiation; the manual names only compute dies. -/
def Dev.widthEscalate (s : Dev) (l : Nat) : Dev :=
  match (s.link l).st with
  | .agreeing _ =>
    let k := s.link l
    let s := s.logE E_D2D_WIDTH_ESCALATE l
    if k.escalated then s.beginDevice E_D2D_WIDTH_ESCALATE false
    else
      let s := s.modLink l fun k => { k with escalated := true }
      let bad := (if agree l k.repA k.published then [] else [(linkDies l).1]) ++ (if agree l k.repB k.published then [] else [(linkDies l).2])
      s.fold (bad.filterMap id) fun s n => s.resetEndDie n (·.beginDie n E_D2D_WIDTH_ESCALATE false)
  | _ => s

/-- R44–R46, R59: both ends have reported. A mismatch that recurs after a die reset for it resets the device. -/
def Dev.retrainReport (s : Dev) (l : Nat) (tests : List LaneTest) (downA downB : List Nat) : Dev :=
  let r := s.endReports l tests downA downB
  if agree l r.2.1 r.2.2 then r.1.agreed l r.2.1
  else if (r.1.link l).escalated then (r.1.logE E_D2D_WIDTH_MISMATCH l).beginDevice E_D2D_WIDTH_ESCALATE false
  else r.1.disagree l r.2.1 r.2.2

/-- R44: both ends have reported after a retrain or a renegotiation. -/
def execD2dRetrainReport (link : Nat) (tests : List LaneTest) (down : EndsDown) : State → Host.Outcome State Fault Refusal :=
  act (.d2dRetrainReport link tests down) fun s =>
    match (s.link link).st with
    | .testing | .agreeing _ => s.retrainReport link tests down.first down.second
    | _ => s

def execWidthEscalate (link : Nat) : State → Host.Outcome State Fault Refusal :=
  act (.widthEscalate link) fun s => s.widthEscalate link

/-- R584: a compute die missed three polls. -/
def execDieHeartbeat (die : Nat) : State → Host.Outcome State Fault Refusal :=
  actIf (die < 4) fun s =>
    if !s.dieReleased die then s else (s.logE E_DIE_HEARTBEAT die).beginDie die E_DIE_HEARTBEAT false

/-- R584: a base die missed three polls. -/
def execStackMgmtWdog (stack : Nat) : State → Host.Outcome State Fault Refusal :=
  actIf (stack < 32) fun s =>
    if !s.stackThere stack || (s.stk stack).inReset then s else (s.logE E_STACK_MGMT_WDOG stack).beginStack stack E_STACK_MGMT_WDOG false

/-- R584: an engine missed three polls. -/
def execEngMgmtWdog (eng : Nat) : State → Host.Outcome State Fault Refusal :=
  actIf (eng < 14) fun s =>
    if !s.engFitted eng || s.boot.engsLost.getLsbD eng || (s.eng eng).inReset then s
    else (s.logE E_ENG_MGMT_WDOG eng).beginLink eng E_ENG_MGMT_WDOG false

/-- R590, R591. -/
def execComputeDieReset (src : ResetSrc) (die : Nat) : State → Host.Outcome State Fault Refusal :=
  actIf (die < 4) fun s => s.dieReset src die

/-- R590, R593. -/
def execStackReset (src : ResetSrc) (stack : Nat) : State → Host.Outcome State Fault Refusal :=
  actIf (stack < 32) fun s => s.stackRst src stack

/-- R388, R590. -/
def execLinkReset (src : ResetSrc) (eng : Nat) : State → Host.Outcome State Fault Refusal :=
  act (.linkReset src eng) fun s => s.linkRst src eng

/-- R590, R595. -/
def execDeviceReset (src : ResetSrc) : State → Host.Outcome State Fault Refusal :=
  actIf true fun s => s.devReset src

/-- R591 steps 6 and 7. -/
def execComputeDieResetDone (die : Nat) : State → Host.Outcome State Fault Refusal :=
  actIf (die < 4) fun s => if s.inReset 3 die && s.dieBack die then s.finishDie die else s

/-- R593 step 5. -/
def execStackResetDone (stack : Nat) : State → Host.Outcome State Fault Refusal :=
  actIf (stack < 32) fun s => if s.inReset 4 stack && (s.link (0x20 + stack)).st == .running then s.finishStack stack else s

/-- R388. -/
def execLinkResetDone (eng : Nat) : State → Host.Outcome State Fault Refusal :=
  actIf (eng < 14) fun s => if s.inReset 5 eng then s.finishLink eng else s

/-- R588: a compute die reset missed its deadline. -/
def execDieResetEscalate (die : Nat) : State → Host.Outcome State Fault Refusal :=
  actIf (die < 4) fun s =>
    if s.inReset 3 die then ((s.escalate E_DIE_RESET_ESCALATE die).endActive 3 die).beginDevice E_DIE_RESET_ESCALATE false else s

/-- R588: a stack reset missed its deadline. -/
def execStackResetEscalate (stack : Nat) : State → Host.Outcome State Fault Refusal :=
  actIf (stack < 32) fun s =>
    if s.inReset 4 stack then ((s.escalate E_STACK_RESET_ESCALATE stack).endActive 4 stack).beginDevice E_STACK_RESET_ESCALATE false else s

/-- R388, R588: a link reset missed its deadline. -/
def execLinkResetEscalate (eng : Nat) : State → Host.Outcome State Fault Refusal :=
  act (.linkResetEscalate eng) fun s =>
    if s.inReset 5 eng then ((s.escalate E_LINK_RESET_ESCALATE eng).endActive 5 eng).beginDevice E_LINK_RESET_ESCALATE false else s

/-- R588, R617: a device reset missed its deadline: the hub asks for a power cycle. -/
def execDeviceResetEscalate : State → Host.Outcome State Fault Refusal :=
  actIf true fun s =>
    if s.inReset 6 0 then
      let s := s.escalate E_DEVICE_RESET_ESCALATE 0
      { s with rcv := { s.rcv with hbHalt := true, go := false } }
    else s

/-- R584: the hub firmware hangs; the supervisor heartbeat stops. -/
def execHubWdog : State → Host.Outcome State Fault Refusal :=
  actIf true fun s => { s with rcv := { s.rcv with hung := true } }

/-- R598: 10 ms of the supervisor heartbeat. -/
def execSupvHbTick : State → Host.Outcome State Fault Refusal :=
  actIf true fun s => if s.rcv.hung then s else { s with rcv := { s.rcv with hbCount := s.rcv.hbCount + 1 } }

end Sys2Proof.Machine
end

