-- ==== Sys2Proof/Machine/Work.lean ====
section
/-! DEFINITION. Work items (R152, R153, R155, R531, R566): starting compute entries and legs, END, peer timeouts. -/

namespace Sys2Proof.Machine

/-- The core takes work: usable, not in reset, no granted test window on it (R88, R91, R186), not in P2–P4. -/
def Dev.takesWork (s : Dev) (c : Nat) : Bool :=
  s.coreUsable c && !s.coreBusy c && !s.windowOpen 1 c && !(s.tests.running.any fun r => r.kind == 1 && r.unit == c && r.granted) &&
    decide (s.pow.lat < 2)

/-- EMPTY threads of a core, reserved or not. -/
def Dev.emptyThreads (s : Dev) (c : Nat) (rsv : Bool) : List Nat :=
  (List.range 16).filter fun t => (s.thr ⟨c, t⟩).st == .empty && s.reserved ⟨c, t⟩ == rsv

/-- Non-EMPTY threads of a core. -/
def Dev.busyThreads (s : Dev) (c : Nat) : Nat := (List.range 16).countP fun t => (s.thr ⟨c, t⟩).st != .empty

/-- R105, R152: the cores on which an entry of a queue may start, all of the queue's partition: the preferred one, or those with
the fewest non-EMPTY threads, the lowest number first. DESIGN CHOICE (log entry 53): without a preferred core, only cores that
take work and have an EMPTY unreserved thread are compared. -/
def Dev.startCore (s : Dev) (q : Nat) : Option Nat :=
  let free := fun (c : Nat) => s.partOfCore c == s.qOwner q && s.takesWork c && !(s.emptyThreads c false).isEmpty
  if s.qCore q ≠ 0x1F then (if free (s.qCore q) then some (s.qCore q) else none)
  else
    let cs := (List.range 32).filter free
    cs.foldl (fun (best : Option Nat) c =>
      match best with
      | none => some c
      | some b => if s.busyThreads c < s.busyThreads b then some c else some b) none

/-- A compute queue whose next entry could start on a core now. -/
def Dev.readyOn (s : Dev) (c q : Nat) : Bool := s.qType q == 1 && (s.nextStart q).isSome && s.startCore q == some c

/-- The place of a queue in the round-robin after `last`. -/
def queueTurn (last q : Nat) : Nat := (q + 4095 - last % 4096) % 4096

/-- R566: among the queues that could start on a core, those of higher PRIO first, equal ones round-robin. -/
def Dev.queueFirst (s : Dev) (c q : Nat) : Bool :=
  (s.host.queues.filter fun e => s.readyOn c e.1).all fun e =>
    decide (s.qPrio e.1 < s.qPrio q) ||
      (s.qPrio e.1 == s.qPrio q && decide (queueTurn (s.core c).lastQueue q ≤ queueTurn (s.core c).lastQueue e.1))

/-- R153, R294: a thread starts a work item: its registers, its program counter. An entry address that is no multiple of 8
below 2^50 faults as a fetch from it does (R163). -/
def Dev.startThread (s : Dev) (x : Tid) (q : Nat) (seq : BitVec 32) (e : Entry) (leg : Bool) : Dev :=
  let s := s.workFor 1 x.core
  let s := s.modThr x fun t =>
    { st := .ready, pc := BitVec.ofNat 50 (eEntry e), epoch := t.epoch, work := some { queue := q, seq, ctx := eCtx e, leg }
      g := put 0 (put 0 (put 0 [] 1 (BitVec.ofNat 64 (eArg e))) 2 (at_ 0 q ||| at_ 16 x.thr)) 3 (BitVec.ofNat 64 x.core) }
  let s := s.modCore x.core fun k => { k with p1 := false }
  let s := s.modCtx (eCtx e) fun c => { c with ranOn := setBit c.ranOn x.core }
  if eEntry e % 8 = 0 ∧ eEntry e < 2 ^ 50 then s else s.faultThr x E_FETCH_ADDR

/-- R152: the next entry of compute queue `q` starts on an EMPTY unreserved thread of the core chosen; which of its EMPTY
threads is the hub's choice, given with the command. -/
def execComputeEntryStart (q core thr : Nat) : State → Host.Outcome State Fault Refusal :=
  act (.computeEntryStart q core thr) fun s =>
    match s.nextStart q with
    | some e =>
      if s.ready && s.readyOn core q && s.queueFirst core q && (s.emptyThreads core false).contains thr then
        let s := (s.markStarted q e.seq).modCore core fun k => { k with lastQueue := q }
        s.startThread ⟨core, thr⟩ q e.seq e.e false
      else s
    | none => s

/-- R155: END: the work item completes with `E_OK` and the thread is EMPTY. The port has accepted every posted operation
of the thread, since each parks it until then (R159). -/
def semEnd (x : Tid) (i : Insn) (s : Dev) : Dev :=
  s.checked x (rFmt i false false false false 0) fun s =>
    (s.endItem x E_OK true).modThr x fun t => { epoch := t.epoch }

def execEndWork (x : Tid) (i : Insn) : State → Host.Outcome State Fault Refusal :=
  act (.endWork x i) fun s => s.issue x [] (semEnd x i)

/-! ### Legs (R530–R532, R544) -/

/-- R530: the gate word of the head leg of a group. -/
def Dev.gateWord (s : Dev) (g : Group) (e : Entry) : Option Word :=
  match place (ebytes e 32 8 + 8 * g.leg) with
  | .store c off =>
    if c = g.core ∧ ebytes e 32 8 % 8 = 0 ∧ off + 8 ≤ storeTop then some (BitVec.ofNat 64 (ofBytes (s.storeRead c off 8))) else none
  | _ => none

/-- R530: the target of a gate. -/
def gateTarget (w : Word) (inst : Word) : Word := inst * (fld w 32 32).setWidth 64 + (fld w 16 16).signExtend 64

/-- R530: the gate of the head leg holds. A gate table that is not in the bound core's store holds no gate word, and no leg
is dispatched by it. -/
def Dev.gateHolds (s : Dev) (g : Group) (e : Entry) : Bool :=
  match s.gateWord g e with
  | some w => w.getLsbD 8 || reached (s.ctr (g.cbase + fldN w 0 8)) (gateTarget w g.inst)
  | none => false

/-- The entry at the head of a group's queue, for which INST was raised. -/
def Dev.groupHead (s : Dev) (q : Nat) (g : Group) : Option QEntry :=
  match (s.queue q).entries with
  | e :: _ => if g.head = some e.seq then some e else none
  | [] => none

/-- R531: the head leg of the group of queue `q` may be dispatched on its core, but for a thread. An entry that has begun
runs on through a hold of its queue (R134, R549). -/
def Dev.legReady (s : Dev) (q : Nat) : Bool :=
  match s.group q with
  | none => false
  | some g =>
    match s.groupHead q g with
    | none => false
    | some e =>
      g.st != .aborted && !g.legRunning && g.raised.isNone && s.takesWork g.core && (!s.qHeld q || g.st == .running) && s.gateHolds g e.e

/-- R532: where the ready legs of a core outnumber its EMPTY reserved threads, PRIO and then the round-robin decide. -/
def Dev.legFirst (s : Dev) (q core : Nat) : Bool :=
  let l := (s.coll.groups.filter fun e => (e.2.map (·.core)) == some core && s.legReady e.1).map (·.1)
  decide (l.length ≤ (s.emptyThreads core true).length) || l.all fun k =>
    decide (s.qPrio k < s.qPrio q) || (s.qPrio k == s.qPrio q && decide (queueTurn s.coll.last q ≤ queueTurn s.coll.last k))

/-- R527, R531: dispatch the head leg of a group. -/
def Dev.dispatchLeg (s : Dev) (q thr : Nat) (g : Group) (e : QEntry) : Dev :=
  let s := s.markStarted q e.seq
  let s := s.modGroup q fun g => { g with st := .running, legRunning := true }
  let s := { s with coll := { s.coll with last := q } }
  let s := (s.group q).elim s fun g => s.writeGcb g 1 (g.leg == 0)
  s.startThread ⟨g.core, thr⟩ q e.seq e.e true

/-- R531, R532: the head leg of the group of queue `q` starts on an EMPTY reserved thread of its core. -/
def execLegDispatch (q thr : Nat) : State → Host.Outcome State Fault Refusal :=
  act (.legDispatch q thr) fun s =>
    match s.group q with
    | some g =>
      match s.groupHead q g with
      | some e =>
        if s.legReady q && s.legFirst q g.core && (s.emptyThreads g.core true).contains thr then s.dispatchLeg q thr g e else s
      | none => s
    | none => s

/-- R544, R549: the head leg stayed gated for its peer timeout; a gate that holds is dispatched instead. -/
def execPeerTimeout (q : Nat) : State → Host.Outcome State Fault Refusal :=
  act (.peerTimeout q) fun s =>
    match s.group q with
    | some g =>
      match s.groupHead q g with
      | some e =>
        match s.gateWord g e.e with
        | some w => if w.getLsbD 9 && !s.gateHolds g e.e && !g.legRunning && decide (g.st ≠ .aborted) then s.raiseGroup q E_COLL_PEER_TIMEOUT else s
        | none => s
      | none => s
    | none => s

end Sys2Proof.Machine
end

