-- ==== Sys2Proof/Machine/Coll.lean ====
section
/-! DEFINITION. The management commands of groups (R523–R528, R533, R575). -/

namespace Sys2Proof.Machine

/-- The operands of GROUP_CREATE (R575), and the group they describe. -/
def groupOf (s : Dev) (e : Entry) : Group :=
  let q := ebytes e 32 2
  let t := ebytes e 60 2
  { queue := q, group := s.qGroup q, core := s.qCore q, part := (s.qOwner q).getD 0, ctx := ebytes e 34 2, rank := ebytes e 36 2,
    p := ebytes e 38 2, mtab := BitVec.ofNat 64 (ebytes e 40 8), gcb := BitVec.ofNat 64 (ebytes e 48 8), cbase := ebytes e 56 2,
    ccount := ebytes e 58 2, timeout := if t = 0 then 20 else t, credits := ebytes e 62 1, st := .idle, inst := 0, head := none,
    leg := 0, legs := 0, legRunning := false, cause := E_OK, tokensIn := 0, gen := (s.ctx (ebytes e 34 2)).gen, destroying := none,
    raised := none }

/-- A range of memory lies in interleave sets of a partition. -/
def Dev.inSets (s : Dev) (part a n : Nat) : Bool :=
  match s.setAt a with
  | some (e, _) => e.owner == part && decide (a + n ≤ e.base + e.size)
  | none => false

/-- R443, R524, R528: the partition whose objects the issuer may name; the HFM may name any. -/
def Dev.mayName (s : Dev) (iss : Issuer) (part : Nat) : Bool := s.issHfm iss || s.issPart iss == some part

/-- R524, R525: the rules of the table, and the group's own entry of the member table. -/
def Dev.groupOk (s : Dev) (iss : Issuer) (g : Group) : Bool :=
  let part := s.qOwner g.queue
  part.isSome && s.mayName iss g.part && s.qType g.queue == 3 && (s.group g.queue).isNone &&
    s.ctxOpenFor g.ctx g.part && decide (g.rank < g.p) && decide (g.p ≤ 16384) &&
    g.mtab.toNat % 8 == 0 && s.inSets g.part g.mtab.toNat (8 * g.p) &&
    decide (16 ≤ g.ccount) && decide (g.ccount ≤ 256) && decide (g.cbase / 2048 = g.core) && decide ((g.cbase + g.ccount - 1) / 2048 = g.core) &&
    (match place g.gcb.toNat with
     | .store c off => c == g.core && off % 64 == 0 && decide (off + 64 ≤ storeTop)
     | _ => false) &&
    decide (8 ≤ g.credits) && decide (g.credits ≤ 64) && decide (g.timeout ≤ 1000) &&
    (let m := s.peek8 (g.mtab.toNat + 8 * g.rank)
     decide (m % 2 ^ 14 = s.devNum) && decide (m / 2 ^ 16 % 2 ^ 16 = g.cbase))

/-- Two counter ranges overlap. -/
def overlap (a n b m : Nat) : Bool := decide (a < b + m) && decide (b < a + n)

/-- R526: the range overlaps that of a group, or of one destroyed less than 10 ms earlier. -/
def Dev.rangeBusy (s : Dev) (g : Group) : Bool :=
  ((s.coll.groups.filterMap (·.2)).any fun k => overlap g.cbase g.ccount k.cbase k.ccount) ||
    s.coll.freed.any fun f => overlap g.cbase g.ccount f.1 f.2.1 && decide (s.clock < f.2.2 + 10)

/-- GROUP_CREATE (R524–R527, R533). -/
def Dev.mgGroupCreate (s : Dev) (e : Entry) (iss : Issuer) : Dev :=
  let g := groupOf s e
  if !s.groupOk iss g then s.answer iss E_COLL_GROUP_BAD
  else if s.rangeBusy g then s.answer iss E_COLL_RANGE_BUSY
  else if 192 < s.reservedEntries g.core + g.credits then s.answer iss E_COLL_CREDITS
  else
    let s := { s with
      coll := { s.coll with freed := s.coll.freed.filter fun f => decide (s.clock < f.2.2 + 10) }
      sync := s.sync.filter fun c => !(decide (g.cbase ≤ c.1) && decide (c.1 < g.cbase + g.ccount)) }
    let s := s.setGroup g.queue (some g)
    (s.writeGcb g 0 true).answer iss E_OK

/-- R528: the destruction of a group is asked for; it is freed once no leg of it runs (`freeGroups`). -/
def Dev.destroyGroup (s : Dev) (q : Nat) (wait : List Issuer) : Dev :=
  let s := s.raiseGroup q E_COLL_COMMAND
  s.modGroup q fun g => { g with destroying := some (g.destroying.getD [] ++ wait) }

/-- The group of the queue that a command names, where the issuer may name it. -/
def Dev.namedGroup (s : Dev) (e : Entry) (iss : Issuer) : Option Nat :=
  let q := ebytes e 32 2
  match s.group q with
  | some g => if s.mayName iss g.part then some q else none
  | none => none

/-- GROUP_DESTROY (R528). -/
def Dev.mgGroupDestroy (s : Dev) (e : Entry) (iss : Issuer) : Dev :=
  match s.namedGroup e iss with
  | some q => s.destroyGroup q [iss]
  | none => s.answer iss E_COLL_GROUP_BAD

/-- COLL_ABORT (R528): it completes once the group has aborted at this member, which is when this command settles. -/
def Dev.mgCollAbort (s : Dev) (e : Entry) (iss : Issuer) : Dev :=
  match s.namedGroup e iss with
  | some q =>
    let s := s.raiseGroup q E_COLL_COMMAND
    (Dev.abortLoop (s.coll.groups.length + 1) s).answer iss E_OK
  | none => s.answer iss E_COLL_GROUP_BAD

def execGroupCreate (q : Nat) : State → Host.Outcome State Fault Refusal :=
  act (.groupCreate q) fun s => s.runMgmt q 0x30 Dev.mgGroupCreate
def execGroupDestroy (q : Nat) : State → Host.Outcome State Fault Refusal :=
  act (.groupDestroy q) fun s => s.runMgmt q 0x31 Dev.mgGroupDestroy
def execCollAbort (q : Nat) : State → Host.Outcome State Fault Refusal :=
  act (.collAbort q) fun s => s.runMgmt q 0x32 Dev.mgCollAbort

end Sys2Proof.Machine
end

