-- ==== Sys2Proof/Machine/D2d.lean ====
section
/-! DEFINITION. The commands of the die-to-die links (R25, R33–R47, R53, R54). -/

namespace Sys2Proof.Machine

/-- R674: the mask bit of a link at a compute die: toward CD(n + 1), toward CD(n − 1), CD–HD. -/
def linkBit (n l : Nat) : Option Nat := if l = n then some 0 else if l = (n + 3) % 4 then some 1 else if l = 4 + n then some 2 else none

/-- The compute dies that send and receive in a direction of a CD–CD or CD–HD link. -/
def sendDie (l dir : Nat) : Option Nat := if 8 ≤ l then none else if dir = 0 then (linkDies l).1 else (linkDies l).2
def recvDie (l dir : Nat) : Option Nat := if 8 ≤ l then none else if dir = 0 then (linkDies l).2 else (linkDies l).1

/-- An event of a link at a compute die, where there is one. -/
def Dev.countLink (s : Dev) (die : Option Nat) (src l : Nat) : Dev :=
  die.elim s fun n => s.count (bankDie n) src 1 (linkBit n l)

/-- Deliver the flits that follow in order; `n` bounds how many. -/
def Rx.advance : Nat → Rx → Rx
  | 0, r => r
  | n + 1, r =>
    if r.held.any (·.1 == r.next) then
      Rx.advance n { r with delivered := r.delivered ++ [look 0 r.held r.next], held := drop r.held r.next, next := r.next + 1 }
    else r

/-- R25, R365: a flit arrives: exactly once, in order; one that fails its CRC is asked for again. -/
def Rx.receive (r : Rx) (seq : Nat) (ok : Bool) (flit : BitVec 1024) : Rx :=
  if !ok then { r with nakked := addNew r.nakked seq }
  else if seq < r.next then { r with nakked := r.nakked.filter (· ≠ seq) }
  else Rx.advance (r.held.length + 1) { r with held := insert r.held seq flit, nakked := r.nakked.filter (· ≠ seq) }

/-- R25: the sequence number was taken up before: the receiver delivered the flit or holds it. -/
def DLink.taken (k : DLink) (dir seq : Nat) : Bool := decide (seq < (k.rx dir).next) || (k.rx dir).held.any (·.1 == seq)

/-- R25: the sender holds the flit in its replay buffer, so that it arrives again. -/
def DLink.again (k : DLink) (dir seq : Nat) : Bool := (k.tx dir).any (·.1 == seq)

/-- R25: the flit that a sequence number carries: a replay carries what the sender's replay buffer holds, a flit taken up before
carries nothing new. -/
def DLink.content (k : DLink) (dir seq : Nat) (flit : BitVec 1024) : BitVec 1024 := if k.again dir seq then look 0 (k.tx dir) seq else flit

/-- R426: the sender has a credit for a flit that it sends for the first time. -/
def DLink.maySend (k : DLink) (l dir seq : Nat) : Bool := k.taken dir seq || k.again dir seq || decide (k.spent dir < d2dQuota l dir)

/-- R25: a flit arrives on a link: its sender keeps it until it is delivered. -/
def DLink.arrive (k : DLink) (dir seq : Nat) (ok : Bool) (flit : BitVec 1024) : DLink :=
  let k := if k.taken dir seq || k.again dir seq then k else k.sendFlit dir seq flit
  if k.taken dir seq then k
  else
    let r := (k.rx dir).receive seq ok (k.content dir seq flit)
    (k.setRx dir r).setTx dir ((k.tx dir).filter fun e => decide (r.next ≤ e.1))

/-- R26, R33: the bit errors of a flit are counted at the physical lanes that carry the logical lanes. Errors more than 1 ms
old no longer count. -/
def Bundle.countErrs (u : Bundle) (now : Nat) (errs : List Nat) : Bundle :=
  { u with errs := errs.foldl (fun m i => (laneOf u.mask i).elim m fun lane =>
      insert m lane (now :: (look [] m lane).filter fun t => decide (now ≤ t + 1))) u.errs }

/-- R33: a lane recorded more than 16 errors within 1 ms. -/
def Bundle.laneFails (u : Bundle) (now lane : Nat) : Bool :=
  decide (16 < ((look [] u.errs lane).filter fun t => decide (now ≤ t + 1)).length)

/-- R25: a flit arrives on a bundle; one that its sender sent before is a replay. -/
def Dev.d2dFlit (s : Dev) (l dir b seq : Nat) (ok : Bool) (errs : List Nat) (flit : BitVec 1024) : Dev :=
  let s := s.workFor 4 l
  let s := { s with fab := { s.fab with auditing := s.fab.auditing.filter (· ≠ .d2d l) } }
  let k := s.link l
  if (s.bundle l dir b).st ≠ .active ∨ s.linkQuiet l ∨ !k.maySend l dir seq then s
  else
    let replayed := k.taken dir seq || k.again dir seq
    let s := (s.countLink (sendDie l dir) 0x24 l).countLink (recvDie l dir) 0x25 l
    let s := s.when replayed fun s => s.countLink (sendDie l dir) 0x26 l
    let s := s.modLink l fun k => k.arrive dir seq ok flit
    let s := s.modBundle l dir b fun u =>
      { u.countErrs s.clock errs with
        crcErr := if ok then u.crcErr else sat16 u.crcErr
        replay := if replayed then sat16 u.replay else u.replay }
    if ok then s else s.out (.replay (.d2d l) dir seq)

def execD2dFlitReceive (link dir bundle seq : Nat) (chk : FlitCheck) (flit : BitVec 1024) :
    State → Host.Outcome State Fault Refusal :=
  act (.d2dFlitReceive link dir bundle seq chk flit) fun s => s.d2dFlit link dir bundle seq chk.crcOk chk.errs flit

/-- R47: the bundle trains in a renegotiation. -/
def Dev.renegotiating (s : Dev) (l dir b : Nat) : Bool :=
  match (s.link l).st with
  | .agreeing _ => (s.bundle l dir b).st == .training
  | _ => false

/-- R33, R47: the lane of the bundle is to be swapped: it is in use, and it recorded more than 16 errors within 1 ms, or the
bundle trains in a renegotiation. -/
def Dev.swapDue (s : Dev) (l dir b lane : Nat) : Bool :=
  let u := s.bundle l dir b
  u.mask.getLsbD lane && ((u.st == .active && u.laneFails s.clock lane) || s.renegotiating l dir b)

/-- R33: the flits in flight on a bundle that stops are replayed. -/
def Dev.loseFlits (s : Dev) (l dir : Nat) (flying : List (Nat × BitVec 1024)) : Dev := s.fold flying fun s e => s.loseFlit l dir e

def execLaneSwap (link dir bundle : Nat) (taken : LaneTaken) : State → Host.Outcome State Fault Refusal :=
  act (.laneSwap link dir bundle taken) fun s =>
    if s.swapDue link dir bundle taken.lane then ((s.swapLane link dir bundle taken.lane).loseFlits link dir taken.flying).restartAgree link
    else s

/-- R33: the bundle has retrained on its new mask. -/
def execLaneSwapDone (link dir bundle : Nat) : State → Host.Outcome State Fault Refusal :=
  act (.laneSwapDone link dir bundle) fun s =>
    if (s.bundle link dir bundle).st ≠ .swapping then s
    else s.modBundle link dir bundle fun u => { u with st := .active, crcErr := 0, replay := 0 }

/-- The compute dies of a link. -/
def diesOf (l : Nat) : List Nat := [(linkDies l).1, (linkDies l).2].filterMap id

/-- R36: a lane that fails the margin check in service is swapped. -/
def Dev.marginSwap (s : Dev) (l dir b lane : Nat) : Dev :=
  if (s.bundle l dir b).st = .disabled then s
  else (s.fold (diesOf l) fun s n => s.count (bankDie n) 0x82).swapLane l dir b lane

/-- R36, R55: the margin check in service, of class 2: the lanes in use that fail it are swapped. -/
def execLaneMarginLive (link dir bundle : Nat) (res : LaneMargins) : State → Host.Outcome State Fault Refusal :=
  act (.laneMarginLive link dir bundle res) fun s =>
    let u := s.bundle link dir bundle
    if s.boot.compatClass ≠ 2 ∨ u.st ≠ .active ∨ s.linkQuiet link then s
    else
      let s := s.fold (diesOf link) fun s n => s.count (bankDie n) 0x81
      match (List.range 68).filter fun i => res.failing.getLsbD i && u.mask.getLsbD i with
      | [] => s
      | lanes => (s.fold lanes fun s lane => s.marginSwap link dir bundle lane).loseFlits link dir res.flying

/-- R41: a CD–CD link went down or came back: requests between its dies wait for the old path to empty. -/
def execPathChange (link : Nat) (up : Bool) : State → Host.Outcome State Fault Refusal :=
  act (.pathChange link up) fun s =>
    let d := s.d2d
    if 4 ≤ link ∨ d.changing.contains link ∨ (s.link link).down = up ∨ d.viaHub.contains link = !up then s
    else { s with d2d := { d with changing := d.changing ++ [link] } }

/-- R41: accesses between the two dies of a link that are sent and not answered. -/
def Dev.crossing (s : Dev) (l : Nat) : Bool :=
  s.cores.any fun c => (s.pents c.1).any fun e =>
    e.2.sent && !e.2.remote && e.2.kind != .qpost &&
      ((s.unitOf e.2.pkt.addr.toNat).elim false fun u => linkBetween (c.1 / 8) u.1 == some l)

/-- R41: the old path is empty: requests issue on the new path. -/
def execPathChangeDone (link : Nat) : State → Host.Outcome State Fault Refusal :=
  act (.pathChangeDone link) fun s =>
    let d := s.d2d
    if !d.changing.contains link ∨ s.crossing link then s
    else
      { s with d2d := { d with
          changing := d.changing.filter (· ≠ link)
          viaHub := if d.viaHub.contains link then d.viaHub.filter (· ≠ link) else d.viaHub ++ [link] } }

/-- R53: RETRAIN is written: the link that `HUB.D2D_SEL` selects retrains. -/
def execD2dRetrain (port : Nat) : State → Host.Outcome State Fault Refusal :=
  act (.d2dRetrain port) fun s => s.retrainReq (fldN (s.hub 0x200) 0 8)

/-- R54: the compute die of a deferred retrain has been released. -/
def execD2dRetrainDeferredStart (link : Nat) : State → Host.Outcome State Fault Refusal :=
  act (.d2dRetrainDeferredStart link) fun s =>
    if (s.link link).st ≠ .deferred ∨ s.endInReset link ∨ s.d2dBusy then s else s.startRetrain link true

end Sys2Proof.Machine
end

