-- ==== Sys2Proof/Machine/Hbm.lean ====
section
/-! DEFINITION. The commands of the memory system (R321–R345, R357, R358): requests served by a channel, retraining, scrub,
migration, watchdogs. READOUT is with the copy engine (`Machine/Copy.lean`). -/

namespace Sys2Proof.Machine

/-- A channel is there: its stack is fitted and not lost. -/
def Dev.chanThere (s : Dev) (k : Nat) : Bool := s.stackFitted k && !s.boot.stacksLost.getLsbD k

/-- R90, R321: a request of one of the kinds is served; an idle-started scrub of the channel stops. -/
def Dev.serveWork (s : Dev) (k p i : Nat) (kinds : MKind → Bool) (f : Dev → MemReq → Dev) : Dev :=
  (s.when (!(s.chan k p).queue.isEmpty) (·.workFor 3 (32 * k + p))).serve k p i kinds f

def execRead (stack chan i : Nat) (ecc : EccFind) : State → Host.Outcome State Fault Refusal :=
  act (.read stack chan i ecc) fun s => s.serveWork stack chan i (· == .read) fun s r => s.doRead stack chan ecc r
def execWrite (stack chan i : Nat) (ecc : EccFind) : State → Host.Outcome State Fault Refusal :=
  act (.write stack chan i ecc) fun s => s.serveWork stack chan i (· == .write) fun s r => s.doWrite stack chan ecc r
def execAccum (stack chan i : Nat) (ecc : EccFind) : State → Host.Outcome State Fault Refusal :=
  act (.accum stack chan i ecc) fun s => s.serveWork stack chan i (· == .accum) fun s r => s.doAccum stack chan ecc r
def execAtomic (stack chan i : Nat) (ecc : EccFind) : State → Host.Outcome State Fault Refusal :=
  act (.atomic stack chan i ecc) fun s =>
    s.serveWork stack chan i (fun k => k == .fetchAdd || k == .swap || k == .compareSwap) fun s r => s.doAtomic stack chan ecc r

/-! ### MGMT and retraining (R321, R338–R341, R345) -/

/-- R352: a retrain of a channel under migration waits for its end. -/
def Dev.retrainOrWait (s : Dev) (k p : Nat) : Dev :=
  if (s.chan k p).st = .migrating then s.modChan k p fun c => { c with deferred := true } else s.retrainChan k p

/-- R321: what a MGMT request of the hub does. The pass of a scrub ends with SCRUB_PASS. -/
def Dev.mgmtDo (s : Dev) (k : Nat) (r : MgmtReq) : Dev :=
  match r with
  | .retrain p => if p < 31 then s.retrainOrWait k p else s
  | .scrub p => if p < 31 then s.modStk k fun b => { b with scrubs := addNew b.scrubs p } else s
  | .migrate p => if p < 31 then s.migrate k p else s
  | .steep l => s.modStk k fun b => { b with steep := min 15 l, steepAt := 10 * b.temp }
  | .selfRefresh on => s.modStk k fun b => { b with selfRefresh := on }

/-- R321: the base die acknowledges a MGMT request to the hub. -/
def Dev.mgmtAck (s : Dev) (k : Nat) : Dev := s.modStk k fun b => { b with mgmtAcks := b.mgmtAcks + 1 }

def Dev.mgmtReq (s : Dev) (k : Nat) (r : MgmtReq) : Dev :=
  if !s.chanThere k || (s.stk k).inReset then s else (s.mgmtDo k r).mgmtAck k

def execMgmt (stack : Nat) (r : MgmtReq) : State → Host.Outcome State Fault Refusal :=
  act (.mgmt stack r) fun s => s.mgmtReq stack r

/-- The next entry of the list of turns. -/
def Dev.nextTurn (s : Dev) : Dev :=
  { s with img := { s.img with turnAt := if s.img.turnAt + 1 < s.img.turns.length then s.img.turnAt + 1 else 0 } }

/-- R338, R341, R352, R613: the turn at which the list stands. A held turn, and those after it, wait for the end of the hold; one of
a stack in reset waits until the stack serves again. -/
def Dev.turn (s : Dev) : Dev :=
  match s.img.turns[s.img.turnAt]? with
  | none => s
  | some (k, p) =>
    if s.mem.held then s.modChan k p fun c => { c with deferred := true }
    else if (s.stk k).selfRefresh then s.nextTurn
    else if (s.stk k).inReset then s
    else
      let s := s.modChan k p fun c => { c with deferred := false }
      (s.retrainOrWait k p).nextTurn

def execRetrainTurn : State → Host.Outcome State Fault Refusal :=
  act .retrainTurn fun s => if s.ready ∧ s.pow.lat < 3 then s.turn else s

/-- R345: a retrain of a channel ended. Two failures in a row kill it. -/
def Dev.retrained (s : Dev) (k p : Nat) (ok : Bool) : Dev :=
  let c := s.chan k p
  if c.st ≠ .retraining then s
  else if ok then s.modChan k p fun c => { c with st := .active, retrainFails := 0 }
  else if 1 ≤ c.retrainFails then s.killChan k p
  else s.modChan k p fun c => { c with st := .active, retrainFails := c.retrainFails + 1 }

def execRetrainDone (stack chan : Nat) (ok : Bool) : State → Host.Outcome State Fault Refusal :=
  act (.retrainDone stack chan ok) fun s => s.retrained stack chan ok

/-- R341: a hold ends: the held turn runs, the ones after it at the rate of R338. -/
def Dev.holdEnd (s : Dev) : Dev :=
  if !s.mem.held then s
  else
    let s := { s with mem := { s.mem with held := false } }
    match s.img.turns[s.img.turnAt]? with
    | some (k, p) => if (s.chan k p).deferred && (s.chan k p).st != .migrating then s.turn else s
    | none => s

/-- R358: a write of `HUB.MEM_RETRAIN`. -/
def Dev.holdWrite (s : Dev) (v : Word) : Dev :=
  let h := fld v 0 16
  if h = 0 then ({ s with mem := { s.mem with hold := 0 } } : Dev).holdEnd
  else { s with mem := { s.mem with hold := h, held := true } }

def execMemRetrainHold (port : Nat) (v : Word) : State → Host.Outcome State Fault Refusal :=
  act (.memRetrainHold port v) fun s => s.holdWrite v
def execMemRetrainHoldEnd : State → Host.Outcome State Fault Refusal :=
  act .memRetrainHoldEnd fun s => s.holdEnd

/-! ### Scrub and migration (R337, R342–R345, R357) -/

/-- R334, R335, R337: what a scrub pass of a channel found: words corrected, and words uncorrectable by their number in the
channel. -/
def Dev.scrubbed (s : Dev) (k p corrected : Nat) (bad : List Nat) : Dev :=
  let c := s.chan k p
  if !s.chanThere k || c.st == .dead then s
  else
    let s := s.when (decide (0 < corrected)) fun s =>
      (s.modChan k p fun c => { c with ceTimes := List.replicate corrected s.clock ++ c.ceTimes }).count (bankStack k) 0x47 corrected
    s.fold (bad.filter fun w => decide (w < chanWords) && !s.poisoned k p w) fun s w =>
      (s.setPoison k p w true).logE E_MEM_UNCORR (32 * k + p)

/-- R321, R337: a pass ends, whether its turn of the day or the hub asked for it. -/
def Dev.scrubEnds (s : Dev) (k p : Nat) : Dev :=
  s.when ((s.stk k).scrubs.contains p) fun s => s.modStk k fun b => { b with scrubs := b.scrubs.filter (· ≠ p) }

def execScrubPass (stack chan : Nat) (corrected : Nat) (uncorrectable : List Nat) : State → Host.Outcome State Fault Refusal :=
  act (.scrubPass stack chan corrected uncorrectable) fun s => (s.scrubbed stack chan corrected uncorrectable).scrubEnds stack chan

/-- R342: a channel's corrected errors of the last hour reached the threshold. -/
def execMigrateThreshold (stack chan : Nat) : State → Host.Outcome State Fault Refusal :=
  act (.migrateThreshold stack chan) fun s =>
    if !s.chanThere stack || (s.chan stack chan).st == .migrating || s.ceHour stack chan < fldN (s.migCtl stack) 0 16 then s
    else s.migrate stack chan

/-- R560: a port serves a partition that owns a set on the stack. -/
def Dev.stackPortOk (s : Dev) (port k : Nat) : Bool :=
  match s.img.loaded with
  | none => true
  | some i => i.sets.any fun e => s.portOf e.owner == port && (s.chanList i e).any fun c => c.1 == k

/-- R357: START is written with a channel. -/
def Dev.migStartAt (s : Dev) (port k p : Nat) : Dev :=
  if !s.stackFitted k then s
  else if !s.stackPortOk port k then s.logE E_HOST_NOT_OWNER k
  else if !s.chanThere k || (s.stk k).migStart.isSome then s
  else
    let s := s.setReg (0x30 + k) 0x20 (at_ 0 (fldN (s.migCtl k) 0 16) ||| at_ 16 p) 0x200
    (s.modStk k fun b => { b with migStart := some p }).migrate k p

def execMigStart (port stack chan : Nat) : State → Host.Outcome State Fault Refusal :=
  act (.migStart port stack chan) fun s => if s.ready then s.migStartAt port stack chan else s

/-- R343: words that the copy found uncorrectable are poisoned. -/
def Dev.copiedBad (s : Dev) (k p : Nat) (bad : List Nat) : Dev :=
  s.fold (bad.filter fun w => decide (w < chanWords) && !s.poisoned k p w) fun s w =>
    (s.setPoison k p w true).logE E_MEM_UNCORR (32 * k + p)

/-- R343, R344: the copy of a migration has ended. One on a stack in reset has not (R613). -/
def execMigrateDone (fin : CopyEnd) : State → Host.Outcome State Fault Refusal :=
  act (.migrateDone fin) fun s =>
    match (if (s.stk fin.stack).inReset then none else (s.stk fin.stack).migrating) with
    | some (p, _) => (s.copiedBad fin.stack p fin.uncorrectable).toStandby fin.stack p
    | none => s

/-- R345: a request of a channel stayed unanswered for 20 µs. A window for a test of the channel pauses the watchdog (R91). -/
def Dev.cmdWatchdog (s : Dev) (k p : Nat) : Dev :=
  let c := s.chan k p
  if c.queue.isEmpty || c.st == .dead || (s.stk k).inReset || s.windowOpen 3 (32 * k + p) then s
  else
    let s := s.logE E_MEM_CMD_TIMEOUT (32 * k + p)
    if c.wdogAt.any fun t => decide (s.clock < t + 1000) then s.killChan k p
    else (s.modChan k p fun c => { c with wdogAt := some s.clock }).retrainOrWait k p

def execCmdWatchdog (stack chan : Nat) : State → Host.Outcome State Fault Refusal :=
  act (.cmdWatchdog stack chan) fun s => s.cmdWatchdog stack chan

end Sys2Proof.Machine
end

