-- ==== Sys2Proof/Machine/Optics.lean ====
section
/-! DEFINITION. The commands of the optical ports and engines (R366–R388, R397): laser inputs, wavelengths, training,
discovery, heartbeats, withdrawal. -/

namespace Sys2Proof.Machine

/-- The engine is there: fitted, not lost, calibrated, not fenced. -/
def Dev.engThere (s : Dev) (e : Nat) : Bool :=
  let g := s.eng e
  s.engFitted e && !s.boot.engsLost.getLsbD e && !g.fenced && g.calibrated

/-- The fibre pairs that an input feeds (R366). -/
def inputPairs (input : Nat) : List Nat := span (4 * input) 4
def Engine.input (g : Engine) (i : Nat) : InputSt := if i = 0 then g.inA else g.inB
def Engine.setInput (g : Engine) (i : Nat) (st : InputSt) (pwr : BitVec 8) : Engine :=
  if i = 0 then { g with inA := st, pwrA := pwr } else { g with inB := st, pwrB := pwr }
def Engine.power (g : Engine) (i : Nat) : BitVec 8 := if i = 0 then g.pwrA else g.pwrB
/-- R366: the calibrated level of an input. -/
def Engine.level (g : Engine) (i : Nat) : Int := if i = 0 then g.calA else g.calB
/-- R400: a power against the calibrated level, in 0.1 dB. A value beyond the 8-bit field reads as its nearest. -/
def Engine.against (g : Engine) (i : Nat) (pwr : Int) : BitVec 8 := BitVec.ofInt 8 (max (-128) (min 127 (pwr - g.level i)))
/-- R366: more than 1.5 dB, more than 3 dB, below the calibrated level. -/
def Engine.isLow (g : Engine) (i : Nat) (pwr : Int) : Bool := decide (pwr < g.level i - 15)
def Engine.isLost (g : Engine) (i : Nat) (pwr : Int) : Bool := decide (pwr < g.level i - 30)

/-! ### Laser supply (R366–R370) -/

/-- R366: an input more than 1.5 dB low. -/
def execLaserLow (eng input : Nat) (pwr : Int) : State → Host.Outcome State Fault Refusal :=
  act (.laserLow eng input pwr) fun s =>
    let g := s.eng eng
    if !s.engThere eng || g.input input != .ok || !g.isLow input pwr then s
    else (s.modEng eng fun g => { g.setInput input .low (g.against input pwr) with cause := E_ENG_LASER_LOW }).logE E_ENG_LASER_LOW eng

/-- R369: whether an engine of the port still transmits. Its receivers run on, and the port stays up (log entry 26). -/
def Dev.portDark (s : Dev) (p : Nat) : Dev := s.modFport p fun t => { t with dark := !((enginesOf p).any (s.engSends ·)) }

/-- R367, R369, R393: an input is lost. Its engine's unacknowledged flits are replayed on the engines that remain (R365). -/
def Dev.laserLost (s : Dev) (e i : Nat) (pwr : Int) : Dev :=
  let p := portOfEng e
  let s := s.modEng e fun g => { g.setInput i .lost (g.against i pwr) with cause := E_ENG_LASER_LOST }
  let s := s.fold (inputPairs i) fun s f => s.modFib e f fun b => { b with txLost := true, training := false }
  let s := s.when ((enginesOf p).any fun g => g != e && s.engSends g) fun s =>
    s.out (.laserNotice p e (BitVec.ofNat 8 (if i = 0 then 0x0F else 0xF0)))
  let s := s.replayPort p
  let s := s.logE E_ENG_LASER_LOST e
  let s := s.eventAll 8 E_ENG_LASER_LOST p (s.portStat p) (s.engStat e)
  (s.breakWhere (fun f => f.1 == e && (inputPairs i).contains f.2.1 && f.2.2 == 0) E_ENG_LASER_LOST).portDark p

def execLaserLost (eng input : Nat) (pwr : Int) : State → Host.Outcome State Fault Refusal :=
  act (.laserLost eng input pwr) fun s =>
    let g := s.eng eng
    if !s.engThere eng || g.input input == .lost || !g.isLost input pwr then s else s.laserLost eng input pwr

/-- R368: a silent fibre of the engine whose silence no notice explains. -/
def Dev.unexplained (s : Dev) (e : Nat) : Bool :=
  (List.range 8).any fun f => (s.fib e f).silent && !(s.fib e f).rxLost && !(s.fib e f).rxWithdrawn

/-- R368: the neighbour's transmitters that face these receivers have lost their light. A qualification window ends once every
silent fibre is explained. -/
def execLaserNotice (eng : Nat) (fibres : BitVec 8) : State → Host.Outcome State Fault Refusal :=
  act (.laserNotice eng fibres) fun s =>
    if !s.engThere eng then s
    else
      let s := s.fold ((List.range 8).filter (fibres.getLsbD ·)) fun s f => s.modFib eng f fun b => { b with rxLost := true }
      s.modEng eng fun g => { g with window := g.window && s.unexplained eng }

/-- R370: the power of an input is back within 1.5 dB of its calibrated level: a LOST one recalibrates, a LOW one is well
again. -/
def execLaserRecover (eng input : Nat) (pwr : Int) : State → Host.Outcome State Fault Refusal :=
  act (.laserRecover eng input pwr) fun s =>
    let g := s.eng eng
    if !s.engThere eng || g.isLow input pwr then s
    else match g.input input with
      | .lost => s.modEng eng fun g => g.setInput input .recalibrating (g.against input pwr)
      | .low => s.modEng eng fun g => g.setInput input .ok (g.against input pwr)
      | _ => s

/-- R397: a retrain of the engines of a port, which then compares again. Credits wait for the replay buffers (R427). -/
def Dev.retrainPort (s : Dev) (p : Nat) : Dev :=
  let s := s.modFport p fun t =>
    { t with st := if t.st = .up then .training else t.st, retrainBit := true, retrainDeferred := false, creditHeld := true
             nbrHeld := true }
  (s.trainPort p).trainEnd p

/-- R370, R393: the transmitters of an input are calibrated again; its fibre pairs train, and a deferred retrain of the port
runs once no input of it is lost. -/
def Dev.recalDone (s : Dev) (e i : Nat) : Dev :=
  let p := portOfEng e
  let s := s.modEng e fun g => g.setInput i .ok (g.power i)
  let s := s.fold (inputPairs i) fun s f => s.modFib e f fun b =>
    let b := { b with txLost := false }
    if s.canTrain e then b.train else b
  if (s.fport p).retrainDeferred && !((enginesOf p).any fun g => (s.eng g).laserLost) then s.retrainPort p else s

def execLaserRecalDone (eng input : Nat) : State → Host.Outcome State Fault Refusal :=
  act (.laserRecalDone eng input) fun s =>
    if !s.engThere eng || (s.eng eng).input input != .recalibrating then s else s.recalDone eng input

/-! ### Wavelengths (R371–R376) -/

def Fibre.setActive (f : Fibre) (dir : Nat) (v : BitVec 16) : Fibre := if dir = 0 then { f with active0 := v } else { f with active1 := v }
def Fibre.setFailed (f : Fibre) (dir : Nat) (v : BitVec 16) : Fibre := if dir = 0 then { f with failed0 := v } else { f with failed1 := v }
def Fibre.swapped (f : Fibre) (dir : Nat) : Fibre := if dir = 0 then { f with swaps0 := sat8 f.swaps0 } else { f with swaps1 := sat8 f.swaps1 }
/-- A wavelength has failed and carries no slot. -/
def Fibre.fail (f : Fibre) (dir lam : Nat) : Fibre :=
  (f.setFailed dir (setBit (f.failed dir) lam)).setActive dir (clearBit (f.active dir) lam)
/-- The wavelength carries a neighbour slot. -/
def Fibre.neighbour (f : Fibre) (dir lam : Nat) : Bool := (f.active dir).getLsbD lam && !(f.through dir).getLsbD lam

/-- A wavelength as event data: wavelength, fibre pair, direction. -/
def lambdaWord (l : LambdaRef) : Word := at_ 0 l.lam ||| at_ 8 l.fib ||| at_ 16 l.dir

/-- R374: a probe of the lowest free spare of a fibre adjusts its rings. An engine in a link reset holds them (R388). -/
def execContinuousCalibration (eng fib : Nat) : State → Host.Outcome State Fault Refusal :=
  act (.continuousCalibration eng fib) fun s =>
    if !s.engThere eng || (s.eng eng).inReset || ((s.fib eng fib).spares 0).isEmpty then s
    else s.modFib eng fib fun b => { b with probes := b.probes + 1 }

/-- R375, R376: a neighbour slot moves to the lowest free spare of its fibre, or is dropped; flits in flight are replayed. -/
def Dev.swapSlot (s : Dev) (l : LambdaRef) : Dev :=
  let f := s.fib l.eng l.fib
  if !f.neighbour l.dir l.lam then s
  else match f.spares l.dir with
    | n :: _ =>
      let s := s.modFib l.eng l.fib fun b =>
        let b := (b.fail l.dir l.lam).swapped l.dir
        b.setActive l.dir (setBit (b.active l.dir) n)
      (((s.count (bankEng l.eng) 0x66).out (.lambdaSwap l { l with lam := n })).replayPort (portOfEng l.eng)).repaired
        E_ENG_LAMBDA_SWAP l.eng (lambdaWord l)
    | [] => ((s.modFib l.eng l.fib fun b => b.fail l.dir l.lam).replayPort (portOfEng l.eng)).logE E_ENG_LAMBDA_LOST l.eng

/-- R375, R393: a failing neighbour slot. A test of its pair stops. -/
def execLambdaSwap (l : LambdaRef) : State → Host.Outcome State Fault Refusal :=
  act (.lambdaSwap l) fun s =>
    if !s.engThere l.eng || !(s.fib l.eng l.fib).neighbour l.dir l.lam then s else (s.stopTest 5 (8 * l.eng + l.fib)).swapSlot l

/-- The level of the through slot that the plan puts on a wavelength. -/
def Dev.throughLevel (s : Dev) (l : LambdaRef) : Option Nat :=
  ((s.img.loaded.map (·.fabric.through)).getD []).findSome? fun t => if t.1 = l then some t.2 else none

/-- R376: a through wavelength fails: where a circuit of its level starts or ends here, the end breaks it. -/
def Dev.throughFail (s : Dev) (l : LambdaRef) : Dev :=
  match s.throughLevel l with
  | none => s
  | some lvl =>
    let s := s.modFib l.eng l.fib fun b => b.setFailed l.dir (setBit (b.failed l.dir) l.lam)
    let ends := (List.range 16).filter fun n =>
      n % 2 + 1 == lvl && (s.ckt n).st != .notInPlan && (s.cktFibres n).contains (l.eng, l.fib, l.dir)
    let s := s.when (!ends.isEmpty) fun s =>
      (s.logE E_ENG_THROUGH_FAIL l.eng).modEng l.eng fun g => { g with cause := E_ENG_THROUGH_FAIL }
    s.fold ends fun s n => s.breakCkt n E_ENG_THROUGH_FAIL

def execThroughFail (l : LambdaRef) : State → Host.Outcome State Fault Refusal :=
  act (.throughFail l) fun s => if s.engThere l.eng then s.throughFail l else s

/-! ### Training and discovery (R378–R387) -/

/-- R365, R370: an engine of a port that no longer transmitted transmits again: the unacknowledged flits are replayed. -/
def Dev.lightBack (s : Dev) (p : Nat) : Dev := if (s.fport p).dark then (s.portDark p).replayPort p else s

/-- R378, R379, R401: a fibre pair has trained: slots that failed move to spares, the counters start again, IDENT is sent. -/
def Dev.pairTrained (s : Dev) (e f : Nat) (failed : List LambdaRef) : Dev :=
  let p := portOfEng e
  let s := s.modFib e f fun b =>
    { b with up := true, training := false, silent := false, rxLost := false, rxWithdrawn := false
             uncorr0 := 0, uncorr1 := 0, swaps0 := 0, swaps1 := 0 }
  let s := s.fold (failed.filter fun l => l.eng == e && l.fib == f) fun s l => s.swapSlot l
  let s := s.modEng e fun g => { g with linkFault := false, window := false, withdrawn := false }
  ((s.out (.ident p e f (s.identOf e f))).trainEnd p).lightBack p

/-- R370, R378: a pair that trains, or whose light the neighbour had lost, is up again. -/
def execFibrePairTrained (eng fib : Nat) (failed : List LambdaRef) : State → Host.Outcome State Fault Refusal :=
  act (.fibrePairTrained eng fib failed) fun s =>
    if s.canTrain eng && ((s.fib eng fib).training || ((s.fib eng fib).rxLost && !(s.fib eng fib).txLost))
    then s.pairTrained eng fib failed else s

/-- An IDENT is taken: the engine works, the port is not held withdrawn, and the device is neither withdrawing nor in a
device reset. -/
def Dev.hears (s : Dev) (e : Nat) : Bool :=
  s.canTrain e && !(s.fport (portOfEng e)).heldBySw && decide (s.rcv.phase < 4) && !s.inReset 6 0

/-- R381. -/
def execIdent (eng fib : Nat) (m : Ident) : State → Host.Outcome State Fault Refusal :=
  act (.ident eng fib m) fun s => if s.hears eng then s.heard eng fib m else s

/-- R379: every 1 s while the port is not up. -/
def execIdentResend (port : Nat) : State → Host.Outcome State Fault Refusal :=
  act (.identResend port) fun s => if (s.fport port).st == .up then s else s.sendIdents port

/-- R381 row 6: an expected neighbour sent no IDENT. Before the image has loaded the outcome waits for the plan. -/
def Dev.portMissing (s : Dev) (p : Nat) : Dev :=
  let t := s.fport p
  if t.nbr.isSome || t.st != .training then s
  else if s.img.loaded.isNone then s.modFport p fun t => { t with st := .noNeighbour }
  else if s.portUnused p then s.modFport p fun t => { t with st := .unused }
  else (s.modFport p fun t => { t with st := .noNeighbour, cause := E_PORT_MISSING }).logE E_PORT_MISSING p

def execPortMissing (port : Nat) : State → Host.Outcome State Fault Refusal :=
  act (.portMissing port) fun s => s.portMissing port

/-- R385: discovery again on all engines of a port. -/
def Dev.rediscover (s : Dev) (p : Nat) : Dev :=
  let s := (s.modFport p fun t => { t with discover := true }).fold (portPairs p) fun s e => s.modFib e.1 e.2 fun b => { b with ident := none }
  if (s.fport p).st == .up then s.sendIdents p else s.trainPort p

/-! ### Heartbeats (R368, R387) -/

/-- R368, R387: the heartbeat watchdog of a fibre expires: the pair retrains; where every fibre of the engine is silent,
the qualification window starts. A silence already explained is none. -/
def Dev.heartbeatLost (s : Dev) (e f : Nat) : Dev :=
  let b := s.fib e f
  if !b.up || b.silent || b.rxLost || b.rxWithdrawn || (s.eng e).withdrawn then s
  else
    let s := s.modFib e f fun b => { b.train with silent := true }
    if (List.range 8).all fun i => (s.fib e i).silent || !(s.fib e i).up then s.modEng e fun g => { g with window := true } else s

def execHeartbeatWdog (eng fib : Nat) : State → Host.Outcome State Fault Refusal :=
  act (.heartbeatWdog eng fib) fun s => if s.canTrain eng then s.heartbeatLost eng fib else s

/-- R368, R387: the window ends without a notice. -/
def execQualificationWindowEnd (eng : Nat) : State → Host.Outcome State Fault Refusal :=
  act (.qualificationWindowEnd eng) fun s =>
    if !(s.eng eng).window then s
    else ((s.modEng eng fun g => { g with window := false, linkFault := true, cause := E_PORT_LINK_FAULT }).replayPort
      (portOfEng eng)).portFault (portOfEng eng)

/-- R387, R393: training is tried again every 250 ms. -/
def execTrainingRetry (port : Nat) : State → Host.Outcome State Fault Refusal :=
  act (.trainingRetry port) fun s =>
    let t := s.fport port
    if (t.st == .linkFault || t.st == .noNeighbour || t.st == .withdrawn) && !t.heldBySw && decide (s.rcv.phase < 4)
    then s.trainPort port else s

/-- R385: a quarantined engine regains signal. -/
def execSignalRegain (eng : Nat) : State → Host.Outcome State Fault Refusal :=
  act (.signalRegain eng) fun s =>
    if s.canTrain eng && (s.fport (portOfEng eng)).st == .quarantined then s.rediscover (portOfEng eng) else s

/-- R365, R387: an idle control flit keeps a terminated fibre alive. -/
def execIdleControlFlit (eng fib : Nat) : State → Host.Outcome State Fault Refusal :=
  actIf (eng < 14 && fib < 8) fun s =>
    if s.canTrain eng && (s.fib eng fib).up && !(s.fib eng fib).txLost then
      ((s.count (bankEng eng) 0x65).modFib eng fib fun b => { b with idles := b.idles + 1 }).out (.idleFlit eng fib)
    else s

/-! ### Withdrawal and port control (R388, R389, R397) -/

/-- R368, R388, R389: a WITHDRAW of the neighbour names engines of a port. Their pairs train when the neighbour does. -/
def Dev.withdrawn (s : Dev) (p : Nat) (engines : BitVec 3) : Dev :=
  let es := (enginesOf p).filter fun e => engines.getLsbD (engPos e) && s.canTrain e
  let s := s.fold es fun s e =>
    (s.fold (List.range 8) fun s f => s.modFib e f fun b => { b.train with rxWithdrawn := true }).modEng e fun g =>
      { g with withdrawn := true, window := false, linkFault := false }
  (s.replayPort p).portWithdrawn p

def execWithdraw (port : Nat) (engines : BitVec 3) : State → Host.Outcome State Fault Refusal :=
  act (.withdraw port engines) fun s => s.withdrawn port engines

/-- The port that `HUB.PORT_SEL` selects, where there is one with engines. -/
def Dev.portSel (s : Dev) : Option Nat :=
  let p := fldN (s.hub 0x500) 0 3
  if 6 ≤ p ∨ (s.fport p).st = .absent ∨ (enginesOf p).all (fun e => !s.engFitted e) then none else some p

/-- RETRAIN is written (R393, R397). -/
def Dev.ctlRetrain (s : Dev) (p : Nat) : Dev :=
  if (s.fport p).heldBySw then s
  else if (enginesOf p).any fun e => (s.eng e).laserLost then
    s.modFport p fun t => { t with retrainBit := true, retrainDeferred := true }
  else s.retrainPort p

/-- REDISCOVER is written (R385, R397). -/
def Dev.ctlRediscover (s : Dev) (p : Nat) : Dev :=
  if (s.fport p).heldBySw then s else (s.modFport p fun t => { t with rediscoverBit := true }).rediscover p

/-- WITHDRAW is written (R397). -/
def Dev.ctlWithdraw (s : Dev) (p : Nat) : Dev :=
  if (s.fport p).heldBySw then s else (s.withdrawOwn p).modFport p fun t => { t with heldBySw := true, retrainBit := false, restoreBit := false }

/-- RESTORE is written (R397): a withdrawal ends. -/
def Dev.ctlRestore (s : Dev) (p : Nat) : Dev :=
  if (s.fport p).st ≠ .withdrawn ∨ 4 ≤ s.rcv.phase then s
  else ((s.modFport p fun t => { t with heldBySw := false, restoreBit := true, st := .training }).trainPort p).trainEnd p

/-- LOCATE is written (R397). -/
def Dev.ctlLocate (s : Dev) (p : Nat) (on : Bool) : Dev := s.modFport p fun t => { t with locate := on }

def execPortRetrain : State → Host.Outcome State Fault Refusal :=
  act .portRetrain fun s => s.portSel.elim s fun p => s.ctlRetrain p
def execPortRediscover : State → Host.Outcome State Fault Refusal :=
  act .portRediscover fun s => s.portSel.elim s fun p => s.ctlRediscover p
def execPortWithdraw : State → Host.Outcome State Fault Refusal :=
  act .portWithdraw fun s => s.portSel.elim s fun p => s.ctlWithdraw p
def execPortRestore : State → Host.Outcome State Fault Refusal :=
  act .portRestore fun s => s.portSel.elim s fun p => s.ctlRestore p
def execPortLocate (on : Bool) : State → Host.Outcome State Fault Refusal :=
  act (.portLocate on) fun s => s.portSel.elim s fun p => s.ctlLocate p on

end Sys2Proof.Machine
end

