-- ==== Sys2Proof/Machine/Drain.lean ====
section
/-! DEFINITION. The attention drain (R391, R392, R398, R399, R507). -/

namespace Sys2Proof.Machine

/-- The device takes presses now: ready and not in a device reset. Others are held until step 10 (R66). -/
def Dev.takesPress (s : Dev) : Bool := s.ready && !s.inReset 6 0

/-- R391: a press is reported to every partition. -/
def Dev.pressEvent (s : Dev) (code : Code) : Dev := s.eventAll 3 code 0 s.attnStat

/-- R391: a drain begins in phase 1. -/
def Dev.drainStart (s : Dev) : Dev :=
  ({ s with rcv := { s.rcv with
    phase := 1, forced := false, blocked := false, drainCode := E_OK, releaseBit := false, cancelBit := false, pressMs := s.clock } } : Dev).pressEvent E_OK

/-- R392: a drain in phase 1 or 2 is cancelled. -/
def Dev.drainCancel (s : Dev) : Dev := { s with rcv := { s.rcv with phase := 0 } }

/-- R391, R392, R647: a press. -/
def Dev.press (s : Dev) : Dev :=
  let s := s.wakeEvent
  if !s.takesPress then { s with boot := { s.boot with attnHeld := true } }
  else if s.rcv.phase = 0 then s.drainStart
  else
    let s := s.pressEvent E_OK
    if s.rcv.phase < 3 then s.drainCancel else s

def execAttnPress : State → Host.Outcome State Fault Refusal := act .attnPress fun s => if s.pinsTaken then s else s.press

/-- R392: a forced press: phase 3 at once. -/
def execAttnForced : State → Host.Outcome State Fault Refusal :=
  act .attnForced fun s =>
    if s.pinsTaken then s
    else if !s.takesPress then { s with boot := { s.boot with attnHeld := true } }
    else
      let s := s.wakeEvent.pressEvent E_ATTN_FORCED
      if 3 ≤ s.rcv.phase then s
      else
        let s := (s.logE E_ATTN_FORCED 0).drainNow E_ATTN_FORCED
        { s with rcv := { s.rcv with forced := true } }

/-- R399: RELEASE is written. -/
def Dev.attnRelease (s : Dev) : Dev := if s.rcv.phase = 2 then { s with rcv := { s.rcv with phase := 3, releaseBit := true } } else s
/-- R399: CANCEL is written. -/
def Dev.attnCancel (s : Dev) : Dev :=
  if s.rcv.phase = 1 ∨ s.rcv.phase = 2 then
    let s := s.drainCancel
    { s with rcv := { s.rcv with cancelBit := true } }
  else s

def execAttnRelease : State → Host.Outcome State Fault Refusal := act .attnRelease fun s => s.attnRelease
def execAttnCancel : State → Host.Outcome State Fault Refusal := act .attnCancel fun s => s.attnCancel

/-- R391: the release limit has passed; the device keeps waiting. -/
def execAttnBlocked : State → Host.Outcome State Fault Refusal :=
  act .attnBlocked fun s =>
    if s.rcv.phase ≠ 2 ∨ s.rcv.blocked then s
    else ({ s with rcv := { s.rcv with blocked := true, drainCode := E_ATTN_BLOCKED } } : Dev).logE E_ATTN_BLOCKED 0

/-- Threads that run a work item outside groups. -/
def Dev.busyTids (s : Dev) : List Tid :=
  s.cores.flatMap fun c => c.2.threads.filterMap fun t =>
    match t.2.work with
    | some w => if w.leg then none else some ⟨c.1, t.1⟩
    | none => none

/-- A running instance of a group. -/
def Dev.runningGroups (s : Dev) : List Nat := s.coll.groups.filterMap fun e => e.2.bind fun g => if g.st = .running then some e.1 else none

/-- R391: work still running ends with a code: work items, instances, copies. -/
def Dev.endWork (s : Dev) (code : Code) : Dev :=
  let s := s.fold s.busyTids fun s x => s.beginReset x code code
  let s := s.fold s.runningGroups fun s q => s.raiseGroup q code
  s.fold s.copy.runs fun s r => r.2.elim s fun run => (s.setRun r.1 none).complete run.queue run.seq code

/-- R391: work is running. -/
def Dev.working (s : Dev) : Bool :=
  !s.busyTids.isEmpty || !s.runningGroups.isEmpty || s.copy.runs.any (·.2.isSome) || !(s.coll.groups.all fun e => !((e.2.map (·.legRunning)).getD false))

def execAttnDrain : State → Host.Outcome State Fault Refusal :=
  act .attnDrain fun s =>
    if s.rcv.phase ≠ 3 ∨ !s.working then s
    else
      let s := (s.logE E_ATTN_DRAIN 0).endWork E_ATTN_DRAIN
      { s with rcv := { s.rcv with drainCode := E_ATTN_DRAIN } }

/-- R391: a posted operation that a port has accepted and that no acknowledgement has settled. -/
def Dev.posting (s : Dev) : Bool :=
  s.cores.any fun c => (s.pents c.1).any fun e => e.2.accepted && (match e.2.kind with
    | .posted | .mracc _ _ _ => true
    | _ => false)

/-- R391 phase 4, R409, R414, R507: combining entries are flushed, circuits through the device get BREAK, its own break, and
every port withdraws. -/
def execAttnQuiesceDone : State → Host.Outcome State Fault Refusal :=
  act .attnQuiesceDone fun s =>
    if s.rcv.phase ≠ 3 ∨ s.working ∨ s.posting then s
    else
      let s := s.closeCombining
      let s := (s.breakAll false).breakAll true
      let s := { s with rcv := { s.rcv with phase := 4 } }
      let s := s.breakWhere (fun _ => true) E_ATTN_DRAIN
      s.fold ((List.range 6).filter fun p => (s.fport p).st != .absent && (s.fport p).st != .unused) fun s p => s.withdrawOwn p

/-- R391 phase 5: transmitters off, safe to remove. The combining responses have come or are given up (R507), and the
through wavelengths are detuned. -/
def execAttnSafe : State → Host.Outcome State Fault Refusal :=
  act .attnSafe fun s =>
    if s.rcv.phase ≠ 4 ∨ s.combWaiting ∨ s.fab.detuning then s
    else
      let s := s.fold (List.range 14) fun s e =>
        (s.fold (List.range 8) fun s f => s.modFib e f fun b => { b with up := false, training := false }).modEng e fun g =>
          { g with txOff := true }
      { s with rcv := { s.rcv with phase := 5, safe := true } }

end Sys2Proof.Machine
end

