-- ==== Sys2Proof/Machine/Fabric.lean ====
section
/-! DEFINITION. The commands of the fabric (R365, R414–R431, R436): flits and packets that arrive, credits, circuits that
break and return, packets held at a segment, audits, route queries. -/

namespace Sys2Proof.Machine

/-! ### Flits and packets (R365, R421, R422, R429) -/

/-- R365: a flit arrives at a port: exactly once, in order; one that fails its CRC is asked for again. A test of the port's
pairs that was started on idleness stops (R90); an audit of the link is abandoned (R428). It came by fibre pair `pair` of the
port, whose engine counts it; `symbols` RS symbols were corrected in it (R676 source 0x63). -/
def Dev.portFlit (s : Dev) (p pair seq symbols : Nat) (ok : Bool) (flit : BitVec 1024) : Dev :=
  match (portPairs p)[pair]? with
  | none => s
  | some (e, f) =>
  if (s.fport p).st ≠ .up then s
  else
    let s := s.fold (portPairs p) fun s e => s.workFor 5 (8 * e.1 + e.2)
    let s := { s with fab := { s.fab with auditing := s.fab.auditing.filter (· ≠ LinkRef.port p) } }
    let s := (s.modFport p fun t => { t with rx := t.rx.receive seq ok flit }).count (bankEng e) 0x61
    let s := s.when (decide (0 < symbols)) (·.count (bankEng e) 0x63 symbols)
    if ok then s
    else
      let s := s.modFib e f fun b => { b with uncorr1 := sat8 b.uncorr1 }
      ((s.countPort p 0x62 1).count (bankEng e) 0x64).out (.replay (.port p) 0 seq)

def execPortFlitReceive (port seq : Nat) (rd : PairRead) (crcOk : Bool) (flit : BitVec 1024) : State → Host.Outcome State Fault Refusal :=
  act (.portFlitReceive port seq rd crcOk flit) fun s => s.portFlit port rd.pair seq rd.symbols crcOk flit

/-- R421: a packet of a kind whose loss is reported to its source; the others are answers themselves. -/
def needsNotice (k : PKind) : Bool :=
  match k with
  | .response | .nack | .hold | .release => false
  | _ => true

/-- R421: a packet without a segment is discarded; its source is told, unless it is itself an answer. -/
def Dev.dropNoRoute (s : Dev) (p : Packet) (code : Code) : Dev :=
  let s := ({ s with fab := { s.fab with noRoute := sat16 s.fab.noRoute } } : Dev).freeInput p
  if needsNotice p.kind then s.answerPkt p [] 0 code else s

/-- R422, R502: a packet goes on at this hub; one of the accumulate channel passes the hub's combining. -/
def Dev.forward (s : Dev) (p : Packet) : Dev :=
  match s.next p (s.startOf p) with
  | .here => s.sink p
  | _ =>
    let s := s.count bankHub 0xC3 1 none none (some p.vc)
    if p.vc = 2 then
      let r := s.combine (offInput p) (s.outFlits p)
      if r.2 then r.1.send p else r.1.freeInput p
    else s.send p

/-- R429, R431: a packet that came in by a trunk returns to the channel of its kind and takes a route of this hub. -/
def Dev.fromTrunk (s : Dev) (p : Packet) : Dev :=
  let vc := vcOfKind p.kind
  match s.routeFor vc p.dstDom p.dstDev p.srcDev p.job with
  | .error c => s.dropNoRoute p c
  | .ok r => s.forward { p with vc, cls := 0, route := r }

/-- R416: a packet that came on a circuit ended here, or on its fallback path, is taken only as the next expected one. -/
def Dev.inOrder (s : Dev) (via : LinkRef) (seq : Nat) : Bool :=
  match via with
  | .circuit c => seq == (s.ckt c).expect
  | _ => true

/-- R416, R422, R429: a packet comes in by a link and takes its input buffer there (R425). One that is not the next of its
circuit is not placed: an earlier one has been accepted before, a later one waits for those before it. -/
def Dev.comeIn (s : Dev) (p : Packet) (via : LinkRef) (seq : Nat) : Dev :=
  if s.img.loaded.isNone || !s.inOrder via seq then s
  else
    let p := { p with inp := some (via, p.vc, p.cls) }
    match via with
    | .circuit c => (s.modCkt c fun k => { k with expect := k.expect + 1 }).forward p
    | _ => if isTrunk via then s.fromTrunk p else s.forward p

def execPacketForward (p : Packet) (came : CameBy) : State → Host.Outcome State Fault Refusal :=
  act (.packetForward p came) fun s => s.comeIn p came.via came.seq

/-- The next segment of a packet can be used. -/
def Dev.nextUsable (s : Dev) (p : Packet) : Bool :=
  match s.next p (s.startOf p) with
  | .here => true
  | .noTrunk => false
  | .seg l _ _ => s.segUsable l

def Dev.dropHeld (s : Dev) (i : Nat) : Dev := { s with fab := { s.fab with held := dropAt s.fab.held i } }

/-- R421: the segment of a held packet did not return within 20 µs. -/
def execNoRouteHold (i : Nat) : State → Host.Outcome State Fault Refusal :=
  act (.noRouteHold i) fun s =>
    match s.fab.held[i]? with
    | some p => if s.nextUsable p then s else (s.dropHeld i).dropNoRoute p E_FAB_NO_ROUTE
    | none => s

/-- R421: the segment of a held packet returned. -/
def execSegmentReturn (i : Nat) : State → Host.Outcome State Fault Refusal :=
  act (.segmentReturn i) fun s =>
    match s.fab.held[i]? with
    | some p => if s.nextUsable p then (s.dropHeld i).send p else s
    | none => s

/-! ### Credits and acknowledgements (R416, R425–R427) -/

/-- R416: the far end has taken `n` more flits of a circuit: the oldest packets they cover need no resending. -/
def ackFlits : Nat → List (Nat × Packet) → List (Nat × Packet)
  | _, [] => []
  | n, e :: l => if flits e.2 ≤ n then ackFlits (n - flits e.2) l else e :: l

/-- R365: the neighbour has taken `n` more flits of a port: the oldest packets they cover leave the replay buffer. -/
def ackPackets : Nat → List Packet → List Packet
  | _, [] => []
  | n, p :: l => if flits p ≤ n then ackPackets (n - flits p) l else p :: l

/-- R24: the hub, the second named unit of the links to compute dies and engines, sends in direction 1. -/
def senderOne (l : Nat) : Bool := decide (4 ≤ l) && decide (l < 0x16)

/-- R416, R425: credits return; those of a D2D link are not told apart by channel (log entry 52); on a circuit the acknowledgements come with them. -/
def Dev.linkCredit (s : Dev) (l : LinkRef) (vc : Nat) (cls : BitVec 4) (n : Nat) : Dev :=
  match l with
  | .circuit c => (s.giveBack l vc cls n).modCkt c fun k => { k with unacked := ackFlits n k.unacked }
  | .d2d k => s.modLink k fun d =>
    let a := if senderOne k then 0 else min n d.spent0
    { d with spent0 := d.spent0 - a, spent1 := d.spent1 - (n - a) }
  | .port p => (s.giveBack l vc cls n).modFport p fun t => { t with unacked := ackPackets n t.unacked }

def execLinkCredit (link : LinkRef) (vc : Nat) (cls : BitVec 4) (n : Nat) : State → Host.Outcome State Fault Refusal :=
  act (.linkCredit link vc cls n) fun s => s.linkCredit link vc cls n

/-- A receiver has no flit left to replay. -/
def Rx.quiet (r : Rx) : Bool := r.held.isEmpty && r.nakked.isEmpty

/-- R37, R427: after a retrain a receiver returns its full quota once every flit in the replay buffer has been delivered: of a
port, the device's own receiver (direction 0) and the neighbour's (direction 1, whose quota is then whole for this sender); of a
D2D link, the receiver of each direction. -/
def Dev.creditReturn (s : Dev) (l : LinkRef) (dir : Nat) : Dev :=
  match l with
  | .port p =>
    let t := s.fport p
    if dir = 0 then (if t.creditHeld && t.rx.quiet then (s.modFport p fun t => { t with creditHeld := false }).out (.quota l 0) else s)
    else if t.nbrHeld && t.unacked.isEmpty then (s.modFport p fun t => { t with nbrHeld := false }).fullQuota l
    else s
  | .d2d k =>
    let d := s.link k
    if d.credHeld dir && (d.tx dir).isEmpty then
      (s.modLink k fun d => (d.hold dir false).setSpent dir 0).out (.quota l dir)
    else s
  | .circuit _ => s

def execCreditReturnAfterRetrain (link : LinkRef) (dir : Nat) : State → Host.Outcome State Fault Refusal :=
  act (.creditReturnAfterRetrain link dir) fun s => s.creditReturn link dir

/-! ### Circuits (R414–R417) -/

/-- R414, R432: a BREAK notice. -/
def execBreakNotice (ckt : Nat) : State → Host.Outcome State Fault Refusal :=
  act (.breakNotice ckt) fun s => s.breakCkt ckt E_FAB_CKT_BREAK

/-- R414: the heartbeat watchdog of a circuit that is in use. -/
def execCircuitHeartbeatWdog (ckt : Nat) : State → Host.Outcome State Fault Refusal :=
  act (.circuitHeartbeatWdog ckt) fun s =>
    if (s.ckt ckt).st = .up ∨ (s.ckt ckt).st = .returning then s.breakCkt ckt E_FAB_CKT_BREAK else s

/-- R384, R409, R414: 5 µs after BREAK the engines that stop passing light are detuned. -/
def Dev.detuneNow (s : Dev) : Dev :=
  let s := s.fold ((List.range 12).filter (s.mustDetune ·)) fun s e => s.modEng e fun g => { g with detuned := true, passing := false }
  { s with fab := { s.fab with detuning := false } }

def execDetune : State → Host.Outcome State Fault Refusal :=
  act .detune fun s => if s.fab.detuning then s.detuneNow else s

/-- The fibres of a circuit carry its light at this end. -/
def Dev.cktLit (s : Dev) (n : Nat) : Bool :=
  (s.cktFibres n).all fun f =>
    let g := s.eng f.1
    s.engThere f.1 && !g.inReset && !g.detuned && !g.txOff && (f.2.2 == 1 || !(s.fib f.1 f.2.1).txLost) &&
      (s.fport (portOfEng f.1)).st != .quarantined

/-- R416, R417: both ends have seen the circuit's wavelengths clean for 100 ms. A circuit that trained comes up. A broken one
is up at the end that receives; the launching end returns once every fallback flit is acknowledged. -/
def Dev.cktRestore (s : Dev) (n : Nat) : Dev :=
  let c := s.ckt n
  if !s.cktLit n then s
  else match c.st with
    | .training => s.modCkt n fun k => { k with st := .up }
    | .broken =>
      if n < 8 then s.modCkt n fun k => { k with st := .returning }
      else (s.modCkt n fun k => { k with st := .up }).logE E_FAB_CKT_RESTORE n
    | _ => s

def execCircuitRestore (ckt : Nat) : State → Host.Outcome State Fault Refusal :=
  act (.circuitRestore ckt) fun s => s.cktRestore ckt

/-- R417: the launching hub returns to its circuit. -/
def execCircuitReturn (ckt : Nat) : State → Host.Outcome State Fault Refusal :=
  act (.circuitReturn ckt) fun s =>
    if (s.ckt ckt).st = .returning ∧ (s.ckt ckt).unacked = [] then
      (s.modCkt ckt fun k => { k with st := .up }).logE E_FAB_CKT_RESTORE ckt
    else s

/-! ### Credit audits (R428) -/

/-- The link is in service. -/
def Dev.linkServes (s : Dev) (l : LinkRef) : Bool :=
  match l with
  | .port p => (s.fport p).st == .up
  | .circuit c => (s.ckt c).st == .up
  | .d2d k => s.linkFitted k && !s.linkQuiet k

/-- What this end says in an AUDIT: the credits it holds of each VC and class, keyed 16 × VC + class, and, under 96, of the
shared pool. -/
def Dev.auditOwn (s : Dev) (l : LinkRef) : List (Nat × Nat) :=
  match l with
  | .d2d k => [0, 1].map fun dir => (dir, d2dQuota k dir - (s.link k).spent dir)
  | _ => (List.range 96).map (fun k => (k, 8 - (s.cred l (k / 16) (BitVec.ofNat 4 k)).reserved)) ++ [(96, sharedPool l - s.sharedUsed l)]

/-- LAST_KIND and LAST_INDEX of a link (R437). -/
def auditKind : LinkRef → Nat
  | .port _ => 0
  | .circuit _ => 1
  | .d2d _ => 2
def auditIndex : LinkRef → Nat
  | .port p => p
  | .circuit c => c
  | .d2d l => l

def Dev.endAudit (s : Dev) (l : LinkRef) : Dev := { s with fab := { s.fab with auditing := s.fab.auditing.filter (· ≠ l) } }

/-- This end sends AUDIT. -/
def Dev.sendAudit (s : Dev) (l : LinkRef) : Dev :=
  ({ s with fab := { s.fab with auditing := addNew s.fab.auditing l, audited := (l, s.clock) :: s.fab.audited.filter (·.1 ≠ l) } } : Dev).out
    (.audit l (s.auditOwn l))

/-- R428: a link that is in service, is not under audit and was not audited in this millisecond may be audited. -/
def Dev.mayAudit (s : Dev) (l : LinkRef) : Bool :=
  s.linkServes l && !s.fab.auditing.contains l && !s.fab.audited.contains (l, s.clock)

def execCreditAudit (link : LinkRef) : State → Host.Outcome State Fault Refusal :=
  act (.creditAudit link) fun s => if s.mayAudit link then s.sendAudit link else s

/-- A link retrains after a mismatch, which restores its quotas (R427). -/
def Dev.auditRetrain (s : Dev) (l : LinkRef) : Dev :=
  match l with
  | .port p => s.retrainPort p
  | .circuit c => s.breakCkt c E_FAB_CREDIT_AUDIT
  | .d2d k => s.startRetrain k false

/-- R428, R437: the two ends' counts are compared. -/
def Dev.auditCompare (s : Dev) (l : LinkRef) (peer : List (Nat × Nat)) : Dev :=
  let same := (s.auditOwn l).all fun e => peer.contains e
  let s := (s.endAudit l)
  let s := { s with fab := { s.fab with audits := s.fab.audits + 1 } }
  if same then s
  else
    let s := { s with fab := { s.fab with mismatches := sat16 s.fab.mismatches, auditKind := auditKind l, auditIndex := auditIndex l } }
    ((s.logE E_FAB_CREDIT_AUDIT (linkKey l)).eventAll 8 E_FAB_CREDIT_AUDIT (linkKey l)).auditRetrain l

/-- The other end's AUDIT: this end answers with its own. With flits of this end in flight the audit is abandoned. -/
def Dev.auditHeard (s : Dev) (l : LinkRef) (peer : List (Nat × Nat)) : Dev :=
  if s.fab.auditing.contains l then s.auditCompare l peer
  else if !s.linkServes l || s.fab.credits.any (fun e => e.1 / 96 == linkKey l) then s
  else (s.sendAudit l).auditCompare l peer

def execAudit (link : LinkRef) (peer : List (Nat × Nat)) : State → Host.Outcome State Fault Refusal :=
  act (.audit link peer) fun s => s.auditHeard link peer

/-! ### Route query (R436) -/

/-- `HUB.ROUTE_QUERY` is written. -/
def Dev.routeAsk (s : Dev) (v : Word) : Dev :=
  { s with fab := { s.fab with query := fld v 0 14, result := s.routeResult (fldN v 0 14) } }

def execRouteQuery (port : Nat) (v : Word) : State → Host.Outcome State Fault Refusal :=
  act (.routeQuery port v) fun s => s.routeAsk v

end Sys2Proof.Machine
end

