-- ==== Sys2Proof/Machine/TestCmds.lean ====
section
/-! DEFINITION. The commands of tests during work (R87–R98): requests, grants, starts, ends. -/

namespace Sys2Proof.Machine

/-! ### Requests (R87, R94, R95) -/

/-- R94, R95: a write of `HUB.TEST_REQ`. DESIGN CHOICE (log entry 53): before step 10 no unit is known to be present, and a
request is dropped with `E_TEST_DROPPED`. -/
def Dev.testReqWrite (s : Dev) (v : Word) : Dev :=
  let kind := fldN v 0 3
  let unit := fldN v 8 10
  if s.ready && s.testUnit kind unit then s.testAsk kind unit else s.logE E_TEST_DROPPED unit

def execTestReq (port : Nat) (v : Word) : State → Host.Outcome State Fault Refusal :=
  act (.testReq port v) fun s => s.testReqWrite v

/-- R93: an issuer owns the unit: a partition its own, the HFM those of the hub. -/
def Dev.testIssuerOwns (s : Dev) (iss : Issuer) (kind unit : Nat) : Bool :=
  if kind = 4 ∨ kind = 5 then s.issHfm iss
  else match s.issPart iss with
    | some n => s.testOwnedBy kind unit n
    | none => true

/-- R575 TEST_REQ: the HFM may ask for a test of any unit, a partition for those it owns. -/
def Dev.mgTestReq (s : Dev) (e : Entry) (iss : Issuer) : Dev :=
  let kind := ebytes e 32 1
  let unit := ebytes e 34 2
  if kind = 0 ∨ 5 < kind then s.answer iss E_MGMT_OPERAND
  else if !s.testUnit kind unit then (s.logE E_TEST_DROPPED unit).answer iss E_TEST_DROPPED
  else if !s.issHfm iss && !s.testIssuerOwns iss kind unit then s.answer iss E_MGMT_OPERAND
  else (s.testAsk kind unit).answer iss E_OK

def execMgmtTestReq (q : Nat) : State → Host.Outcome State Fault Refusal :=
  act (.mgmtTestReq q) fun s => s.runMgmt q 4 Dev.mgTestReq

/-! ### Grants (R91, R96, R97) -/

/-- A grant ends: a test that runs under it stops, its request stays pending. -/
def Dev.grantEnd (s : Dev) (kind unit : Nat) : Dev :=
  let s := { s with tests := { s.tests with grants := s.tests.grants.filter fun g => !(g.1 == kind && g.2.1 == unit) } }
  if s.tests.running.any (fun r => r.kind == kind && r.unit == unit && r.granted) then s.stopTest kind unit else s

/-- R96, R647: a window is granted, or withdrawn, which wakes the device. The tests pending start as their unit is free. -/
def Dev.grant (s : Dev) (kind unit window : Nat) : Dev :=
  let s := s.wakeEvent
  if window = 0 then s.grantEnd kind unit
  else { s with tests := { s.tests with
    grants := s.tests.grants.filter (fun g => !(g.1 == kind && g.2.1 == unit)) ++ [(kind, unit, window)] } }

/-- R96, R97: a write of `HUB.TEST_GRANT` through a port that serves an owner of the unit. -/
def Dev.testGrantWrite (s : Dev) (port : Nat) (v : Word) : Dev :=
  let kind := fldN v 0 3
  let unit := fldN v 8 10
  if (s.testOwners kind unit).any (s.portOf · == port) then s.grant kind unit (fldN v 32 16)
  else s.logE E_TEST_NOT_OWNER unit

def execTestGrant (port : Nat) (v : Word) : State → Host.Outcome State Fault Refusal :=
  act (.testGrant port v) fun s => s.testGrantWrite port v

/-- R97, R575 TEST_GRANT. -/
def Dev.mgTestGrant (s : Dev) (e : Entry) (iss : Issuer) : Dev :=
  let kind := ebytes e 32 1
  let unit := ebytes e 34 2
  if kind = 0 ∨ 5 < kind then s.answer iss E_MGMT_OPERAND
  else if !s.testIssuerOwns iss kind unit then (s.logE E_TEST_NOT_OWNER unit).answer iss E_TEST_NOT_OWNER
  else (s.grant kind unit (ebytes e 36 2)).answer iss E_OK

def execMgmtTestGrant (q : Nat) : State → Host.Outcome State Fault Refusal :=
  act (.mgmtTestGrant q) fun s => s.runMgmt q 5 Dev.mgTestGrant

/-! ### Starts and ends (R88–R91, R98) -/

/-- R88: the unit has been idle for the idle time: its pending test starts. -/
def execTestIdleStart (kind unit : Nat) : State → Host.Outcome State Fault Refusal :=
  act (.testIdleStart kind unit) fun s =>
    if s.testReady kind unit && s.testIdle kind unit
    then s.startTest kind unit false else s

/-- R91: the window ends. -/
def execTestWindowEnd (kind unit : Nat) : State → Host.Outcome State Fault Refusal :=
  act (.testWindowEnd kind unit) fun s => if s.testGranted kind unit then s.grantEnd kind unit else s

/-- What a test found: the state, RESULT and CODE (R98). -/
abbrev TestEnd := Dev × Nat × Code

/-- Kind 1: a core that fails is lost (R85, R607); no code table names the code. -/
def Dev.testCore (s : Dev) (c : Nat) (r : TestResult) : TestEnd :=
  if r.unitFailed then ((s.loseCore c).unitLost Config.coreLost c, 2, Config.coreLost) else (s, 0, E_OK)

/-- Kind 2: failing rows take spares, or the array is retired (R207, R223). -/
def Dev.testArray (s : Dev) (u : Nat) (r : TestResult) : TestEnd :=
  let rows := r.rows.filter (· < 260)
  let s := s.fold rows fun s row => s.addRow (u / 2) (u % 2) row
  let s := if r.unitFailed then s.retireArr (u / 2) (u % 2) E_ARRAY_CHAIN else s
  let m := s.arr (u / 2) (u % 2)
  if m.st = .retired then (s, 2, m.cause)
  else if rows.isEmpty then (s, 0, E_OK) else (s, 1, E_ARRAY_SPARE_APPLIED)

/-- Kind 3: a scrub pass (R337); a channel that fails is dead (R345). -/
def Dev.testChan (s : Dev) (u : Nat) (r : TestResult) : TestEnd :=
  if r.unitFailed then (s.killChan (u / 32) (u % 32), 2, E_MEM_CHAN_DEAD)
  else
    (s.scrubbed (u / 32) (u % 32) r.corrected r.uncorrectable,
      if r.uncorrectable.isEmpty then (0, E_OK) else (1, E_MEM_UNCORR))

/-- Kind 4: lanes in use that fail are swapped (R33, R43), the others are only excluded. -/
def Dev.testLink (s : Dev) (l : Nat) (r : TestResult) : TestEnd :=
  let bad := r.lanes.filter fun e => e.link == l && decide (e.dir < 2) && decide (e.bundle < bundlesOf l)
  let s := s.fold bad fun s e => s.fold ((List.range 68).filter (e.lanes.getLsbD ·)) fun s i =>
    let u := s.bundle l e.dir e.bundle
    if u.st == .disabled || u.st == .absent then s
    else if u.mask.getLsbD i then s.swapLane l e.dir e.bundle i
    else s.modBundle l e.dir e.bundle (·.exclude (setBit 0 i))
  if s.widthLow l = 0 then (s, 2, E_D2D_BUNDLE_OFF)
  else if bad.isEmpty then (s, 0, E_OK) else (s, 1, E_D2D_LANE_NEW)

/-- Kind 5: neighbour slots and spares that fail (R375, R377); through wavelengths are not touched. -/
def Dev.testPair (s : Dev) (u : Nat) (r : TestResult) : TestEnd :=
  let bad := r.lambdas.filter fun l => l.eng == u / 8 && l.fib == u % 8 && decide (l.dir < 2) && decide (l.lam < 16)
  let s := s.fold bad fun s l =>
    if (s.fib l.eng l.fib).neighbour l.dir l.lam then s.swapSlot l
    else if ((s.fib l.eng l.fib).through l.dir).getLsbD l.lam then s
    else s.modFib l.eng l.fib fun b => b.fail l.dir l.lam
  if bad.isEmpty then (s, 0, E_OK) else (s, 1, E_ENG_LAMBDA_SWAP)

/-- A running test completes: the unit leaves the test, what was found takes effect, and the result is reported. -/
def Dev.testDone (s : Dev) (kind unit : Nat) (r : TestResult) : Dev :=
  let s := s.testLeave kind unit
  let e :=
    match kind with
    | 1 => s.testCore unit r
    | 2 => s.testArray unit r
    | 3 => s.testChan unit r
    | 4 => s.testLink unit r
    | _ => s.testPair unit r
  e.1.testReport kind unit e.2.1 e.2.2

def execTestComplete (kind unit : Nat) (r : TestResult) : State → Host.Outcome State Fault Refusal :=
  act (.testComplete kind unit r) fun s => if s.testRunning kind unit then s.testDone kind unit r else s

end Sys2Proof.Machine
end

