-- ==== Sys2Proof/Machine/Power.lean ====
section
/-! DEFINITION. Power, temperature, clocks, latency-tolerance states (R621–R655, R689): modes, steps, dips, the housekeeping
round, sensors, shutdown. -/

namespace Sys2Proof.Machine

/-! ### Regulators (R622, R624, R688, R689) -/

/-- R688: the rail of a regulator: VCORE_CD0–CD3, VCORE_HUB, VSRAM, VPHO, VHTR. -/
def regRail (r : Nat) : Nat := if r < 6 then r else r + 32

/-! ### Modes (R623, R625, R634) -/

/-- R625: a mode change begins; one written during a change waits, and only the last. A regulator that was silent is tried
again (log entry 30). -/
def Dev.startChange (s : Dev) (m : BitVec 2) : Dev :=
  if s.pow.change.isSome then { s with pow := { s.pow with later := some m } }
  else if s.pow.modeNow = m then s
  else { s with pow := { s.pow with change := some m, rails := s.pow.rails.map fun e => (e.1, { e.2 with noAck := false })
                                    dies := s.pow.dies.map fun e => (e.1, { e.2 with clkHeld := none }) } }

/-- R623, R656: MODE is written. Before step 10 the mode of the POWER section is still to come. -/
def Dev.modeWrite (s : Dev) (m : BitVec 2) : Dev :=
  if m = 3 then s.logE E_PWR_MODE_BAD 0
  else
    let s := { s with pow := { s.pow with mode := m } }
    if s.ready then s.startChange m else s

def execModeChange (port : Nat) (mode : BitVec 2) : State → Host.Outcome State Fault Refusal :=
  actIf (port < 2) fun s => s.modeWrite mode

/-- R634: a floor set by a dip is in force. -/
def Dev.dipInForce (s : Dev) : Bool := (List.range 4).any fun n => decide (0 < s.dipFloor n)

/-- R625: the change in progress completes: every die that is not forced runs at the new mode. A write made meanwhile takes
effect. A change waits for the end of a dip (R634). -/
def Dev.changeDone (s : Dev) : Dev :=
  match s.pow.change with
  | none => s
  | some m =>
    if s.dipInForce then s
    else
      let next := s.pow.later
      let s := ({ s with pow := { s.pow with modeNow := m, change := none, later := none } } : Dev).setDies
      next.elim s s.startChange

def execModeChangeDone : State → Host.Outcome State Fault Refusal := actIf true fun s => s.changeDone

/-- R689: a regulator does not acknowledge three attempts. A compute die whose regulator is silent keeps the lower of its
clock and of the one asked for. -/
def Dev.vrSilent (s : Dev) (r : Nat) : Dev :=
  let s := (s.modRail (regRail r) fun x => { x with noAck := true }).logE E_VR_NO_ACK r
  let s := s.eventAll 9 E_VR_NO_ACK r
  if r < 4 then
    let low := max (s.dieMode r) ((s.pow.change.map (·.toNat)).getD 0)
    s.modDieT r fun d => { d with clkHeld := some (BitVec.ofNat 2 low) }
  else s

def execVrNoAck (reg : Nat) : State → Host.Outcome State Fault Refusal := actIf (reg < 8) fun s => s.vrSilent reg

/-! ### Power limit (R628–R630) -/

/-- R628: PSTEP falls after ten rounds at or below 0.96 L. -/
def execPstepLower : State → Host.Outcome State Fault Refusal :=
  actIf true fun s =>
    if s.pow.lowRounds < 10 then s else { s with pow := { s.pow with pstep := s.pow.pstep - 1, lowRounds := 0 } }

/-- R630: a hundred rounds at step 15 over the limit. -/
def Dev.forceMode (s : Dev) : Dev :=
  if s.pow.overRounds < 100 ∨ s.pow.forced ∨ s.pow.forceLogged then s
  else
    let s := { s with pow := { s.pow with forceLogged := true } }
    let s := s.logE E_PWR_MODE_FORCED 4
    if s.pow.modeNow = 2 then s
    else (({ s with pow := { s.pow with forced := true, easyRounds := 0 } } : Dev).setDies).eventAll 9 E_PWR_MODE_FORCED 4

def execPwrModeForced : State → Host.Outcome State Fault Refusal := actIf true fun s => s.forceMode

/-- R630: the force ends after a thousand rounds at or below 0.90 L. -/
def execPwrForceEnd : State → Host.Outcome State Fault Refusal :=
  actIf true fun s =>
    if s.pow.forced && decide (1000 ≤ s.pow.easyRounds) then
      ({ s with pow := { s.pow with forced := false, forceLogged := false } } : Dev).setDies
    else s

/-- R621: the die current limit of a mode, in A. -/
def modeAmps (m : Nat) : Nat := if m = 0 then 1000 else if m = 1 then 800 else 600

/-- R629: the current of a compute die, in A, stayed for 2 µs: over the limit of its mode it sets the floor. -/
def Dev.fastLimit (s : Dev) (die amps : Nat) : Dev :=
  if amps ≤ modeAmps (s.dieMode die) then s
  else (s.modDieT die fun d => { d with curFloor := min 15 (s.powerStep die + 4) }).logE E_PWR_FAST_LIMIT die

def execPwrFastLimit (x : DieAmps) : State → Host.Outcome State Fault Refusal := actIf (x.die < 4) fun s => s.fastLimit x.die x.amps

/-! ### Dips (R631–R633) -/

/-- The stack that a rail feeds (R660). -/
def railStack (r : Nat) : Option Nat := if 6 ≤ r ∧ r < 38 then some (r - 6) else none

/-- The rail is there: a stack rail only where its stack is fitted. -/
def Dev.railThere (s : Dev) (r : Nat) : Bool := (railStack r).elim true (s.stackFitted ·)

/-- R631, R685: the set voltage of a rail, in mV. VCORE_CDn has that of the mode in force, before step 10 that of the start
setting, and in P3 and P4 the retention level (DEDUCED, log entry 60). -/
def Dev.railSet (s : Dev) (r : Nat) : Nat :=
  if r < 4 then s.vcore r (if !s.ready then 650 else if 3 ≤ s.pow.lat then 600 else modeMv (s.dieMode r))
  else if r < 6 then 750 else if r < 38 then 1050 else if r = 38 then 1200 else if r = 39 then 2500 else 1800

/-- R631: a voltage lies under so many percent of the set voltage of a fitted rail. -/
def Dev.railUnder (s : Dev) (r mv percent : Nat) : Bool := s.railThere r && decide (100 * mv < percent * s.railSet r)

/-- R631: a rail falls below its warning level. -/
def Dev.dip (s : Dev) (r : Nat) : Dev :=
  let s := s.modRail r fun x => { x with dips := min 0xFFF (x.dips + 1), dipped := true, toLog := true }
  (railStack r).elim s fun k => s.modStk k fun b => { b with dipSteep := true }

/-- R631: a voltage below 95 % of the set voltage. -/
def execDipWarn (x : RailVolts) : State → Host.Outcome State Fault Refusal :=
  actIf (x.rail < 41) fun s => s.when (s.railUnder x.rail x.mv 95) (·.dip x.rail)

/-- R631, R633: a rail falls below its reset level. -/
def Dev.dipReset (s : Dev) (r : Nat) : Dev :=
  let c := E_PWR_DIP_RESET
  match railStack r with
  | some k => s.beginStack k c false
  | none =>
    if r < 4 then s.beginDie r c false
    else if r = 5 then s.fold (List.range 4) fun s n => s.beginDie n c false
    else if r = 38 ∨ r = 39 then s.fold (List.range 14) fun s e => s.beginLink e c false
    else s.beginDevice c false

/-- R631: a voltage below 90 % of the set voltage. -/
def execDipReset (x : RailVolts) : State → Host.Outcome State Fault Refusal :=
  actIf (x.rail < 41) fun s => s.when (s.railUnder x.rail x.mv 90) (·.dipReset x.rail)

/-- R632: the dip of a rail is over. -/
def Dev.dipOver (s : Dev) (r : Nat) : Dev :=
  let s := s.modRail r fun x => { x with dipped := false }
  (railStack r).elim s fun k => s.modStk k fun b => { b with dipSteep := false }

/-- R632: the lowest voltage of a rail over 100 µs lies above 96 % of the set voltage. -/
def execDipFloorRelease (x : RailVolts) : State → Host.Outcome State Fault Refusal :=
  actIf (x.rail < 41) fun s => s.when (s.railThere x.rail && decide (96 * s.railSet x.rail < 100 * x.mv)) (·.dipOver x.rail)

/-- R633: every word of a stack is poisoned. -/
def Dev.stackLost (s : Dev) (k : Nat) : Dev := (s.fold (List.range 31) fun s p => s.poisonChan k p).logE E_PWR_STACK_LOST k

/-- R633: the highest voltage of a stack rail over 2 µs lies below its reset level. -/
def execPwrStackLost (x : StackVolts) : State → Host.Outcome State Fault Refusal :=
  actIf (x.stack < 32) fun s => s.when (s.railUnder (x.stack + 6) x.mv 90) (·.stackLost x.stack)

/-! ### Temperature (R635–R640) -/

/-- The number of a unit in the log of a thermal code: compute die n, hub 4, engine 0x10 + e, stack 0x20 + k. -/
def unitNum : TUnit → Nat
  | .cd n => n
  | .hub => 4
  | .eng e => 0x10 + e
  | .stack k => 0x20 + k

/-- The median of readings. -/
def median (l : List Int) : Int := (sortBy (fun (x : Int) => (x + 100000).toNat) l).getD (l.length / 2) 0

/-- R654: a table of 17 points from −10 °C to 150 °C at a temperature in 0.1 °C: linear between points, the end values beyond
them. -/
def tableAt (l : List Int) (t : Int) : Int :=
  let u := (max (-100) (min 1500 t) + 100).toNat
  let a := l.getD (u / 100) 0
  a + (l.getD (u / 100 + 1) a - a) * ((u % 100 : Nat) : Int) / 100

/-- R635, R654: a reading with its sensor's correction, once the board record is known. DESIGN CHOICE (log entry 56): the
correction at the temperature read is added. -/
def Dev.corrected (s : Dev) (e : TUnit × Nat × Int) : TUnit × Nat × Int :=
  match (((s.rec?.map (·.sensorTables)).getD []).find? fun x => x.1 == e.1 && x.2.1 == e.2.1) with
  | some x => (e.1, e.2.1, e.2.2 + tableAt x.2.2 e.2.2)
  | none => e

/-- R653, R654: the correction of the internal oscillator after a round: its trim and its table at the temperature of the hub die. -/
def Dev.oscRound (s : Dev) : Dev :=
  match s.rec?, s.hottest (· == .hub) with
  | some r, some t => { s with pow := { s.pow with osc := r.oscTrim + tableAt r.oscTable t } }
  | _, _ => s

/-- The earlier entry of a sensor. -/
def Dev.sensorRounds (s : Dev) (u : TUnit) (i : Nat) : Nat :=
  ((s.pow.sensors.find? fun e => e.1 == u && e.2.1 == i).map (·.2.2.2)).getD 0

/-- R636: the readings of a round, each with the consecutive rounds in which it was implausible. -/
def Dev.sensorRound (s : Dev) (l : List (TUnit × Nat × Int)) : List (TUnit × Nat × Int × Nat) :=
  let l := (l.filter fun e => e.1.ok && decide (e.2.1 < e.1.sensors)).map s.corrected
  l.map fun e =>
    let m := median ((l.filter fun x => x.1 == e.1 && !(s.pow.excluded.contains (x.1, x.2.1))).map (·.2.2))
    let bad := decide (e.2.2 < -400) || decide (1500 < e.2.2) || decide (250 < (e.2.2 - m).natAbs)
    (e.1, e.2.1, e.2.2, if bad then s.sensorRounds e.1 e.2.1 + 1 else 0)

/-- R636: sensors of a unit that are left. -/
def Dev.sensorsLeft (s : Dev) (u : TUnit) : Nat := (List.range u.sensors).countP fun i => !(s.pow.excluded.contains (u, i))

/-- R636: a sensor was implausible for three rounds: it is excluded. -/
def Dev.excludeSensor (s : Dev) (u : TUnit) (i : Nat) : Dev :=
  let s := ({ s with pow := { s.pow with excluded := s.pow.excluded ++ [(u, i)] } } : Dev).logE E_THERM_SENSOR (unitNum u)
  if u.sensors ≤ 2 * s.sensorsLeft u then s
  else match u with
    | .cd n => s.modDieT n fun d => { d with blind := true, tstep := 15 }
    | .stack k => s.modStk k fun b => { b with blind := true }
    | _ => s

def execThermSensor (u : TUnit) (i : Nat) : State → Host.Outcome State Fault Refusal :=
  actIf (u.ok && decide (i < u.sensors)) fun s =>
    if s.sensorRounds u i < 3 ∨ s.pow.excluded.contains (u, i) then s else s.excludeSensor u i

/-- R638: one compute die in a round. -/
def Dev.dieRound (s : Dev) (n : Nat) : Dev :=
  match s.hottest (· == .cd n) with
  | none => s
  | some t =>
    let d := s.dieT n
    let hot := decide (950 ≤ t)
    let step := if d.blind then 15 else if hot then min 15 (d.tstep + 1) else d.tstep
    let s := s.modDieT n fun d =>
      { d with
        tstep := step, warned := hot
        cool := if t < 930 then d.cool + 1 else 0
        hot := if hot && step == 15 then d.hot + 1 else 0
        cold := if t < 900 then d.cold + 1 else 0 }
    if hot && !d.warned then (s.logE E_THERM_WARN n).eventAll 9 E_THERM_WARN n else s

/-- R637: the hub or an engine in a round: its warning is logged once per episode. -/
def Dev.warnRound (s : Dev) (u : TUnit) : Dev :=
  match s.hottest (· == u) with
  | none => s
  | some t =>
    if 950 ≤ t then
      if s.pow.warned.contains u then s
      else ({ s with pow := { s.pow with warned := s.pow.warned ++ [u] } } : Dev).logE E_THERM_WARN (unitNum u)
    else { s with pow := { s.pow with warned := s.pow.warned.filter (· ≠ u) } }

/-- R347: the steep level at a temperature in 0.1 °C. -/
def steepOf (t : Int) : Nat := if t ≤ 850 then 0 else min 15 (((t - 850).toNat * 15 + 99) / 100)

/-- R347, R353: a stack in a round. -/
def Dev.stackRound (s : Dev) (k : Nat) : Dev :=
  match s.hottest (· == .stack k) with
  | none => s
  | some t =>
    let l := steepOf t
    s.modStk k fun b =>
      let b := { b with temp := t / 10 }
      if b.steep < l ∨ (l < b.steep ∧ t ≤ b.steepAt - 10) then { b with steep := l, steepAt := t } else b

/-- R638: TSTEP falls after ten rounds below 93 °C. -/
def execTstepLower (die : Nat) : State → Host.Outcome State Fault Refusal :=
  actIf (die < 4) fun s =>
    if (s.dieT die).cool < 10 then s
    else s.modDieT die fun d => { d with cool := 0, tstep := if d.blind then d.tstep else d.tstep - 1 }

/-- R638: a hundred rounds at step 15 and 95 °C. -/
def execThermModeForced (die : Nat) : State → Host.Outcome State Fault Refusal :=
  actIf (die < 4) fun s =>
    if (s.dieT die).hot < 100 ∨ (s.dieT die).forced then s
    else ((s.modDieT die fun d => { d with forced := true, cold := 0 }).setDies).logE E_PWR_MODE_FORCED die

/-- R638: a thousand rounds below 90 °C. -/
def execThermForceEnd (die : Nat) : State → Host.Outcome State Fault Refusal :=
  actIf (die < 4) fun s =>
    if (s.dieT die).forced && decide (1000 ≤ (s.dieT die).cold) then (s.modDieT die fun d => { d with forced := false }).setDies else s

/-- R640: neighbouring regions. -/
def regionPairs : List (TUnit × TUnit) :=
  (List.range 4).flatMap (fun n => [(TUnit.cd n, TUnit.cd ((n + 1) % 4)), (TUnit.cd n, TUnit.hub)] ++ (span (8 * n) 8).map fun k => (TUnit.cd n, TUnit.stack k)) ++
    (List.range 14).map fun e => (TUnit.hub, TUnit.eng e)

/-- The difference of two units' hottest sensors, where both are known. -/
def Dev.delta (s : Dev) (a b : TUnit) : Option Int :=
  (s.hottest (· == a)).bind fun x => (s.hottest (· == b)).map fun y => x - y

/-- R640: the hotter of two neighbouring regions takes a step. -/
def Dev.deltaStep (s : Dev) (hot : TUnit) : Dev :=
  match hot with
  | .cd n => s.modDieT n fun d => { d with tstep := min 15 (d.tstep + 1) }
  | _ => s

/-- R640: the pairs of neighbouring regions in a round. -/
def Dev.deltaRound (s : Dev) : Dev :=
  let rounds := fun (h c : TUnit) => ((s.pow.deltas.find? fun e => e.1 == h && e.2.1 == c).map (·.2.2)).getD 0
  let wide := (regionPairs ++ regionPairs.map fun e => (e.2, e.1)).filterMap fun e =>
    (s.delta e.1 e.2).bind fun d => if 300 < d then some (e.1, e.2, rounds e.1 e.2 + 1) else none
  let still := s.pow.deltaOn.filter fun e => (s.delta e.1 e.2).any fun d => decide (280 < d)
  let s := { s with pow := { s.pow with deltas := wide, deltaOn := still } }
  s.fold still fun s e => s.deltaStep e.1

/-- R640: two neighbouring regions differ by more than 30 °C for three rounds. -/
def execClkDeltaT (hot cold : TUnit) : State → Host.Outcome State Fault Refusal :=
  actIf (hot.ok && cold.ok) fun s =>
    if s.pow.deltaOn.contains (hot, cold) || !(s.pow.deltas.any fun e => e.1 == hot && e.2.1 == cold && decide (3 ≤ e.2.2)) then s
    else
      let s := ({ s with pow := { s.pow with deltaOn := s.pow.deltaOn ++ [(hot, cold)] } } : Dev).logE E_CLK_DELTA_T (unitNum hot)
      s.deltaStep hot

/-! ### The housekeeping round (R627, R628, R635) -/

/-- R627: the power of a round's readings, in W, from mV and mA. -/
def powerOf (l : List (Nat × Nat × Nat)) : Nat := (l.map fun r => r.2.1 * r.2.2).sum / 1000000

/-- R632, R660: the rails in a round. -/
def Dev.railRound (s : Dev) (l : List (Nat × Nat × Nat)) : Dev :=
  let s := s.fold (l.filter fun r => decide (r.1 < 41)) fun s r => s.modRail r.1 fun x =>
    { x with volt := r.2.1, curr := r.2.2 / 1000, low := some (x.low.elim r.2.1 (min r.2.1)) }
  s.fold (s.pow.rails.filter (·.2.toLog)) fun s e =>
    ((s.modRail e.1 fun x => { x with toLog := false }).logE E_PWR_DIP_WARN e.1).eventAll 9 E_PWR_DIP_WARN e.1

/-- R628–R630: the power limit in a round. -/
def Dev.limitRound (s : Dev) (p : Nat) : Dev :=
  let l := s.powerLimit
  let w := s.pow
  let step := if l < p then min 15 (w.pstep + 1) else w.pstep
  let step := (List.range 4).foldl (fun m n => max m (s.dieT n).curFloor) step
  let above := if w.pstep = 15 ∧ l < p then w.overRounds + 1 else 0
  let s := s.fold (List.range 4) fun s n => s.modDieT n fun d => { d with curFloor := 0 }
  { s with pow := { s.pow with
      p, pstep := step, overRounds := above
      lowRounds := if 100 * p ≤ 96 * l then w.lowRounds + 1 else 0
      easyRounds := if 100 * p ≤ 90 * l then w.easyRounds + 1 else 0
      forceLogged := w.forceLogged && (w.forced || decide (0 < above)) } }

/-- R330, R333, R348, R649: 1 ms of refill of the regulator buckets of a stack. -/
def Dev.refill (s : Dev) (k : Nat) : Dev :=
  if 3 ≤ s.pow.lat then s
  else s.fold (s.parts.map (·.part)) fun s n =>
    let share := s.share k n
    s.modBucket k n fun b =>
      let add := 37200000 * share * (64 - 3 * (s.stk k).level) / (256 * 64)
      let most := max 8 (148800 * share / 256)
      let now := min most (b.tokens + add)
      { b with tokens := now, minted := b.minted + add, discarded := b.discarded + (b.tokens + add - now) }

/-- R635: the round: the clock advances by 1 ms. A drain goes on from phase 1 to phase 2 here (log entry 31). -/
def Dev.round (s : Dev) (r : Readings) : Dev :=
  let s := { s with clock := s.clock + 1 }
  if s.rcv.hung then s
  else
    let s := ({ s with pow := { s.pow with sensors := s.sensorRound r.temps } } : Dev).oscRound
    let s := (s.railRound r.rails).limitRound (powerOf r.rails)
    let s := s.fold (List.range 4) fun s n => s.dieRound n
    let s := s.fold (TUnit.hub :: (List.range 14).map TUnit.eng) fun s u => s.warnRound u
    let s := s.fold ((List.range 32).filter (s.stackFitted ·)) fun s k =>
      ((s.stackRound k).refill k).when ((s.stk k).migrating.isSome && !(s.stk k).inReset) (·.copyRound k)
    let s := s.deltaRound
    let s := s.when s.pow.holdover fun s => { s with pow := { s.pow with holdMs := sat16 s.pow.holdMs } }
    s.when (s.rcv.phase == 1) fun s => { s with rcv := { s.rcv with phase := 2 } }

def execHousekeepingRound (r : Readings) : State → Host.Outcome State Fault Refusal := actIf true fun s => s.round r

/-! ### Latched shutdown (R641, R642) -/

/-- R641: a shutdown comparator trips. With the hub firmware hung only the clocks stop. -/
def Dev.shutdownNow (s : Dev) (u : TUnit) : Dev :=
  let s := { s with side := { s.side with thermtrip := true } }
  let s := s.when (!s.rcv.hung) fun s =>
    let s := ((s.sendBreaks false).sendBreaks true).withdrawUp
    (s.logE E_THERM_SHUTDOWN (unitNum u)).eventAll 9 E_THERM_SHUTDOWN (unitNum u)
  let s := s.fold (List.range 14) fun s e => s.modEng e fun g => { g with txOff := true, passing := false }
  { s with pow := { s.pow with shutdown := true } }

/-- R637: the shutdown threshold of a unit, in 0.1 °C. -/
def shutdownAt : TUnit → Int
  | .stack _ => 1050
  | _ => 1150

/-- R637, R641: the hottest sensor of a unit that is not excluded, in 0.1 °C, at or over the unit's shutdown threshold. -/
def execThermalShutdown (x : UnitTemp) : State → Host.Outcome State Fault Refusal :=
  actIf x.u.ok fun s => s.when (decide (shutdownAt x.u ≤ x.temp)) (·.shutdownNow x.u)

/-! ### Latency-tolerance states (R643–R649) -/

/-- R645, R647: a port writes its tolerance; a shallower target wakes the device. -/
def Dev.latWrite (s : Dev) (port : Nat) (v : Word) : Dev :=
  let s := { s with pow := if port = 0 then { s.pow with lt0 := fld v 0 20 } else { s.pow with lt1 := fld v 20 20 } }
  if s.latTarget < s.pow.lat then s.wakeEvent else s

def execLatTol (port : Nat) (v : Word) : State → Host.Outcome State Fault Refusal :=
  actIf (port < 2) fun s => s.latWrite port v

/-- R646: a core has no thread and no queued work. -/
def Dev.coreIdle (s : Dev) (c : Nat) : Bool :=
  (s.core c).threads.all (fun t => t.2.st == .empty) && (s.arr c 0).queue.isEmpty && (s.arr c 1).queue.isEmpty && !s.queuedWork c

/-- R646: an idle core enters P1, where the target state lets it (log entry 32). -/
def execCoreP1Entry (core : Nat) : State → Host.Outcome State Fault Refusal :=
  actIf (core < 32) fun s =>
    if s.ready && s.coreUsable core && !s.coreBusy core && decide (1 ≤ s.latTarget) && s.coreIdle core
    then s.modCore core fun k => { k with p1 := true } else s

/-- R646: the device is idle. -/
def Dev.deviceIdle (s : Dev) : Bool :=
  (s.cores.all fun c => c.2.threads.all (fun t => t.2.st == .empty) && c.2.a0.queue.isEmpty && c.2.a1.queue.isEmpty && c.2.port.isEmpty) &&
    s.host.queues.all (·.2.entries.isEmpty) && s.axa.comb.isEmpty && s.tests.pending.isEmpty && decide (s.rcv.phase = 0) && s.img.reload.isNone

/-- R643, R646: the device enters its target state of P2–P4. -/
def Dev.latEnter (s : Dev) : Dev :=
  let t := s.latTarget
  if !s.ready || s.inReset 6 0 || decide (t < 2) || decide (t = s.pow.lat) || s.pow.waking || !s.deviceIdle then s
  else
    let s := { s with pow := { s.pow with lat := t } }
    if t < 3 then s
    else (s.fold ((List.range 32).filter (s.stackThere ·)) fun s k => s.modStk k fun b => { b with selfRefresh := true }).setDies

def execLatencyStateEntry : State → Host.Outcome State Fault Refusal := actIf true fun s => s.latEnter

/-- R647, R649: after a wake event the device is in P0 again; from P3 and P4 every channel retrains. -/
def Dev.latExit (s : Dev) : Dev :=
  if s.pow.lat < 2 ∨ !s.pow.waking then s
  else
    let deep := decide (3 ≤ s.pow.lat)
    let s := { s with pow := { s.pow with lat := 0, waking := false }, cores := s.cores.map fun c => (c.1, { c.2 with p1 := false }) }
    if !deep then s
    else
      let s := s.fold ((List.range 32).filter (s.stackThere ·)) fun s k =>
        (s.fold (List.range 31) fun s p => s.retrainChan k p).modStk k fun b => { b with selfRefresh := false }
      s.setDies

def execLatencyStateExit : State → Host.Outcome State Fault Refusal := actIf true fun s => s.latExit

/-! ### References (R652) -/

def execClkRefLost : State → Host.Outcome State Fault Refusal :=
  actIf true fun s =>
    if !s.pow.fabRef then s
    else ({ s with pow := { s.pow with fabRef := false, holdover := true, holdMs := 0 } } : Dev).logE E_CLK_REF_LOST 0

def execClkRefReturn : State → Host.Outcome State Fault Refusal :=
  actIf true fun s => { s with pow := { s.pow with fabRef := true, holdover := false } }

end Sys2Proof.Machine
end

