-- ==== Sys2Proof/Machine/Image.lean ====
section
/-! DEFINITION. The checks of a Fortu image (R100–R118, R133): each names the code, the failing section's index in the
section table and the failing entry. -/

namespace Sys2Proof.Machine

/-- What a failing check reports (R141): code, section index, entry index. -/
abbrev Verdict := Code × Nat × Nat

/-- The index of a section type in the section table; 0xFF where there is none. -/
def sectIdx (i : Image) (type : Nat) : Nat := (i.table.findIdx? fun h => h.type.toNat == type).getD 0xFF

/-- The first entry of a list that breaks a rule, as a failure in a section. Entries are numbered within their own kind of
item (log entry 33). -/
def broken {α : Type} (i : Image) (code : Code) (type : Nat) (l : List α) (bad : α → Bool) : Option Verdict :=
  (l.findIdx? bad).map fun n => (code, sectIdx i type, n)

/-- A rule about a section as a whole. -/
def unlessOk (i : Image) (code : Code) (type : Nat) (ok : Bool) : Option Verdict := if ok then none else some (code, sectIdx i type, 0)

/-- The first failure of a list of checks. -/
def firstFail (l : List (Option Verdict)) : Option Verdict := l.findSome? id

/-! ### Check 1: header and section table (R100, R101) -/

/-- R101: sections on 8-byte boundaries, in ascending type order, without overlap, within the image after the header and the
table. -/
def tableOk (i : Image) : Bool :=
  let start := 128 + 16 * i.table.length
  let t := i.table
  t.all (fun h => h.offset % 8 == 0 && decide (start ≤ h.offset) && decide (h.offset + h.length ≤ i.length)) &&
    (t.zip (t.drop 1)).all (fun e => decide (e.1.type.toNat < e.2.type.toNat)) &&
    t.zipIdx.all fun e => t.zipIdx.all fun f => e.2 == f.2 || decide (e.1.offset + e.1.length ≤ f.1.offset) || decide (f.1.offset + f.1.length ≤ e.1.offset)

def formatOk (i : Image) (kind : Nat) : Bool :=
  i.magic == 0x55545246 && i.format == 1 && i.hdrSize == 128 && i.kind == kind && decide (i.length ≤ 0x2000000) &&
    decide (1 ≤ i.table.length) && decide (i.table.length ≤ 32) && tableOk i && i.unusedZero

/-! ### Check 7: units (R118) -/

def Dev.recChans (s : Dev) : List (Nat × Nat) := (s.rec?.map (·.chanExcl)).getD []
def Dev.recLambdas (s : Dev) : List LambdaRef := (s.rec?.map (·.lambdas)).getD []

/-- A channel that the part has and the board record leaves. -/
def Dev.chanOnPart (s : Dev) (k p : Nat) : Bool := decide (k < 32) && s.stackFitted k && decide (p < 31) && !(s.recChans.contains (k, p))
def Dev.lambdaOnPart (s : Dev) (l : LambdaRef) : Bool :=
  decide (l.eng < 14) && s.engFitted l.eng && decide (l.fib < 8) && decide (l.dir < 2) && decide (l.lam < 16) && !(s.recLambdas.contains l)
def Dev.lanesOnPart (s : Dev) (e : LaneSet) : Bool :=
  s.linkFitted e.link && decide (e.dir < 2) && decide (e.bundle < bundlesOf e.link) && e.lanes &&& s.recLanes e.link e.dir e.bundle == 0
/-- R110: a physical channel that the stack repairs of the board record took out of use. -/
def Dev.recTakenOut (s : Dev) (k x : Nat) : Bool :=
  let l := (s.rec?.map (·.stackRepairs)).getD []
  x != 31 && l.any (·.1 == k) && (List.range 31).all fun p => (((l.reverse.find? fun e => e.1 == k && e.2.1 == p).map (·.2.2)).getD p) != x

/-- An array of a core of the part, and a physical row of it (R207). -/
def Dev.rowOnPart (s : Dev) (e : Nat × Nat) : Bool := decide (e.1 < 64) && s.coreOn (e.1 / 2) && decide (e.2 < 260)
/-- Bits of a mask that the part lacks. -/
def beyond {w : Nat} (m part : BitVec w) : Bool := m &&& ~~~part != 0

/-- Check 7 over a PARTITION section. CORE of a communication queue always names a core (R114). -/
def Dev.partUnits (s : Dev) (i : Image) (p : PartSection) : List (Option Verdict) :=
  let t := 0x10 + p.part
  let c := E_IMG_UNIT_ABSENT
  let core := fun (n : Nat) => decide (n < 32) && s.coreOn n
  [broken i c t p.arrayUse fun e => !core e.1,
   broken i c t p.reserved fun e => !core e.1,
   broken i c t p.queues fun e => (fldN e.2 0 3 == 3 || fldN e.2 3 5 != 0x1F) && !core (fldN e.2 3 5)]

def Dev.unitsCheck (s : Dev) (i : Image) : Option Verdict :=
  let c := E_IMG_UNIT_ABSENT
  let r := i.repair
  firstFail ([
    broken i c 1 i.structure_ fun e => beyond e.cores s.enabledCores,
    broken i c 2 i.sets fun e => !e.spread && decide (4 ≤ e.die),
    broken i c 2 i.shares fun e => !(decide (e.1 < 32) && s.stackFitted e.1),
    broken i c 4 i.fabric.through fun e => !s.lambdaOnPart e.1,
    broken i c 5 r.spareRows fun e => !s.rowOnPart e,
    unlessOk i c 5 (!(beyond r.exclCores s.enabledCores) && !(beyond r.exclStacks s.fittedStacks) && !(beyond r.exclEngines s.fittedEngs)),
    unlessOk i c 5 ((List.range 64).all fun a => !r.exclArrays.getLsbD a || s.coreOn (a / 2)),
    broken i c 5 r.exclChans fun e => !s.chanOnPart e.1 e.2,
    broken i c 5 r.stackRepairs fun e => !s.chanOnPart e.1 e.2.1 || decide (32 ≤ e.2.2) || s.recTakenOut e.1 e.2.2,
    broken i c 5 r.lanes fun e => !s.lanesOnPart e,
    broken i c 5 r.lambdas fun e => !s.lambdaOnPart e] ++ i.parts.flatMap fun p => s.partUnits i p)

/-! ### Check 9: rules (R104–R116, R328, R349, R382, R404, R430, R644) -/

/-- Two ranges overlap. -/
def rangesMeet (a n b m : Nat) : Bool := decide (a < b + m) && decide (b < a + n)

/-- An element of a list that agrees with an earlier one. -/
def repeats {α : Type} (same : α → α → Bool) : List α → List Bool
  | [] => []
  | l => l.zipIdx.map fun e => (l.take e.2).any fun x => same x e.1

/-- Entries that repeat an earlier one. -/
def noRepeat {α : Type} (i : Image) (type : Nat) (l : List α) (same : α → α → Bool) : Option Verdict :=
  broken i E_IMG_RULE type (repeats same l) id

def mib2 : Nat := 0x200000
def half128 : Nat := 0x8000000

/-- R104, R105. -/
def structureRules (i : Image) : List (Option Verdict) :=
  let c := E_IMG_RULE
  let defined := (List.range 8).filter fun n => i.structure_.any (·.part == n)
  [unlessOk i c 1 (i.table.map (·.type.toNat) == span 1 6 ++ defined.map (0x10 + ·)),
   unlessOk i c 1 (defined.all fun n => i.parts.countP (·.part == n) == 1),
   unlessOk i c 1 (i.parts.all fun p => defined.contains p.part),
   broken i c 1 i.structure_ fun e => decide (8 ≤ e.part) || decide (2 ≤ e.port) || e.cores == 0,
   noRepeat i 1 i.structure_ fun a b => a.part == b.part || a.cores &&& b.cores != 0]

/-- R328: what a band lies on: a set's channels, or those of one stack. -/
inductive BandOn where
  | ofSet (e : ISet)
  | ofStack (k : Nat)
deriving DecidableEq, Repr

/-- A stack of a set. -/
def setHas (e : ISet) (k : Nat) : Bool := e.spread || k / 8 == e.die

/-- R328: two bands share a channel of the image's lists. -/
def Dev.bandsShare (s : Dev) (i : Image) (a b : BandOn) : Bool :=
  let on := fun (x : BandOn) (k : Nat) => match x with
    | .ofSet e => setHas e k
    | .ofStack j => k == j
  (List.range 32).any fun k => on a k && on b k && (List.range 31).any fun p => s.chanListed i k p

/-- R328: the lowest granule at which `h` granules meet none of the bands given. -/
def lowestFit (h : Nat) (l : List (Nat × Nat)) : Nat :=
  ((0 :: l.map fun e => e.1 + e.2).filter fun b => l.all fun e => !(rangesMeet b h e.1 e.2)).foldl
    (fun (m : Option Nat) b => some (m.elim b (min b))) none |>.getD 0

/-- R349: the bands of the capsule halves. -/
def capsuleGranules : Nat := 8457
def Dev.capsuleBands (s : Dev) (i : Image) : List (BandOn × Nat × Nat) :=
  (s.capsuleStacks.zip [i.capsule.1, i.capsule.2]).map fun e => (.ofStack e.1, e.2 / half128 * capsuleGranules, capsuleGranules)

/-- R328: the bands of the sets, in order, after those of the capsule: (start, height). -/
def Dev.bandsOf (s : Dev) (i : Image) : List (Nat × Nat) :=
  (i.sets.foldl (fun (acc : List (BandOn × Nat × Nat) × List (Nat × Nat)) e =>
    let h := bandHeight e.size (s.chanList i e).length
    let b := lowestFit h ((acc.1.filter fun x => s.bandsShare i (.ofSet e) x.1).map (·.2))
    (acc.1 ++ [(.ofSet e, b, h)], acc.2 ++ [(b, h)])) (s.capsuleBands i, [])).2

/-- R319: granules of a channel. -/
def chanGranules : Nat := 2930688

/-- R106, R328, R329, R349. -/
def Dev.memoryRules (s : Dev) (i : Image) : List (Option Verdict) :=
  let c := E_IMG_RULE
  [unlessOk i c 2 (decide (i.sets.length ≤ 16)),
   broken i c 2 i.sets fun e => e.base % mib2 != 0 || e.size % mib2 != 0 || decide (0x01FF00000000 < e.base + e.size) ||
     !(i.structure_.any (·.part == e.owner)),
   noRepeat i 2 i.sets fun a b => rangesMeet a.base a.size b.base b.size,
   broken i c 2 i.shares fun e => decide (8 ≤ e.2.1) || decide (256 ≤ e.2.2),
   noRepeat i 2 i.shares fun a b => a.1 == b.1 && a.2.1 == b.2.1,
   broken i c 2 (List.range 32) fun k => decide (256 < ((i.shares.filter (·.1 == k)).map (·.2.2)).sum),
   broken i c 2 [i.capsule.1, i.capsule.2] fun o => o % half128 != 0 || decide (345 < o / half128),
   broken i c 2 (s.bandsOf i) fun b => decide (chanGranules < b.1 + b.2)]

/-- R108. -/
def queueRules (i : Image) : List (Option Verdict) :=
  [unlessOk i E_IMG_RULE 3 ((i.table.find? (·.type == 3)).any fun h => h.length == 4096),
   broken i E_IMG_RULE 3 i.owners fun e => decide (4096 ≤ e.1) || decide (8 ≤ e.2),
   noRepeat i 3 i.owners fun a b => a.1 == b.1]

/-- R404: the allotment of a dimension. -/
def allotOk (n : Nat × Nat × Nat) (d : Nat) : Bool :=
  n.1 + n.2.1 + n.2.2 == 14 && decide (6 ≤ n.1) && decide (n.2.1 ≤ 4) && decide (n.2.2 ≤ 4) &&
    (n.2.1 == 0 || (d % 8 == 0 && decide (16 ≤ d))) &&
    (n.2.2 == 0 || (decide (1 ≤ n.2.1) && d % 32 == 0 && decide (64 ≤ d)))

/-- R382: the torus ports of a dimension of size 1 are unused. -/
def portsOfOneOk (f : FabricSection) : Bool :=
  let unused := fun (p : Nat) => ((f.ports[p]?).map (·.unused)).getD true
  (f.dx != 1 || (unused 0 && unused 1)) && (f.dy != 1 || (unused 2 && unused 3))

/-- R430: the trunks that a transfer to a domain crosses; none where it needs more than three. -/
def trunksTo (f : FabricSection) : Nat → Nat → Option Nat
  | 0, _ => none
  | n + 1, dom =>
    match f.trunks[dom]? with
    | some e => match e.via with
      | some d => (trunksTo f n d).map (· + 1)
      | none => some 1
    | none => some 1

/-- R109, R382, R403, R404, R430. -/
def fabricRules (i : Image) : List (Option Verdict) :=
  let c := E_IMG_RULE
  let f := i.fabric
  [unlessOk i c 4 (decide (1 ≤ f.dx) && decide (f.dx ≤ 128) && decide (1 ≤ f.dy) && decide (f.dy ≤ 128)),
   unlessOk i c 4 (decide (f.dev % 128 < f.dx) && decide (f.dev / 128 < f.dy) && decide (f.domain < 16)),
   unlessOk i c 4 (allotOk f.allotX f.dx && allotOk f.allotY f.dy),
   unlessOk i c 4 (portsOfOneOk f),
   unlessOk i c 4 (decide (f.ports.length ≤ 6) && decide (f.trunks.length ≤ 16)),
   broken i c 4 f.through fun e => !(e.2 == 1 || e.2 == 2),
   broken i c 4 f.trunks fun e => decide (4 < e.pairs.length) || e.pairs.any (fun w => decide (2 ≤ w.2)) || e.via.any fun d => decide (16 ≤ d),
   broken i c 4 (List.range f.trunks.length) fun d => (trunksTo f 3 d).isNone]

/-- R110: an entry of the REPAIR section needs the package serial. -/
def repairEmpty (r : RepairSection) : Bool :=
  r.spareRows.isEmpty && r.exclCores == 0 && r.exclArrays == 0 && r.exclStacks == 0 && r.exclEngines == 0 && r.exclChans.isEmpty &&
    r.stackRepairs.isEmpty && r.lanes.isEmpty && r.lambdas.isEmpty

/-- R643: the least exit latency of P1–P4, in µs. -/
def exitMin (j : Nat) : Nat := if j = 0 then 1 else if j = 1 then 20 else if j = 2 then 200 else 2000

/-- R111, R644. -/
def powerRules (i : Image) : List (Option Verdict) :=
  let c := E_IMG_RULE
  let w := i.power
  [unlessOk i c 6 (w.limits.length == 3 && w.exits.length == 4 && decide (w.mode < 3)),
   broken i c 6 w.limits.zipIdx fun e => decide (2 * e.1 < modeLimit e.2) || decide (modeLimit e.2 < e.1),
   broken i c 6 w.exits.zipIdx fun e => decide (e.1 < exitMin e.2) || decide (100000 < e.1),
   broken i c 6 (w.exits.zip (w.exits.drop 1)) fun e => decide (e.2 < e.1)]

/-- Partition `n` of an image owns a core; a queue. -/
def ownsCore (i : Image) (n c : Nat) : Bool := i.structure_.any fun e => e.part == n && e.cores.getLsbD c
def ownsQueue (i : Image) (n q : Nat) : Bool := i.owners.any fun e => e.1 == q && e.2 == n

/-- R114: a descriptor's own fields. -/
def descOk (d : BitVec 32) : Bool :=
  decide (fldN d 0 3 ≤ 4) && fldN d 21 11 == 0 && (if fldN d 0 3 = 3 then decide (fldN d 10 11 < 1536) else fldN d 10 11 == 0)

/-- The communication queues of an image: (queue, descriptor). -/
def commQueues (i : Image) : List (Nat × BitVec 32) := (i.parts.flatMap (·.queues)).filter fun e => fldN e.2 0 3 == 3

/-- R112–R116: a PARTITION section. -/
def partRules (i : Image) (p : PartSection) : List (Option Verdict) :=
  let c := E_IMG_RULE
  let t := 0x10 + p.part
  let rsv := fun (k : Nat) => (p.reserved.find? (·.1 == k)).elim 0 (·.2)
  [broken i c t p.arrayUse fun e => !ownsCore i p.part e.1,
   noRepeat i t p.arrayUse fun a b => a.1 == b.1,
   broken i c t p.reserved fun e => !ownsCore i p.part e.1 || decide (8 < e.2),
   noRepeat i t p.reserved fun a b => a.1 == b.1,
   broken i c t p.queues fun e => !ownsQueue i p.part e.1 || !descOk e.2,
   noRepeat i t p.queues fun a b => a.1 == b.1,
   -- R115
   broken i c t p.queues fun e => fldN e.2 0 3 == 3 && (!ownsCore i p.part (fldN e.2 3 5) || rsv (fldN e.2 3 5) == 0),
   broken i c t p.queues fun e => fldN e.2 0 3 == 3 && (commQueues i).any fun x => x.1 != e.1 && fldN x.2 10 11 == fldN e.2 10 11,
   unlessOk i c t (p.queues.any fun e => fldN e.2 0 3 == 4),
   unlessOk i c t (decide ((commQueues i).length ≤ 1536)),
   -- R116
   broken i c t p.axa fun r => r.base % mib2 != 0 || r.size % mib2 != 0 || decide (r.anchor < -512) || decide (511 < r.anchor) ||
     !(i.sets.any fun e => e.owner == p.part && decide (e.base ≤ r.base) && decide (r.base + r.size ≤ e.base + e.size)),
   noRepeat i t p.axa fun a b => rangesMeet a.base a.size b.base b.size,
   broken i c t p.axa fun r => i.parts.any fun x => x.part != p.part && x.axa.any fun y => rangesMeet r.base r.size y.base y.size,
   unlessOk i c t (decide (((i.parts.map (·.axa.length)).sum) ≤ 1024))]

/-- Check 9. -/
def Dev.rulesCheck (s : Dev) (i : Image) : Option Verdict :=
  firstFail (structureRules i ++ s.memoryRules i ++ queueRules i ++ fabricRules i ++
    [unlessOk i E_IMG_RULE 5 (repairEmpty i.repair || i.serial != 0)] ++ powerRules i ++ i.parts.flatMap (partRules i))

/-! ### A whole image (R118) -/

/-- A failure that no section shows. -/
def inHeader (code : Code) (ok : Bool) : Option Verdict := if ok then none else some (code, 0xFF, 0)

/-- Check 6: the CRC of every section. -/
def crcCheck (i : Image) : Option Verdict := (i.table.findIdx? fun h => !h.crcOk).map fun n => (E_IMG_CRC, n, 0)

def Dev.serialOk (s : Dev) (i : Image) : Bool := i.part == s.boot.part && (i.serial == 0 || i.serial == s.ownSerial)

/-- R118: the checks of a whole image in their order, the first failure. -/
def Dev.checkImage (s : Dev) (i : Image) : Option Verdict :=
  firstFail [
    inHeader E_IMG_FORMAT (formatOk i 0),
    inHeader E_IMG_CERT (!i.chain.isEmpty && i.certOk),
    inHeader E_IMG_SIGNATURE (i.sig.isSome && i.sigOk),
    inHeader E_IMG_PART_MISMATCH (s.serialOk i),
    inHeader E_IMG_CLASS (decide (i.minClass ≤ s.boot.compatClass)),
    crcCheck i,
    inHeader E_IMG_CRC i.digestOk,
    s.unitsCheck i,
    unlessOk i E_IMG_ROLE 4 (!i.fabric.waystation || s.hasTrunks),
    s.rulesCheck i]

/-! ### AXA regions that an image adds (R491) -/

/-- The HBM address of 16 B word `key` of the memory system under an image whose sets have the bands given. -/
def addrOfWord (s : Dev) (i : Image) (bands : List Nat) (key : Nat) : Option Nat :=
  let b := key * 16
  let kp : Nat × Nat := (b / 2 ^ 31 / 32, b / 2 ^ 31 % 32)
  let off := b % 2 ^ 31
  i.sets.zipIdx.findSome? fun e =>
    let l := s.chanList i e.1
    let b0 := bands.getD e.2 0
    match l.findIdx? (· == kp) with
    | some j =>
      if b0 ≤ off / 512 ∧ off / 512 < b0 + bandHeight e.1.size l.length
      then some (e.1.base + ((off / 512 - b0) * l.length + j) * 512 + off % 512) else none
    | none => none

/-- R491: the flags of the words of regions that are new are cleared, their words are not. -/
def Dev.clearAxa (s : Dev) (i : Image) (bands : List Nat) (l : List AxaRegion) : Dev :=
  { s with mem := { s.mem with flags := s.mem.flags.filter fun (e : Nat × BitVec 2) =>
      !((addrOfWord s i bands e.1).any fun a => l.any fun r => decide (r.base ≤ a) && decide (a < r.base + r.size)) } }

/-! ### A reload image (R132, R133) -/

/-- The section types of a reload image of partition `n`, in order. -/
def reloadTypes (i : Image) : List Nat := i.table.map (·.type.toNat)

/-- The loaded whole image with the section of a reload in place of the partition's. -/
def mergeReload (w r : Image) (n : Nat) : Image :=
  { w with parts := w.parts.map fun p => if p.part = n then (r.parts.find? (·.part == n)).getD p else p }

/-- R133: the key that must have signed a reload. -/
def reloadKeyOf (w : Image) (n : Nat) : BitVec 256 :=
  let k := ((w.structure_.find? (·.part == n)).map (·.reloadKey)).getD 0
  if k = 0 then w.leafKey else k

/-- Indexes of a failure in the merged image, seen in the reload's own table. -/
def inReload (r : Image) (n : Nat) (v : Verdict) : Verdict := (v.1, sectIdx r (0x10 + n), v.2.2)

/-- R132, R133: the checks of a reload image for partition `n` over the loaded image `w`. -/
def Dev.checkReload (s : Dev) (w r : Image) (n : Nat) : Option Verdict :=
  let m := mergeReload w r n
  let p := (r.parts.find? (·.part == n)).map fun p => (s.partUnits m p, partRules m p)
  firstFail ([
    inHeader E_IMG_FORMAT (formatOk r 1),
    inHeader E_IMG_RELOAD_SCOPE ((reloadTypes r).all fun t => t == 0x10 + n),
    inHeader E_IMG_SIGNATURE (r.sig.isSome && r.sigOk && r.leafKey == reloadKeyOf w n),
    inHeader E_IMG_PART_MISMATCH (s.serialOk r),
    inHeader E_IMG_CLASS (decide (r.minClass ≤ s.boot.compatClass)),
    crcCheck r,
    inHeader E_IMG_BASE_MISMATCH (r.baseDigest == w.baseDigest),
    inHeader E_IMG_RULE (reloadTypes r == [0x10 + n] && r.parts.length == 1 && (r.parts.head?.map (·.part)) == some n)] ++
    ((p.map (·.1)).getD []).map (·.map (inReload r n)) ++
    ((p.map (·.2)).getD []).map (·.map (inReload r n)))

end Sys2Proof.Machine
end

