-- ==== Sys2Proof/Machine/ImageFile.lean ====
section
/-! DEFINITION. The bytes of a Fortu image (R100–R102, R108): its header, section table, signature block and QUEUES section. -/

namespace Sys2Proof.Machine

/-- The little-endian number of `n` bytes at an offset (R13). -/
def numAt (b : List Byte) (off n : Nat) : Nat := ofBytes ((b.drop off).take n)

/-- A stretch of an image. -/
def stretch (b : List Byte) (off n : Nat) : List Byte := (b.drop off).take n

/-- R101: entry `n` of the section table. -/
def tableEntry (b : List Byte) (n : Nat) : SectionHdr :=
  let e := 128 + 16 * n
  let off := numAt b (e + 4) 4
  let len := numAt b (e + 8) 4
  { type := BitVec.ofNat 16 (numAt b e 2), version := BitVec.ofNat 16 (numAt b (e + 2) 2), offset := off, length := len,
    crcOk := crc32 (stretch b off len) == numAt b (e + 12) 4 }

/-- R100, R101: the section table. -/
def tableOf (b : List Byte) : List SectionHdr := (List.range (numAt b 10 2)).map (tableEntry b)

/-- R102: where the signature block begins: the end of the last section. -/
def blockStart (t : List SectionHdr) : Nat := t.foldl (fun m h => max m (h.offset + h.length)) (128 + 16 * t.length)

/-- The bytes that a certificate in DER takes, by its tag and length; 0 where none begins here. -/
def derSize (l : List Byte) : Nat :=
  match l with
  | tag :: n :: r =>
    if tag ≠ 0x30 then 0
    else if n.toNat < 128 then 2 + n.toNat
    else
      let k := n.toNat - 128
      if k = 0 ∨ 4 < k then 0 else 2 + k + beNat (r.take k)
  | _ => 0

/-- R102: a chain of at most `n` certificates. -/
def derSplit : Nat → List Byte → Option (List (List Byte))
  | _, [] => some []
  | 0, _ => none
  | n + 1, l =>
    let k := derSize l
    if k = 0 ∨ l.length < k then none else (derSplit n (l.drop k)).map (l.take k :: ·)

/-- R102: the signature block lies between the last section and the end of the image: the length of its chain. -/
def chainLen (b : List Byte) (t : List SectionHdr) (len : Nat) : Option Nat :=
  let n := numAt b (blockStart t) 4
  if blockStart t + 4 + n + 384 = len ∧ len ≤ b.length then some n else none

/-- R108: the owners that a QUEUES section names, one byte per queue; 0xFF for an unowned queue. -/
def ownersOf (b : List Byte) (t : List SectionHdr) : List (Nat × Nat) :=
  match t.find? (·.type == 3) with
  | some h => ((stretch b h.offset h.length).zipIdx.filter fun e => e.1 != 0xFF).map fun e => (e.2, e.1.toNat)
  | none => []

/-- R100: the bytes over which the base digest is taken: the device sections, in table order. -/
def deviceBytes (b : List Byte) (t : List SectionHdr) : List Byte :=
  (t.filter fun h => decide (h.type.toNat < 0x10)).flatMap fun h => stretch b h.offset h.length

/-- R100–R102: the image that a file's bytes spell. -/
def readImage (f : ImageFile) : Image :=
  let b := f.bytes
  let t := tableOf b
  let len := numAt b 12 4
  let chain := chainLen b t len
  let base := BitVec.ofNat 256 (beNat (stretch b 32 32))
  let kind := numAt b 28 1
  { magic := BitVec.ofNat 32 (numAt b 0 4), format := BitVec.ofNat 16 (numAt b 4 2), hdrSize := BitVec.ofNat 16 (numAt b 6 2)
    part := BitVec.ofNat 16 (numAt b 8 2), length := len, id := BitVec.ofNat 64 (numAt b 16 8), version := BitVec.ofNat 32 (numAt b 24 4)
    kind, minClass := numAt b 29 1, baseDigest := base, serial := BitVec.ofNat 64 (numAt b 64 8)
    unusedZero := numAt b 30 2 == 0 && numAt b 72 56 == 0
    table := t
    chain := (chain.bind fun n => derSplit 4 (stretch b (blockStart t + 4) n)).getD []
    sig := chain.map fun n => BitVec.ofNat 3072 (beNat (stretch b (blockStart t + 4 + n) 384))
    certOk := f.certOk, sigOk := f.sigOk, leafKey := f.leafKey
    digestOk := base == sha256 (deviceBytes b t)
    digest := sha256 (if kind = 0 then b.take len else t.head?.elim [] fun h => stretch b h.offset h.length)
    structure_ := f.structure_, sets := f.sets, shares := f.shares, capsule := f.capsule, owners := ownersOf b t
    fabric := f.fabric, repair := f.repair, power := f.power, parts := f.parts }

end Sys2Proof.Machine
end

