-- ==== Sys2Proof/Machine/Boot.lean ====
section
/-! DEFINITION. The start (R61–R85, R117–R122, R371–R373, R601, R687–R696): its steps, what each finds, the image applied,
the boot mailbox, resets of the ports. -/

namespace Sys2Proof.Machine

/-! ### Beginning and halting (R61, R62, R67) -/

/-- R688: the regulators at their power-up defaults, in mV. -/
def railDefaults : SMap Rail :=
  ((List.range 6).map fun r => (r, ({ set := 750 } : Rail))) ++ [(38, { set := 1200 }), (39, { set := 2500 })]

/-- R61, R68, R78: a start from power-on begins its step 1 on a package that holds nothing. -/
def Dev.coldStart (s : Dev) : Dev :=
  { clock := s.clock, free := s.free, outbox := s.outbox, side := s.side
    boot := { powered := true, step := 1, epoch := 1, startMs := s.clock, part := s.boot.part, pkgRev := s.boot.pkgRev
              perst0 := s.boot.perst0, perst1 := s.boot.perst1 }
    pow := { rails := railDefaults } }

/-- R61: power-good on VAUX and VCORE_HUB: the part and its package revision are those of the package. -/
def Dev.powerGood (s : Dev) (part : BitVec 16) (rev : BitVec 4) : Dev :=
  if s.boot.powered then s
  else ({ s with boot := { s.boot with part, pkgRev := rev } } : Dev).coldStart

def execPowerGood (part : BitVec 16) (rev : BitVec 4) : State → Host.Outcome State Fault Refusal :=
  actAlways true fun s => s.powerGood part rev

/-- R67: the fabric links of a halted start do not train; what trained before the halt goes dark. -/
def Dev.stopFabric (s : Dev) : Dev :=
  s.fold (List.range 14) (fun s e => s.fold (List.range 8) fun s f => s.modFib e f fun b => { b with up := false, training := false, ident := none })
    |>.fold (List.range 6) fun s p => s.modFport p fun _ => {}

/-- R67, R578: the start halts with a code; vector 0 of both ports tells the hosts. -/
def Dev.haltStart (s : Dev) (code : Code) : Dev :=
  let s := ({ s with boot := { s.boot with halted := true, code } } : Dev).stopFabric.logE code s.boot.step
  (s.msix 0 0).msix 1 0

/-- The start is at step `n` and goes on. -/
def Dev.starting (s : Dev) (n : Nat) : Bool := s.boot.step == n && !s.boot.halted && !s.rcv.hung

def Dev.toStep (s : Dev) (n : Nat) : Dev := { s with boot := { s.boot with step := n } }

/-! ### Steps 1–3 (R55, R70–R79) -/

/-- R70, R79: boot firmware that verified runs and is measured; step 3 begins. DESIGN CHOICE (log entry 53): firmware that the
mailbox delivered came from no slot, and FW_SLOT reads 0 for it. -/
def Dev.runFirmware (s : Dev) (f : FwObj) (slot : Bool) : Dev :=
  (({ s with boot := { s.boot with firmware := some f, fwSlot := slot } } : Dev).extend 0 0x01 f.version f.digest).toStep 3

/-- R70: slot A, then slot B. -/
def Dev.fwStep (s : Dev) (a b : FwObj) : Dev :=
  if a.verifies then s.runFirmware a false else if b.verifies then s.runFirmware b true else s.haltStart E_BOOT_FW_INVALID

/-- R72: the tags that a record must hold on a part. -/
def requiredTags (part : BitVec 16) : List (BitVec 8) :=
  [0x01, 0x02, 0x04, 0x05, 0x06, 0x07, 0x08, 0x09, 0x0A, 0x0B, 0x0C, 0x0D, 0x0E, 0x0F, 0xF0] ++ if part = 0x7126 then [0x03] else []

/-- R72, R73: a copy of the board record that may be used: its signature verifies and it lacks no required entry. -/
def recordOk (part : BitVec 16) (r : RecCopy) : Bool := r.verifies && (requiredTags part).all (r.record.tags.contains ·)

/-- R73: the copy in use, and whether it is the secondary one. -/
def chooseRecord (part : BitVec 16) (p q : Option RecCopy) : Option (RecCopy × Bool) :=
  let ok := fun (c : Option RecCopy) => c.bind fun r => if recordOk part r then some r else none
  match ok p, ok q with
  | some a, some b => if a.record.seq.toNat < b.record.seq.toNat then some (b, true) else some (a, false)
  | some a, none => some (a, false)
  | none, some b => some (b, true)
  | none, none => none

/-- R74: the record belongs to this package: its check value is the first 128 bits of SHA-256 over the PUF key. -/
def recBound (r : RecCopy) : Bool := fld (sha256 (beBytes 32 r.pufKey.toNat)) 128 128 == r.record.keyCheck

/-- R73–R79, R653: the board record is chosen, bound and measured, the device key unwrapped, the start setting and the trim of
the oscillator made. The version that the log keeps is DESIGN CHOICE (log entry 53): the record's sequence number for event 0x02
and 0 for event 0x03. -/
def Dev.recordStep (s : Dev) (p q : Option RecCopy) : Dev :=
  match chooseRecord s.boot.part p q with
  | none => s.haltStart E_BOOT_RECORD_INVALID
  | some (r, second) =>
    if !recBound r then s.haltStart E_BOOT_RECORD_FOREIGN
    else
      let s := { s with boot := { s.boot with record := some r, recCopy := second, keyOk := r.unwraps
                                              code := if r.unwraps then s.boot.code else E_KEY_UNWRAP } }
      let s := s.when (!r.unwraps) fun s => s.logE E_KEY_UNWRAP 0
      let s := (s.extend 1 0x02 r.record.seq r.record.digest).extend 1 0x03 0 (sha256 r.record.floors)
      let s := { s with pow := { s.pow with osc := r.record.oscTrim } }
      s.startSetting.toStep 4

/-! ### Step 4 (R27–R31, R55, R689) -/

/-- R55: the table, row by row: the class, or the code of the halt. The hub die is listed first. -/
def compat (l : List (Option (BitVec 8))) : Except Code Nat :=
  let major := fun (x : BitVec 8) => x.toNat / 16
  let known := l.filterMap id
  if l.length ≠ 5 ∨ l.any (·.isNone) then .error E_DIE_SIDEBAND
  else if known.any fun x => decide (1 < major x) then .error E_DIE_STEP_UNKNOWN
  else if known.any (· == 0) then .error E_DIE_STEP_UNSUP
  else if known.all fun x => major x == 1 then .ok 2
  else .ok 1

/-- R28–R30: the start lane test of one bundle: failing lanes that the board record does not exclude are new. -/
def Dev.laneTest (s : Dev) (tests : List LaneTest) (l dir b : Nat) : Dev :=
  let bad := testFails tests l dir b &&& ~~~(s.recLanes l dir b)
  let s := s.modBundle l dir b fun u => { u with exclA := bad, exclB := bad, errs := [] }
  s.fold ((List.range 68).filter (bad.getLsbD ·)) fun s _ => s.logE E_D2D_LANE_NEW l

/-- R27–R31: the lane test, the use masks, the widths. -/
def Dev.linkTest (s : Dev) (tests : List LaneTest) (l : Nat) : Dev :=
  let s := s.fold (bundleIds l) fun s e => s.laneTest tests l e.1 e.2
  (s.trainLink l).widthEffect l

/-- Bytes of a register, for measurement. -/
def regBytes (w : Word) : List Byte := toBytes 8 w.toNat

/-- R27–R31, R55, R57, R79, R689: the stepping check, the rails, the lane test. What event 0x04 measures is DESIGN CHOICE (log
entry 53): `DEVICE_ID` and then `DIE_FEAT`, 8 little-endian bytes each, with version 0. -/
def Dev.lanesStep (s : Dev) (railsBad : List Nat) (tests : List LaneTest) : Dev :=
  match compat s.boot.steppings with
  | .error c => ({ s with boot := { s.boot with compatClass := 0, compatCode := c } } : Dev).haltStart c
  | .ok n =>
    let s := { s with boot := { s.boot with compatClass := n, compatCode := E_OK } }
    if railsBad.any fun r => decide (r < 41) && s.railThere r then s.haltStart E_VR_RAIL
    else
      let s := s.fold (allLinks.filter (s.linkFitted ·)) fun s l => s.linkTest tests l
      (s.extend 2 0x04 0 (sha256 (regBytes s.vDeviceId ++ regBytes s.vDieFeat))).toStep 5

/-! ### Step 5 (R58) -/

def Dev.releaseStep (s : Dev) : Dev :=
  ({ s with boot := { s.boot with released := 0xF &&& ~~~s.boot.isolated } } : Dev).toStep 6

/-- R58: a compute die does not report its release within 2 ms. -/
def execDieReleaseTimeout (die : Nat) : State → Host.Outcome State Fault Refusal :=
  act (.dieReleaseTimeout die) fun s => if s.starting 5 then s.isolateDie die else s

/-! ### Step 6 (R85, R210, R318, R601) -/

/-- R210–R212: a failed row enters the map at a start. A row already there adds nothing. -/
def Dev.startRow (s : Dev) (u row : Nat) : Dev :=
  let c := u / 2
  let a := u % 2
  let m := s.arr c a
  if m.st = .retired ∨ m.map.contains row then s
  else if 4 ≤ m.map.length then s.retireArr c a E_ARRAY_SPARES_OUT
  else s.modArr c a fun m => { m with map := insertBy id row m.map }

/-- R85: the BIST finds a failing row; in the map it is a failure of the chain (R212). -/
def Dev.bistRow (s : Dev) (u row : Nat) : Dev :=
  if (s.arr (u / 2) (u % 2)).map.contains row then s.retireArr (u / 2) (u % 2) E_ARRAY_CHAIN else s.startRow u row

/-- The physical channel of a logical one under a list of stack repairs, the last of which applies. -/
def repairedTo (l : List (Nat × Nat × Nat)) (k p : Nat) : Option Nat :=
  (l.reverse.find? fun e => e.1 == k && e.2.1 == p).map (·.2.2)

/-- R318: the physical channels of a stack that no logical channel uses. -/
def unusedPhys (f : Nat → Nat) : List Nat := (List.range 32).filter fun x => (List.range 31).all fun p => f p != x

/-- R318: the stack repairs of one stack: each logical channel named takes its physical channel, and the physical channel that
remains is the standby, which is no longer free where it is another than before. A list that would put two logical channels on one
physical channel names no mapping and changes nothing. -/
def Dev.stackRepair (s : Dev) (l : List (Nat × Nat × Nat)) (k : Nat) : Dev :=
  let phys := fun (p : Nat) => (repairedTo l k p).getD (s.physOf k p)
  match unusedPhys phys with
  | [x] =>
    let s := s.modStk k fun b => { b with standby := x, standbyFree := b.standbyFree && b.standby == x }
    s.fold (List.range 31) fun s p => s.modChan k p fun c => { c with phys := if phys p = p then none else some (phys p) }
  | _ => s

/-- R110, R318: the stack repairs of a list. -/
def Dev.stackRepairs (s : Dev) (l : List (Nat × Nat × Nat)) : Dev :=
  s.fold ((List.range 32).filter fun k => l.any (·.1 == k)) fun s k => s.stackRepair l k

/-- R85: a channel fails its training: the standby takes its place, or it is dead. -/
def Dev.chanFails (s : Dev) (k p : Nat) : Dev :=
  if (s.stk k).standbyFree then s.toStandby k p else s.killChan k p

/-- R601, R351: the capsule halves present, and their headers. `v` says which of the copies found are valid. -/
def Dev.capsuleStart (s : Dev) (v : Bool × Bool) : Dev :=
  let there := s.capsuleStacks.map fun k => !s.boot.stacksLost.getLsbD k
  let n := there.countP id
  let valid := (there.getD 0 false && v.1) || (there.getD 1 false && v.2)
  let c := s.rcv.capsule
  if n = 0 then { s with rcv := { s.rcv with capsule := { c with halves := 0 } } }
  else if valid && c.halves == n then s
  else { s with rcv := { s.rcv with capsule := { halves := n, trunc := c.trunc } } }

/-- R85, R86: what the BIST and the stack training found. -/
def Dev.bist (s : Dev) (b : BistResult) : Dev :=
  let live := fun (c : Nat) => decide (c < 32) && s.coreOn c && s.dieReleased (c / 8)
  let s := s.fold (b.rowsFailed.filter fun e => live (e.1 / 2) && decide (e.2 < 260)) fun s e => s.bistRow e.1 e.2
  let s := s.fold (b.banksLost.filter fun u => live (u / 2)) fun s u => s.retireArr (u / 2) (u % 2) E_DRAIN_UNCORR
  let s := s.fold (b.coresLost.filter live) fun s c => (s.loseCore c).unitLost Config.coreLost c
  s.fold (b.chansFailed.filter fun e => decide (e.2 < 31) && decide (e.1 < 32) && s.stackThere e.1) fun s e => s.chanFails e.1 e.2

/-- R85, R210, R318, R350, R601: step 6: repairs of the board record, then stack training and BIST. -/
def Dev.trainStep (s : Dev) (b : BistResult) : Dev :=
  let s := s.rec?.elim s fun r =>
    (s.fold (r.spareRows.filter fun e => s.rowOnPart e) fun s e => s.startRow e.1 e.2).stackRepairs r.stackRepairs
  let s := s.fold ((List.range 32).filter (s.stackThere ·)) fun s k => s.modStk k fun b => { b with selfRefresh := false }
  ((s.bist b).capsuleStart b.capsuleValid).toStep 7

/-! ### Step 7 (R371–R373) -/

/-- R404, R429: neighbour slots per fibre of an engine: n0 of its dimension, 14 on a trunk and before the plan is known. -/
def Dev.slots0 (s : Dev) (e : Nat) : Nat :=
  match s.img.loaded with
  | some i => if e < 6 then i.fabric.allotX.1 else if e < 12 then i.fabric.allotY.1 else 14
  | none => 14

/-- R371: slots of one fibre direction: through slots where the plan puts them, neighbour slots on the usable wavelengths
that remain, in ascending order. -/
def Dev.placeFibre (s : Dev) (e f dir : Nat) : Dev :=
  let plan := ((s.img.loaded.map (·.fabric.through)).getD []).filter fun t => t.1.eng == e && t.1.fib == f && t.1.dir == dir
  let through : BitVec 16 := plan.foldl (fun m t => setBit m t.1.lam) 0
  let free := (List.range 16).filter fun l => !through.getLsbD l && !((s.fib e f).failed dir).getLsbD l
  let act : BitVec 16 := (free.take (s.slots0 e)).foldl setBit through
  let s := s.fold (plan.filter fun t => ((s.fib e f).failed dir).getLsbD t.1.lam) fun s _ =>
    (s.logE E_ENG_THROUGH_FAIL e).modEng e fun g => { g with cause := E_ENG_THROUGH_FAIL }
  s.modFib e f fun b => if dir = 0 then { b with active0 := act, through0 := through } else { b with active1 := act, through1 := through }

def Dev.placeSlots (s : Dev) (e : Nat) : Dev :=
  s.fold (List.range 8) fun s f => (s.placeFibre e f 0).placeFibre e f 1

/-- Wavelengths that are excluded or failed (R371, R401). -/
def Dev.markFailed (s : Dev) (l : List LambdaRef) : Dev :=
  s.fold (l.filter (·.ok)) fun s l => s.modFib l.eng l.fib fun b => b.setFailed l.dir (setBit (b.failed l.dir) l.lam)

/-- R372: an input below its absolute minimum leaves its four pairs out of service. -/
def Dev.inputDark (s : Dev) (e i : Nat) : Dev :=
  let s := s.modEng e fun g => { g.setInput i .lost (g.power i) with cause := E_ENG_LASER_LOST }
  (s.fold (inputPairs i) fun s f => s.modFib e f fun b => { b with txLost := true }).logE E_ENG_LASER_LOST e

/-- R372, R373: one engine's calibration. -/
def Dev.calibrate (s : Dev) (c : EngCal) : Dev :=
  let e := c.eng
  if !c.ringsLock || !c.vhtrOk then
    ((s.modEng e fun g => { g with fenced := true, cause := E_ENG_CAL_FAIL }).loseEng e).unitLost E_ENG_CAL_FAIL e
  else
    let s := s.modEng e fun g => { g with calibrated := true, calA := c.levelA, calB := c.levelB }
    let s := (s.when (!c.inA) (·.inputDark e 0)).when (!c.inB) (·.inputDark e 1)
    (s.markFailed ((s.recLambdas ++ c.failed).filter (·.eng == e))).placeSlots e

/-- R64, R372: step 7, after which every port trains. An engine that nothing is said of calibrated without a finding. -/
def Dev.calStep (s : Dev) (cal : List EngCal) : Dev :=
  let es := (List.range 14).filter fun e => s.engFitted e && !s.boot.engsLost.getLsbD e
  let s := s.fold es fun s e =>
    s.calibrate ((cal.find? (·.eng == e)).getD { eng := e, ringsLock := true, vhtrOk := true, inA := true, inB := true, levelA := 0, levelB := 0, failed := [] })
  let s := s.fold (List.range 6) fun s p =>
    s.modFport p fun t => { t with st := if (s.portEngs p).isEmpty then .absent else .training }
  (s.fold (List.range 6) fun s p => s.trainPort p).toStep 8

/-! ### Steps 8 and 9 (R64, R117–R122) -/

/-- R117: step 9 begins; the image comes from the source that the board record names. DESIGN CHOICE (log entry 53): STATE of
`IMG_STAT` reads 1 from here on for an image of the flash, which is still to be read. -/
def Dev.linksStep (s : Dev) : Dev :=
  let host := (s.rec?.map (·.fromHost)).getD false
  ({ s with boot := { s.boot with imgWanted := host, delivered := none }, img := { s.img with st := if host then 0 else 1 } } : Dev).toStep 9

/-- R118, R120: an image is rejected; the device waits for another through the mailbox of either port. -/
def Dev.rejectImage (s : Dev) (v : Verdict) : Dev :=
  ({ s with img := { s.img with st := 3, code := v.1, section_ := BitVec.ofNat 8 v.2.1, entry := BitVec.ofNat 24 v.2.2 }
            boot := { s.boot with imgWanted := true } } : Dev).logE v.1 0

/-- R110, R210, R211: the REPAIR section: spare rows, stack repairs, lanes, wavelengths, excluded engines. -/
def Dev.applyRepair (s : Dev) (r : RepairSection) : Dev :=
  let s := s.fold r.spareRows fun s e => s.startRow e.1 e.2
  let s := s.stackRepairs r.stackRepairs
  let s := s.fold r.lanes fun s e => (s.trainBundle e.link e.dir e.bundle).widthEffect e.link
  let s := s.markFailed r.lambdas
  { s with boot := { s.boot with engsLost := s.boot.engsLost ||| r.exclEngines } }

/-- R407: the circuit `n` of R435 is in the plan. -/
def Dev.cktPlanned (s : Dev) (n : Nat) : Bool :=
  let y := n / 4 % 2 == 1
  let pl := s.plan y
  let c := if y then s.devNum / 128 else s.devNum % 128
  if n % 2 == 1 then pl.2.2 && c % 4 == 0 else pl.2.1

/-- R407, R435: the device at the other end: 8 or 32 positions on, or back for a circuit that ends here. -/
def Dev.cktFar (s : Dev) (n : Nat) : Nat :=
  let y := n / 4 % 2 == 1
  let d := (s.plan y).1
  let len := if n % 2 = 1 then 32 else 8
  let back := (n / 2 % 2 + n / 8 % 2) % 2 == 1
  let me := coords s.devNum
  let go := fun (c : Nat) => if back then (c + len * d - len) % d else (c + len) % d
  if y then me.1 + 128 * go me.2 else go me.1 + 128 * me.2

/-- R407: wavelengths of a circuit: the slots of its level on three fibres. -/
def Dev.cktWidth (s : Dev) (n : Nat) : Nat :=
  match s.img.loaded with
  | none => 0
  | some i =>
    let a := if n / 4 % 2 = 1 then i.fabric.allotY else i.fabric.allotX
    3 * (if n % 2 = 1 then a.2.2 else a.2.1)

def Dev.setupCkt (s : Dev) (n : Nat) : Dev :=
  s.modCkt n fun _ => if s.cktPlanned n then { st := .training, far := s.cktFar n, width := s.cktWidth n } else {}

/-- R381, R393: a port is compared with the plan as the FABRIC section is applied. -/
def Dev.planPort (s : Dev) (p : Nat) : Dev :=
  let t := s.fport p
  if t.st = .absent then s
  else if t.nbr.isSome then (if t.st = .mismatch then s else s.comparePort p)
  else if s.portUnused p then s.modFport p fun t => { t with st := .unused }
  else if t.st = .noNeighbour then (s.modFport p fun t => { t with cause := E_PORT_MISSING }).logE E_PORT_MISSING p
  else s

/-- R122, R371, R379, R407, R409: the FABRIC section is applied. IDENT goes out again, since its fields change. -/
def Dev.applyFabric (s : Dev) : Dev :=
  let s := s.fold ((List.range 14).filter (s.engThere ·)) fun s e => s.placeSlots e
  let s := s.fold (List.range 4) fun s p => s.passLight p
  let s := s.fold (List.range 16) fun s n => s.setupCkt n
  let s := s.fold (List.range 6) fun s p => s.sendIdents p
  s.fold (List.range 6) fun s p => s.planPort p

/-- R5, R124–R129: the capability registers become valid. -/
def Dev.validCaps (s : Dev) (r : RepairSection) : Dev :=
  let cores := s.enabledCores &&& ~~~r.exclCores &&& ~~~s.boot.coresLost
  let arr := fun (u : Nat) => cores.getLsbD (u / 2) && !r.exclArrays.getLsbD u && (s.arr (u / 2) (u % 2)).st != .retired
  let fenced := fun (e : Nat) => (s.eng e).fenced
  { s with img := { s.img with
      capsValid := true
      coresUsable := cores
      coresEnabled := s.enabledCores
      arraysUsable := BitVec.ofNat 64 (maskOf 64 arr)
      stacksUsable := s.fittedStacks &&& ~~~r.exclStacks &&& ~~~s.boot.stacksLost
      stacksFitted := s.fittedStacks
      engUsable := BitVec.ofNat 14 (maskOf 14 fun e => s.engFitted e && !s.boot.engsLost.getLsbD e && !fenced e)
      engFitted := s.fittedEngs } }

/-- R338: the list of turns: the channels active at step 10, by (channel, stack). -/
def Dev.turnList (s : Dev) : List (Nat × Nat) :=
  ((List.range 31).flatMap fun p => (List.range 32).map fun k => (k, p)).filter fun e => s.chanActive e.1 e.2

/-- R66, R68, R86, R92, R338, R615, R623: step 10. -/
def Dev.readyStep (s : Dev) : Dev :=
  let s := (s.endActive 6 0).testDropAbsent
  let s := { s with boot := { s.boot with step := 10, bootMs := BitVec.ofNat 16 (cap 16 (s.clock - s.boot.startMs)) }
                    img := { s.img with turns := s.turnList, turnAt := 0 } }
  let s := s.sendReports
  let m := BitVec.ofNat 2 ((s.img.loaded.map (·.power.mode)).getD 2)
  let s := ({ s with pow := { s.pow with mode := m } } : Dev).startChange m
  let held := s.boot.attnHeld
  ({ s with boot := { s.boot with attnHeld := false } } : Dev).when held (·.press)

/-- R122: a checked image is applied and the start reaches step 10. -/
def Dev.applyImage (s : Dev) (i : Image) (fromHost : Bool) : Dev :=
  let s := { s with
    img := { s.img with loaded := some i, st := 2, code := E_OK, section_ := 0xFF, entry := 0 }
    boot := { s.boot with imgWanted := false } }
  let s := s.applyRepair i.repair
  let s := { s with img := { s.img with bands := (s.bandsOf i).map (fun (b : Nat × Nat) => b.1) } }
  let s := s.clearAxa i s.img.bands (i.parts.flatMap (·.axa))
  let s := s.applyFabric
  let s := (s.extend 3 0x05 i.version i.digest).validCaps i.repair
  ({ s with boot := { s.boot with imgSrc := fromHost } } : Dev).readyStep

/-- R118–R122: an image that has been delivered completely is checked, and applied or rejected. -/
def Dev.takeImage (s : Dev) (i : Image) (fromHost : Bool) : Dev :=
  match s.checkImage i with
  | some v => s.rejectImage v
  | none => s.applyImage i fromHost

/-- R117, R118: the image of the flash; a flash without one holds no image of the format. -/
def Dev.imageStep (s : Dev) (f : Option ImageFile) : Dev :=
  if s.boot.imgWanted || s.boot.delivered.isSome then s
  else match f with
    | some f => s.takeImage (readImage f) false
    | none => s.rejectImage (E_IMG_FORMAT, 0xFF, 0)

/-! ### PERST_N (R66, R67, R696) -/

/-- R66: the PCI Express logic of a port is reset: its link falls and every vector is masked. -/
def HPort.reset (h : HPort) : HPort :=
  { h with up := false, speed := 0, width := 0, l0p := 0, flit := false, d3hot := false, unmasked := [], pendingVec := [] }

def Dev.setPerst (s : Dev) (port : Nat) (b : Bool) : Dev :=
  if port = 0 then { s with boot := { s.boot with perst0 := b } } else { s with boot := { s.boot with perst1 := b } }

def Dev.perstOn (s : Dev) (port : Nat) : Dev :=
  let s := (s.setPerst port true).modHport port HPort.reset
  s.when (s.boot.perst0 && s.boot.perst1) fun s => { s with boot := { s.boot with perstBoth := true } }

/-- R696: start step 1 begins again. No rail is cycled: HBM and capsule are kept, and so are the measurement log and its
accumulators, which only a start from power-on or a device reset clears (R80). -/
def Dev.startAgain (s : Dev) : Dev :=
  let s := s.fold s.host.queues fun s q => s.completeAll q.1 E_ATTN_DRAIN
  let b := s.boot
  let r := s.rcv
  { s.restarted with
    boot := { powered := true, step := 1, epoch := b.epoch + 1, startMs := s.clock, part := b.part, pkgRev := b.pkgRev
              accs := b.accs, log := b.log, perst0 := b.perst0, perst1 := b.perst1 }
    pow := { rails := s.pow.rails.map fun e => (e.1, e.2.anew), fabRef := s.pow.fabRef
             ref0 := s.pow.ref0, ref1 := s.pow.ref1 }
    rcv := { lastDomain := r.lastDomain, lastUnit := r.lastUnit, lastCause := r.lastCause, escalations := r.escalations
             devTimes := r.devTimes, hbCount := r.hbCount, capsule := r.capsule }
    evc := {} }

/-- R696: the later of the two PERST_N deasserts, on a halted start or in drain phase 5. -/
def Dev.perstOff (s : Dev) (port : Nat) : Dev :=
  let s := s.setPerst port false
  if !s.boot.perstBoth || s.boot.perst0 || s.boot.perst1 then s
  else
    let s := { s with boot := { s.boot with perstBoth := false } }
    if s.live && (s.boot.halted || s.rcv.phase == 5) then s.startAgain else s

def execPerstAssert (port : Nat) : State → Host.Outcome State Fault Refusal :=
  actAlways (port < 2) fun s => if s.pinsTaken then s else s.perstOn port
def execPerstDeassert (port : Nat) : State → Host.Outcome State Fault Refusal :=
  actAlways (port < 2) fun s => if s.pinsTaken then s else s.perstOff port

/-! ### The boot mailbox (R70, R117, R561, R562) -/

def Dev.modMbox (s : Dev) (port : Nat) (f : Mbox → Mbox) : Dev := s.modHport port fun h => { h with mbox := f h.mbox }

/-- A mailbox request or fetch ends with a code; vector 0 tells the host (R578). -/
def Dev.mboxEnd (s : Dev) (port : Nat) (code : Code) : Dev :=
  (s.modMbox port fun m => { m with go := false, busy := false, code }).msix port 0

/-! ### The commands of the start -/

/-- R117, R118, R120: the check of an image that a mailbox has delivered ends; the mailbox reports it. -/
def Dev.checkedStep (s : Dev) : Dev :=
  match s.boot.delivered with
  | some (port, i) =>
    let code := ((s.checkImage i).map (·.1)).getD E_OK
    (({ s with boot := { s.boot with delivered := none } } : Dev).takeImage i true).mboxEnd port code
  | none => s

/-- R61: a step of the start has completed with what it found. -/
def Dev.stepDone (s : Dev) (r : StepDone) : Dev :=
  match r with
  | .rom l => if s.starting 1 then ({ s with boot := { s.boot with steppings := l } } : Dev).toStep 2 else s
  | .firmware a b => if s.starting 2 then s.fwStep a b else s
  | .record p q => if s.starting 3 then s.recordStep p q else s
  | .lanes bad fails => if s.starting 4 then s.lanesStep bad fails else s
  | .release => if s.starting 5 then s.releaseStep else s
  | .train b => if s.starting 6 then s.trainStep b else s
  | .calibrate c => if s.starting 7 then s.calStep c else s
  | .links => if s.starting 8 then s.linksStep else s
  | .image f => if s.starting 9 then s.imageStep f else s
  | .checked => if s.starting 9 then s.checkedStep else s

def execStartStepDone (r : StepDone) : State → Host.Outcome State Fault Refusal :=
  act (.startStepDone r) fun s => s.stepDone r

/-- R62, R120: a step exceeded its limit. The wait of step 9 for the delivery of an image does not count. -/
def Dev.stepTimeout (s : Dev) : Dev :=
  if s.boot.step = 0 ∨ 10 ≤ s.boot.step ∨ s.boot.halted ∨ (s.boot.step = 9 ∧ s.boot.imgWanted) then s
  else s.haltStart E_BOOT_STEP_TIMEOUT

def execBootStepTimeout : State → Host.Outcome State Fault Refusal :=
  act .bootStepTimeout fun s => s.stepTimeout

/-- R556: the function is put in D3hot, or back in D0, where what waited for the port goes out (R572). -/
def Dev.setPower (s : Dev) (port : Nat) (d3 : Bool) : Dev :=
  (s.modHport port fun h => { h with d3hot := d3 }).deliver port

/-- R65: a configuration request of a port whose link is up: a retry until step 2 has ended, then success. `d3`: it writes the
power state of the function, D3hot or D0 (R556). -/
def Dev.configReq (s : Dev) (port : Nat) (d3 : Option Bool) : Dev :=
  if s.boot.step < 2 ∨ !(s.hport port).up ∨ s.perst port then s
  else
    let ok := decide (3 ≤ s.boot.step) || s.boot.halted
    (d3.elim s fun b => s.when ok (·.setPower port b)).out (.config port ok)

def execConfigRequest (req : CfgAccess) : State → Host.Outcome State Fault Refusal :=
  act (.configRequest req) fun s => s.configReq req.port req.d3

/-! ### What the mailbox accepts (R562) -/

/-- The start accepts boot firmware: only on P0, only after `E_BOOT_FW_INVALID`. -/
def Dev.wantsFw (s : Dev) (port : Nat) : Bool := port == 0 && s.boot.halted && s.boot.code == E_BOOT_FW_INVALID
/-- The start accepts a whole image: at step 9. -/
def Dev.wantsImg (s : Dev) : Bool := s.boot.step == 9 && !s.boot.halted && s.boot.imgWanted

/-- R562: ADDR and LEN are in range. -/
def Dev.mboxArgs (s : Dev) (port most : Nat) : Bool :=
  let a := s.reg (mboxBlock port) 0
  let n := fldN (s.reg (mboxBlock port) 8) 0 32
  fldN a 0 12 == 0 && decide (1 ≤ n) && decide (n ≤ most)

/-- R561, R562: GO is written with KIND. The object is fetched from host memory; that its bytes have come is
MBOX_FETCH_DONE. DESIGN CHOICE (log entry 53): STATE of `IMG_STAT` reads 1 while the image is fetched, as while it is checked. -/
def Dev.mboxGo (s : Dev) (port kind : Nat) : Dev :=
  if (s.hport port).mbox.busy then s
  else
    let s := s.modMbox port fun m => { m with kind }
    let ok := if kind = 1 then s.wantsFw port && s.mboxArgs port 0x800000 else if kind = 2 then s.wantsImg && s.mboxArgs port 0x2000000 else false
    if (s.hport (1 - port)).mbox.busy then s.mboxEnd port E_IMG_BUSY
    else if !ok then s.mboxEnd port E_MBOX_BAD
    else
      let s := s.modMbox port fun m => { m with go := true, busy := true, code := E_OK }
      let s := s.when (kind == 2) fun s => { s with img := { s.img with st := 1 } }
      s.out (.hostFetch port (s.reg (mboxBlock port) 0) (fldN (s.reg (mboxBlock port) 8) 0 32))

def execMboxBootFirmware (port : Nat) : State → Host.Outcome State Fault Refusal :=
  act (.mboxBootFirmware port) fun s => s.mboxGo port 1
def execMboxWholeImage (port : Nat) : State → Host.Outcome State Fault Refusal :=
  act (.mboxWholeImage port) fun s => s.mboxGo port 2

/-- R70, R117, R120: the object has been fetched. Firmware is checked at once; an image is delivered, and its check, to which the
limit of step 9 applies, begins. -/
def Dev.fetchDone (s : Dev) (port : Nat) (obj : MboxObj) : Dev :=
  let m := (s.hport port).mbox
  if !m.busy then s
  else match obj with
    | .firmware f =>
      if m.kind ≠ 1 ∨ !s.wantsFw port then s
      else if !f.verifies then s.mboxEnd port E_BOOT_FW_INVALID
      else (({ s with boot := { s.boot with halted := false, code := E_OK } } : Dev).runFirmware f false).mboxEnd port E_OK
    | .image f =>
      if m.kind ≠ 2 ∨ !s.wantsImg then s
      else { s with boot := { s.boot with imgWanted := false, delivered := some (port, readImage f) } }

def execMboxFetchDone (port : Nat) (obj : MboxObj) : State → Host.Outcome State Fault Refusal :=
  act (.mboxFetchDone port obj) fun s => s.fetchDone port obj

end Sys2Proof.Machine
end

