-- ==== Sys2Proof/Machine/Trust.lean ====
section
/-! DEFINITION. Quotes and the measurement log as management commands read them (R78, R80–R83, R575). -/

namespace Sys2Proof.Machine

/-- The partition a management command acts for: its queue's owner; for a forwarded command, the one that owns the HFM queue
of the lowest number, as which it acts (R574). -/
def Dev.actPart (s : Dev) (iss : Issuer) : Nat :=
  match s.issPart iss with
  | some n => n
  | none =>
    match s.img.loaded with
    | none => 0
    | some i => ((i.owners.filter fun e => s.hfmQueue e.1).foldl
        (fun (m : Option (Nat × Nat)) e => match m with
          | some b => if e.1 < b.1 then some e else some b
          | none => some e) none).elim 0 (·.2)

/-- Bytes cut where an address of 32 B alignment lies between them. -/
def cut32 : Nat → Nat → List Byte → List (Nat × List Byte)
  | 0, _, _ => []
  | n + 1, a, l => if l.isEmpty then [] else (a, l.take (32 - a % 32)) :: cut32 n (a + (32 - a % 32)) (l.drop (32 - a % 32))

/-- R567: bytes written to the output buffer of a management command: a host address with bit 63 set, or a local one. -/
def Dev.outBuf (s : Dev) (part : Nat) (arg : Word) (bytes : List Byte) : Dev :=
  if bytes.isEmpty then s
  else if arg.getLsbD 63 then s.hostSend (s.portOf part) (.hostWrite (s.portOf part) (BitVec.ofNat 64 (arg.toNat % 2 ^ 63)) bytes)
  else s.fold (cut32 bytes.length arg.toNat bytes) fun s e => s.hubStore e.1 e.2

/-! ### The log (R78, R80) -/

/-- R78: an entry of the log as bytes. -/
def MeasEntry.bytes (m : MeasEntry) : List Byte :=
  [BitVec.ofNat 8 m.acc, m.event] ++ toBytes 2 0 ++ toBytes 4 m.version.toNat ++ beBytes 32 m.digest.toNat

/-- R575 LOG_READ: up to 64 entries. -/
def Dev.mgLogRead (s : Dev) (e : Entry) (iss : Issuer) : Dev :=
  let l := (s.boot.log.drop (ebytes e 32 4)).take 64
  (s.outBuf (s.actPart iss) (BitVec.ofNat 64 (eArg e)) (l.flatMap MeasEntry.bytes)).answer iss E_OK (BitVec.ofNat 64 l.length)

def execLogRead (q : Nat) : State → Host.Outcome State Fault Refusal :=
  act (.logRead q) fun s => s.runMgmt q 3 Dev.mgLogRead

/-! ### Quotes (R81–R83) -/

/-- R82: bytes 0–319 of a quote that covers `n` log entries, which its signature signs. -/
def Dev.quoteBody (s : Dev) (r : QuoteReq) (n : Nat) : List Byte :=
  toBytes 4 0x54515856 ++ toBytes 2 1 ++ toBytes 2 0 ++ toBytes 8 s.ownSerial.toNat ++ toBytes 32 r.nonce.toNat ++
    ((List.range 8).flatMap fun a => beBytes 32 (look 0 s.boot.accs a).toNat) ++ toBytes 4 n ++ toBytes 2 s.boot.epoch.toNat ++
    toBytes 2 s.boot.part.toNat ++ toBytes 8 0

/-- R81, R83: the oldest waiting quote begins where none is being signed. -/
def Dev.nextQuote (s : Dev) : Dev :=
  match s.boot.signing, s.boot.quotes with
  | none, r :: l => { s with boot := { s.boot with signing := some (r, s.boot.log.length), quotes := l } }
  | _, _ => s

/-- R575 QUOTE, R77, R83. -/
def Dev.mgQuote (s : Dev) (e : Entry) (iss : Issuer) : Dev :=
  let r : QuoteReq := { iss, part := s.actPart iss, nonce := BitVec.ofNat 256 (ebytes e 32 32), buf := BitVec.ofNat 64 (eArg e) }
  if !s.boot.keyOk then s.answer iss E_KEY_UNWRAP
  else if s.boot.signing.isSome && decide (16 ≤ s.boot.quotes.length) then s.answer iss E_QUOTE_BUSY
  else ({ s with boot := { s.boot with quotes := s.boot.quotes ++ [r] } } : Dev).nextQuote

def execQuote (q : Nat) : State → Host.Outcome State Fault Refusal :=
  act (.quote q) fun s => s.runMgmt q 2 Dev.mgQuote

/-- R81–R83: the quote being signed is complete: it is written out, the extensions that waited are made, and the next one
begins. -/
def Dev.quoteDone (s : Dev) (sig : BitVec 3072) : Dev :=
  match s.boot.signing with
  | none => s
  | some (r, n) =>
    let s := (s.outBuf r.part r.buf (s.quoteBody r n ++ beBytes 384 sig.toNat)).answer r.iss E_OK
    let s := { s with boot := { s.boot with signing := none, extWait := [] } }.fold s.boot.extWait fun s m => s.extendNow m
    s.nextQuote

def execQuoteSigned (sig : BitVec 3072) : State → Host.Outcome State Fault Refusal :=
  act (.quoteSigned sig) fun s => s.quoteDone sig

end Sys2Proof.Machine
end

