-- ==== Sys2Proof/Machine/Reload.lean ====
section
/-! DEFINITION. Live reload of a partition (R80, R132–R141, R225, R491). -/

namespace Sys2Proof.Machine

/-- R141: a reload ended with a code; its command completes, and the doorbells that were held are acted on. -/
def Dev.endReload (s : Dev) (r : Reload) (code : Code) (section_ : BitVec 8) (entry : BitVec 24) : Dev :=
  (({ s with img := { s.img with reload := none, code, section_, entry } } : Dev).releaseAll).answer r.iss code

/-- The partition whose reload a command asks for: its own, or, for a forwarded command, the one that its image names. -/
def Dev.reloadPartOf (s : Dev) (i : Image) (iss : Issuer) : Nat :=
  match s.issPart iss with
  | some n => n
  | none => ((i.parts.head?).map (·.part)).getD (s.actPart iss)

/-- R80, R132, R138, R575 IMG_RELOAD: the image is fetched and its check begins. -/
def Dev.mgImgReload (i : Image) (s : Dev) (e : Entry) (iss : Issuer) : Dev :=
  let ms := ebytes e 44 2
  let n := s.reloadPartOf i iss
  if 1000 < ms then s.answer iss E_MGMT_OPERAND
  else if s.img.reload.isSome then s.answer iss E_IMG_BUSY
  else if 4096 ≤ s.boot.log.length then s.answer iss E_MEAS_LOG_FULL
  else
    let r : Reload := { part := n, image := i, iss, drainMs := if ms = 0 then 10 else ms, phase := .check, failed := none }
    ({ s with img := { s.img with reload := some r, reloadPart := n } } : Dev).out
      (.hostFetch (s.portOf n) (BitVec.ofNat 64 (ebytes e 32 8)) (ebytes e 40 4))

def execImgReload (q : Nat) (img : ImageFile) : State → Host.Outcome State Fault Refusal :=
  act (.imgReload q img) fun s => s.runMgmt q 1 (Dev.mgImgReload (readImage img))

/-- R133, R134, R139: the image has been fetched and checked: the drain begins, or the reload ends. -/
def Dev.reloadChecked (s : Dev) : Dev :=
  match s.img.reload, s.img.loaded with
  | some r, some w =>
    if r.phase ≠ .check then s
    else match s.checkReload w r.image r.part with
      | some v => s.endReload r v.1 (BitVec.ofNat 8 v.2.1) (BitVec.ofNat 24 v.2.2)
      | none =>
        let s := { s with img := { s.img with reload := some { r with phase := .drain } } }
        s.resetTests fun kind unit => s.testOwnedBy kind unit r.part
  | _, _ => s

def execReloadCheckDone : State → Host.Outcome State Fault Refusal :=
  act .reloadCheckDone fun s => s.reloadChecked

/-- The queue in which the command of the reload in progress stands. -/
def Dev.reloadQueue (s : Dev) : Option Nat :=
  s.img.reload.bind fun r => match r.iss with
    | .queue q => some q
    | .remote _ => none

/-- R134, R136: work of a partition is still running: a started entry other than the reload's own command, a thread or an array
instruction on one of its cores. -/
def Dev.partRuns (s : Dev) (n : Nat) : Bool :=
  (s.host.queues.any fun q => s.qOwner q.1 == some n && some q.1 != s.reloadQueue && q.2.entries.any (·.started)) ||
    s.cores.any fun c => s.partOfCore c.1 == some n &&
      (c.2.threads.any (fun t => t.2.st != .empty) || !c.2.a0.queue.isEmpty || !c.2.a1.queue.isEmpty)

/-- R136: the queues of a partition whose descriptor differs between two images. -/
def changedQueues (a b : Image) (n : Nat) : List Nat := (b.owners.filter fun e => e.2 == n && qDescOf a e.1 != qDescOf b e.1).map (·.1)

/-- R136, R571: a queue whose descriptor changes is empty afterwards; its group is destroyed (R549). -/
def Dev.discardQueue (s : Dev) (q : Nat) : Dev :=
  let s := s.fold ((s.queue q).entries.filter fun e => !e.started) fun s e => s.complete q e.seq E_Q_DISCARDED
  let s := s.modQueue q fun k => { k with heldFrom := none }
  s.when (s.group q).isSome (·.destroyGroup q [])

/-- R225: the arrays that a section brings into use. -/
def newArrays (a b : PartSection) : List (Nat × Nat) :=
  b.arrayUse.flatMap fun u => (List.range 2).filterMap fun k =>
    if u.2.getLsbD k && !((a.arrayUse.find? (·.1 == u.1)).any fun v => v.2.getLsbD k) then some (u.1, k) else none

/-- R134, R136, R141, R143, R225, R491: the new settings of partition `n` replace the old ones. -/
def Dev.switchTo (s : Dev) (w : Image) (r : Reload) : Dev :=
  let m := mergeReload w r.image r.part
  let old := w.parts.find? (·.part == r.part)
  match r.image.parts.find? (·.part == r.part) with
  | none => s
  | some p =>
    let changed := changedQueues w m r.part
    let s := { s with img := { s.img with loaded := some m, reloads := sat16 s.img.reloads } }
    let s := s.extend 4 0x06 (p.version.setWidth 32) r.image.digest
    let s := s.fold changed fun s q => s.discardQueue q
    let s := s.fold ((old.map fun o => newArrays o p).getD []) fun s a => s.modArr a.1 a.2 fun k => { k with wvalid := false }
    s.clearAxa m s.img.bands (p.axa.filter fun x => !((old.map (·.axa)).getD []).contains x)

/-- R80: with the extensions that still wait, the measurement log has no place for the entry of a reload. -/
def Dev.logFull (s : Dev) : Bool := decide (4096 ≤ s.boot.log.length + s.boot.extWait.length)

/-- R134: the drain has ended: the switch. R80: a log that has filled up since the request rejects the reload here. -/
def Dev.reloadSwitch (s : Dev) : Dev :=
  match s.img.reload, s.img.loaded with
  | some r, some w =>
    if r.phase ≠ .drain ∨ s.partRuns r.part then s
    else if s.logFull then s.endReload r E_MEAS_LOG_FULL 0xFF 0
    else (s.switchTo w r).endReload r E_OK 0xFF 0
  | _, _ => s

def execReloadSwitch : State → Host.Outcome State Fault Refusal := act .reloadSwitch fun s => s.reloadSwitch

/-- R135: the drain limit expires with work still running. -/
def execReloadDrainExpired : State → Host.Outcome State Fault Refusal :=
  act .reloadDrainExpired fun s =>
    match s.img.reload with
    | some r => if r.phase = .drain ∧ s.partRuns r.part then s.endReload r E_IMG_RELOAD_DRAIN 0xFF 0 else s
    | none => s

end Sys2Proof.Machine
end

