-- ==== Sys2Proof/Machine/Access.lean ====
section
/-! DEFINITION. Remote access: packets that arrive for this device, attempts that time out, answers (R181, R440, R450–R466,
R502–R508, R546). -/

namespace Sys2Proof.Machine

/-! ### Requests at the target -/

/-- The packet is addressed to this device. -/
def Dev.forMe (s : Dev) (p : Packet) : Bool :=
  p.dstDev == s.devNum && p.dstDom == s.domNum && s.img.loaded.isSome && !s.inReset 6 0

/-- R647, R677: a packet has arrived; one of another device is counted. -/
def Dev.arrived (s : Dev) (p : Packet) : Dev :=
  (s.when (p.srcDev != s.devNum || p.srcDom != s.domNum) (·.count bankHub 0xC2 1 none none (some p.vc))).wakeEvent

/-- R677: what a request brings to count beside its answer: a drop, or a deduplication hit. -/
def Dev.countAccept (s t : Dev) : Dev :=
  (t.when (s.ra.genDrops != t.ra.genDrops) (·.count bankHub 0xC8)).when (s.ra.hits != t.ra.hits) (·.count bankHub 0xCC)

/-- R450: a request or sync packet of the kind given. -/
def Dev.request (s : Dev) (kind : PKind) (p : Packet) : Dev :=
  if p.kind = kind ∧ s.forMe p then
    let s := s.arrived p
    s.countAccept (s.acceptReq p)
  else s

/-- R450, R502, R503: an accumulate packet at the target hub, which may combine it. -/
def Dev.accumulateAt (s : Dev) (p : Packet) : Dev :=
  if p.kind = .accumulate ∧ s.forMe p then
    let s := s.arrived p
    let r := s.combine p (s.chanFlits p.addr.toNat)
    if r.2 then r.1.countAccept (r.1.acceptReq p) else r.1
  else s

def execLoad (p : Packet) : State → Host.Outcome State Fault Refusal := act (.load p) fun s => s.request .load p
def execStore (p : Packet) : State → Host.Outcome State Fault Refusal := act (.store p) fun s => s.request .store p
def execAccumulate (p : Packet) : State → Host.Outcome State Fault Refusal := act (.accumulate p) fun s => s.accumulateAt p
def execFetchAdd (p : Packet) : State → Host.Outcome State Fault Refusal := act (.fetchAdd p) fun s => s.request .fetchAdd p
def execSwap (p : Packet) : State → Host.Outcome State Fault Refusal := act (.swap p) fun s => s.request .swap p
def execCompareSwap (p : Packet) : State → Host.Outcome State Fault Refusal := act (.compareSwap p) fun s => s.request .compareSwap p
def execSyncAdd (p : Packet) : State → Host.Outcome State Fault Refusal := act (.syncAdd p) fun s => s.request .syncAdd p
def execCopyRead (p : Packet) : State → Host.Outcome State Fault Refusal := act (.copyRead p) fun s => s.request .copyRead p
def execCopyWrite (p : Packet) : State → Host.Outcome State Fault Refusal := act (.copyWrite p) fun s => s.request .copyWrite p

/-! ### Packets back to a source -/

/-- A packet of another kind back to the source of `p`: HOLD for a request, RELEASE for a response. -/
def Dev.sendBack (s : Dev) (p : Packet) (kind ofKind : PKind) : Dev :=
  match s.routeFor 1 p.srcDom p.srcDev s.devNum p.job with
  | .error _ => s
  | .ok r =>
    s.sendNew { p with
      kind, ofKind, vc := 1, cls := 0, route := r, srcDev := s.devNum, srcDom := s.domNum, dstDev := p.srcDev, dstDom := p.srcDom
      data := [], poison := 0, code := E_OK, acc := none }

/-- R458: HOLD for a request. -/
def Dev.sendHold (s : Dev) (p : Packet) : Dev := (s.count bankHub 0xC9).sendBack p .hold p.kind

/-- The request that HOLD_REPEAT names: request `i` of a channel's queue, or, from 256 on, one that waits at the ingress. -/
def Dev.heldReq (s : Dev) (k p i : Nat) : Option MSrc :=
  if i < 256 then ((s.chan k p).queue[i]?).map (·.src) else (s.ra.ingress[i - 256]?).map (·.1)

/-- R458: a request has been held for another 10 µs. -/
def execHoldRepeat (stack chan i : Nat) : State → Host.Outcome State Fault Refusal :=
  act (.holdRepeat stack chan i) fun s =>
    match s.heldReq stack chan i with
    | some (.remote p) => s.sendHold p
    | _ => s

/-! ### Answers at the requester -/

/-- The port entry whose operation a packet answers: by context and SEQ for a returning atomic, by its tag otherwise. -/
def Dev.entryOf (s : Dev) (p : Packet) : Option (Nat × Nat × PEntry) :=
  if isAtomic p.ofKind then
    s.cores.findSome? fun c => (s.pents c.1).findSome? fun e =>
      if e.2.remote && e.2.sent && e.2.pkt.kind == p.ofKind && e.2.pkt.ctx == p.ctx && e.2.pkt.seq == p.seq then some (c.1, e.1, e.2) else none
  else
    let n := p.seq.toNat - 0x10000
    if p.seq.toNat < 0x10000 ∨ 32 ≤ n / 256 then none
    else (s.pent (n / 256) (n % 256)).bind fun e =>
      if e.remote && e.sent && e.pkt.kind == p.ofKind && e.pkt.dstDev == p.srcDev then some (n / 256, n % 256, e) else none

/-- R452, R472: an answer of a generation that is past is discarded, and its entry is freed. -/
def Dev.dropOld (s : Dev) (c e : Nat) (p : PEntry) : Dev :=
  match p.kind with
  | .mracc a id ts => (s.freeEnt c e).ackArray c a id ts E_RA_CTX_TEARDOWN
  | _ => (s.setPent c e (some { p with orphan := true })).freeEnt c e

/-- R459, R464: another attempt of a returning operation. -/
def Dev.retry (s : Dev) (c e : Nat) (p : PEntry) : Dev :=
  ((s.setPent c e (some { p with sent := false })).sendEntry c e)

/-- The answer of an operation: it goes to the core's port. `E_RA_DEDUP_FULL` before the fourth attempt is a failed attempt
(R464). -/
def Dev.entryAnswer (s : Dev) (c e : Nat) (k : PEntry) (p : Packet) (code : Code) : Dev :=
  if k.pkt.gen ≠ (s.ctx k.pkt.ctx).gen then s.dropOld c e k
  else if code = E_RA_DEDUP_FULL ∧ isAtomic p.ofKind ∧ k.attempts < 4 then s.retry c e k
  else
    let s := s.modCore c fun m => { m with replies := m.replies ++ [({ entry := e, data := p.data, poison := p.poison, code } : Reply)] }
    -- R462
    s.when (isAtomic p.ofKind && code == E_OK) (·.sendBack p .release p.ofKind)

/-- R506: the answer of a flushed entry is relayed to every absorbed packet's source, and the entry is free. A device reset
that waited for it goes on (R507). -/
def Dev.combAnswer (s : Dev) (i : Nat) (code : Code) : Dev :=
  match s.comb i with
  | some e => if e.awaiting then ((s.setComb i none).fold e.pkts fun s p => s.answerPkt p [] 0 code).resetGo else s
  | none => s

/-- R553: a token that its target refused. -/
def Dev.tokenAnswer (s : Dev) (code : Code) : Dev :=
  if code = E_OK then s else { s with coll := { s.coll with refused := sat16 s.coll.refused } }

/-- A copy engine's tag: bit 31, 12 bits of the entry's sequence number, run, slot (9 bits). -/
def copyTag (run slot : Nat) (seq : BitVec 32) : BitVec 32 :=
  BitVec.ofNat 32 (2 ^ 31 + seq.toNat % 4096 * 2 ^ 18 + 512 * run + slot)

/-- What an answer is for. -/
inductive AnswerTo where
  | combining (i : Nat)
  | token
  | copy (run slot : Nat)
  | entry (c e : Nat) (k : PEntry)
  | nobody
deriving DecidableEq, Repr

/-- The requester's part that a packet answers. -/
def Dev.answers (s : Dev) (p : Packet) : AnswerTo :=
  let n := p.seq.toNat
  if p.ofKind = .accumulate ∧ n < 16384 then .combining n
  else if p.ofKind = .copyRead ∨ p.ofKind = .copyWrite then (if 2 ^ 31 ≤ n then .copy (n / 512 % 512) (n % 512) else .nobody)
  else if p.ofKind = .syncAdd ∧ 0x40000000 ≤ n then .token
  else match s.entryOf p with
    | some (c, e, k) => .entry c e k
    | none => .nobody

/-- R462: the target frees the entry of an atomic whose result has reached its source. -/
def Dev.released (s : Dev) (p : Packet) : Dev :=
  { s with ra := { s.ra with dedup := s.ra.dedup.filter fun d => !(d.isOf p && d.prior.isSome) } }

def execRelease (p : Packet) : State → Host.Outcome State Fault Refusal :=
  act (.release p) fun s => if p.kind = .release ∧ s.forMe p then (s.arrived p).released p else s

/-- R462: 1 ms after an atomic was applied. -/
def execDedupExpire (srcDev ctx : Nat) (seq : BitVec 32) : State → Host.Outcome State Fault Refusal :=
  act (.dedupExpire srcDev ctx seq) fun s =>
    { s with ra := { s.ra with dedup := s.ra.dedup.filter fun (d : Dedup) =>
        !(d.srcDev == srcDev && d.ctx == ctx && d.seq == seq && d.prior.isSome) } }

/-- R458, R506: HOLD restarts the requester's timer, which the model does not count; a combining hub relays it. -/
def Dev.heldAnswer (s : Dev) (p : Packet) : Dev :=
  match s.answers p with
  | .combining i =>
    match s.comb i with
    | some e => if e.awaiting then s.fold e.pkts fun s q => s.sendHold q else s
    | none => s
  | _ => s

def execHold (p : Packet) : State → Host.Outcome State Fault Refusal :=
  act (.hold p) fun s => if p.kind = .hold ∧ s.forMe p then (s.arrived p).heldAnswer p else s

/-! ### Timeouts (R457–R460, R465) -/

/-- R457: the timer of an entry expired without an answer: the attempt has failed. A load or a returning atomic makes another
one, four in all; a posted operation is indeterminate. An operation of a past generation is freed (R471). -/
def Dev.attemptTimeout (s : Dev) (c e : Nat) : Dev :=
  match s.pent c e with
  | none => s
  | some p =>
    if !p.remote || !p.sent || (s.core c).replies.any (·.entry == e) then s
    else
      let s := { s with ra := { s.ra with timeouts := sat16 s.ra.timeouts } }
      if p.pkt.gen ≠ (s.ctx p.pkt.ctx).gen then s.dropOld c e p
      else match p.kind with
        | .load _ => if p.orphan then s.freeEnt c e else if p.attempts < 4 then s.retry c e p else s.takeUp c e [] 0 E_RA_TIMEOUT
        | .atomic _ =>
          if p.attempts < 4 then s.retry c e { p with timedOut := true } else s.takeUp c e [] 0 E_RA_INDETERMINATE
        | _ => s.takeUp c e [] 0 E_RA_INDETERMINATE

def execAttemptTimeout (core entry : Nat) : State → Host.Outcome State Fault Refusal :=
  act (.attemptTimeout core entry) fun s => s.attemptTimeout core entry

end Sys2Proof.Machine
end

