-- ==== Sys2Proof/Machine/Copy.lean ====
section
/-! DEFINITION. The copy engine: copies and read-outs (R477–R480, R513–R516, R566, R569), and the packets that answer
(R452, R506). -/

namespace Sys2Proof.Machine

/-! ### Entries (R569) -/

def CopyRun.src (r : CopyRun) : Nat := ebytes r.entry 32 8
def CopyRun.dst (r : CopyRun) : Nat := ebytes r.entry 40 8
def CopyRun.fromHost (r : CopyRun) : Bool := !r.readout && (eFlags r.entry).testBit 4
def CopyRun.toHost (r : CopyRun) : Bool := (eFlags r.entry).testBit 5
def CopyRun.srcDom (r : CopyRun) : Nat := ebytes r.entry 60 1 % 16
def CopyRun.dstDom (r : CopyRun) : Nat := ebytes r.entry 60 1 / 16
def CopyRun.clear (r : CopyRun) : Bool := (eFlags r.entry).testBit 3
/-- R513: words of a read-out. -/
def CopyRun.count (r : CopyRun) : Nat := ebytes r.entry 48 4 % 2 ^ 24 + 1
def CopyRun.bf16 (r : CopyRun) : Bool := (ebytes r.entry 48 4).testBit 24
/-- R513: a result is discarded. -/
def CopyRun.discards (r : CopyRun) : Bool := r.readout && r.dst == 0
/-- Bytes of a copy, lines of a read-out. -/
def CopyRun.total (r : CopyRun) : Nat :=
  if r.readout then (r.src % 2 ^ 50 % 256 / 16 + r.count + 15) / 16 else ebytes r.entry 48 4 + 1

/-- An HGA of this device. -/
def Dev.ownHga (s : Dev) (a : Nat) : Bool := a / 2 ^ 50 == s.devNum

/-- R478: a copy with a side in another domain has its other side on this device. -/
def Dev.sidesOk (s : Dev) (r : CopyRun) : Bool :=
  let srcOut := !r.fromHost && r.srcDom != s.domNum
  let dstOut := !r.toHost && r.dstDom != s.domNum
  let srcHere := !r.fromHost && r.srcDom == s.domNum && s.ownHga r.src
  let dstHere := !r.toHost && r.dstDom == s.domNum && s.ownHga r.dst
  (!srcOut || dstHere) && (!dstOut || srcHere)

/-- R513: the AXA region of the entry's partition holds every word. -/
def Dev.readoutOk (s : Dev) (r : CopyRun) : Bool :=
  let a := r.src % 2 ^ 50
  a % 16 == 0 && ((s.sect r.part).any fun p => p.axa.any fun x => decide (x.base ≤ a) && decide (a + 16 * r.count ≤ x.base + x.size))

/-- The code with which an entry ends before it moves anything. -/
def Dev.copyBad (s : Dev) (r : CopyRun) : Option Code :=
  if r.readout then
    if r.src / 2 ^ 50 ≠ 0 ∧ !s.ownHga r.src then some E_AXA_READOUT_REMOTE
    else if !s.readoutOk r then some E_AXA_READOUT_RANGE
    else none
  else if !s.sidesOk r then some E_RA_BULK_SIDES else none

def Dev.runsOf (s : Dev) : List (Nat × CopyRun) := s.copy.runs.filterMap fun e => e.2.map fun r => (e.1, r)

/-- R566: the next entry of a copy queue starts: at most 4 of one queue and 512 in all. -/
def Dev.copyStart (s : Dev) (q : Nat) : Dev :=
  if s.qType q ≠ 2 ∨ !s.ready ∨ 4 ≤ s.runsOf.countP (fun r => r.2.queue == q) then s
  else match s.nextStart q, freeKey s.copy.runs 512 with
    | some e, some n =>
      let s := s.markStarted q e.seq
      let r : CopyRun := { queue := q, seq := e.seq, readout := eKind e.e == 3, entry := e.e, ctx := eCtx e.e, part := (s.qOwner q).getD 0,
                           issued := 0, finished := 0, out := [], code := E_OK, stopped := false, first := none, sum := 0, flagged := 0 }
      match s.copyBad r with
      | some code => s.complete q e.seq code
      | none => s.setRun n (some r)
    | _, _ => s

def execCopyEntryStart (q : Nat) : State → Host.Outcome State Fault Refusal :=
  act (.copyEntryStart q) fun s => s.copyStart q

/-! ### The end of an entry -/

/-- R516: the summary of a read-out. -/
def CopyRun.summary (r : CopyRun) : Word :=
  at_ 0 (r.first.getD 0xFFFFFF) ||| at_ 24 r.sum.toNat ||| at_ 32 r.flagged

/-- R477, R516: an entry completes when every piece has been issued, or none is any more, and none is outstanding. -/
def Dev.runEnd (s : Dev) (n : Nat) : Dev :=
  match s.crun n with
  | none => s
  | some r =>
    if r.out.isEmpty && (r.stopped || decide (r.total ≤ r.issued)) then
      let code := if r.code = E_OK ∧ r.readout ∧ 0 < r.flagged then E_AXA_FLAGGED else r.code
      (s.setRun n none).complete r.queue r.seq code (if r.readout then r.summary else 0)
    else s

def Dev.modRun (s : Dev) (n : Nat) (f : CopyRun → CopyRun) : Dev := s.setRun n ((s.crun n).map f)

/-- A slot is free again. -/
def Dev.freeSlot (s : Dev) (n slot : Nat) : Dev := (s.modRun n fun r => { r with out := r.out.filter (·.1 ≠ slot) }).runEnd n

/-- R480: another domain lies on the copy's path. -/
def Dev.crossDomain (s : Dev) (r : CopyRun) : Bool :=
  !r.readout && ((!r.fromHost && r.srcDom != s.domNum) || (!r.toHost && r.dstDom != s.domNum))

/-- R431, R475, R480: a piece failed: the entry ends with the first code, and issues no more. -/
def Dev.pieceFail (s : Dev) (n slot : Nat) (code : Code) (dev : Nat) : Dev :=
  match s.crun n with
  | none => s
  | some r =>
    let lost := s.crossDomain r && (code == E_FAB_NO_ROUTE || (code == E_FAB_TRUNK_DOWN && (decide (0 < r.finished) || decide (1 < r.out.length))))
    let c := if lost then E_RA_BULK_LOST else code
    let s := s.when (code == E_FAB_NO_ROUTE && !s.crossDomain r) (·.targetLost r.ctx dev code)
    (s.modRun n fun r => { r with code := if r.code = E_OK then c else r.code, stopped := true }).freeSlot n slot

/-! ### Pieces -/

/-- The packet of a piece: on the bulk channel (R423), under the entry's context. -/
def Dev.piecePkt (s : Dev) (r : CopyRun) (n slot : Nat) (write : Bool) (hga len : Nat) : Packet :=
  let c := s.ctx r.ctx
  let kind : PKind := if write then .copyWrite else .copyRead
  { kind, ofKind := kind, vc := 4, cls := 0, route := 0, srcDev := s.devNum, srcDom := s.domNum, dstDev := hga / 2 ^ 50 % 2 ^ 14
    dstDom := if r.readout then s.domNum else if write then r.dstDom else r.srcDom
    ctx := r.ctx, job := c.job, gen := c.gen, seq := copyTag n slot r.seq, retry := false
    key := BitVec.ofNat 32 (if write then ebytes r.entry 56 4 else ebytes r.entry 52 4), addr := BitVec.ofNat 50 hga, size := len
    code := E_OK, data := [], mask := ones len, poison := 0, op1 := 0, op2 := 0, acc := none }

/-- Send a piece by its route; without one it fails. -/
def Dev.sendPiece (s : Dev) (n slot : Nat) (p : Packet) : Dev :=
  match s.routeFor 4 p.dstDom p.dstDev s.devNum p.job with
  | .error code => s.pieceFail n slot code p.dstDev
  | .ok r => s.inject { p with route := r }

/-- Poison of `len` bytes at address `a` as poison of the words that they fill at address `b`. -/
def movePoison (len a b : Nat) (m : BitVec 16) : BitVec 16 :=
  BitVec.ofNat 16 ((List.range len).foldl (fun (w : Nat) i =>
    if m.getLsbD ((a + i) / 32 - a / 32) then w ||| 2 ^ ((b + i) / 32 - b / 32) else w) 0)

/-- The units of 64 B that a piece moved are counted (R677). -/
def Dev.countMoved (s : Dev) (r : CopyRun) (len : Nat) : Dev := s.count bankHub 0xD0 ((len + 63) / 64) none (some r.part)

/-- Data on its way to the destination of an entry, at offset `o` of it; `poison` is of the destination's words. -/
def Dev.putPiece (s : Dev) (n slot : Nat) (r : CopyRun) (o : Nat) (data : List Byte) (poison : BitVec 16) : Dev :=
  let s := s.countMoved r data.length
  if r.toHost then
    (s.hostSend (s.portOf r.part) (.hostWrite (s.portOf r.part) (BitVec.ofNat 64 (r.dst + o)) data)).freeSlot n slot
  else s.sendPiece n slot { s.piecePkt r n slot true (r.dst + o) data.length with data, poison }

/-- R477: the next piece of a copy: up to 256 B, within one 512 B granule of either side on a device. -/
def CopyRun.pieceLen (r : CopyRun) (o : Nat) : Nat :=
  let room := fun (host : Bool) (a : Nat) => if host then 256 else 512 - (a + o) % 512
  min (min 256 (r.total - o)) (min (room r.fromHost r.src) (room r.toHost r.dst))

/-- The lowest free slot of an entry. -/
def CopyRun.slot (r : CopyRun) : Nat := ((List.range 256).find? fun k => !(r.out.any (·.1 == k))).getD 0

/-- The channel that line `l` of a read-out lies in. -/
def Dev.lineChan (s : Dev) (r : CopyRun) (l : Nat) : Option (Nat × Nat × Nat) := s.chanOf (r.src % 2 ^ 50 / 256 * 256 + 256 * l)

/-- R324, R477: an entry can issue a piece now. -/
def Dev.canIssue (s : Dev) (r : CopyRun) : Bool :=
  !r.stopped && decide (r.issued < r.total) && decide (r.out.countP (fun e => decide (e.1 < 256)) < 256) && decide (s.pow.lat < 2) &&
    (!r.fromHost || s.portOpen (s.portOf r.part)) &&
    (!r.readout || match s.lineChan r r.issued with
      | some (k, p, _) => decide ((s.chan k p).queue.length < 256) && !(s.stk k).inReset && !s.inReset 3 (k / 8)
      | none => true)

/-- The place of an entry in a round-robin that served `last` last. -/
def runTurn (last n : Nat) : Nat := (n + 511 - last % 512) % 512

/-- R514: the READOUT request of a line: the words of it that the read-out covers. -/
def Dev.readLine (s : Dev) (n : Nat) (r : CopyRun) (l : Nat) : Dev :=
  let base := r.src % 2 ^ 50 / 256 * 256 + 256 * l
  let m := maskOf 16 fun j => decide (r.src % 2 ^ 50 ≤ base + 16 * j) && decide (base + 16 * j < r.src % 2 ^ 50 + 16 * r.count)
  match s.chanOf base with
  | none => s.pieceFail n r.slot E_AXA_READOUT_RANGE 0
  | some (k, p, off) =>
    s.enqueue k p { mkReq .readout off 256 (s.ownerOf base) (.copy n l) with
      wmask := BitVec.ofNat 16 m, clear := r.clear, anchor := ((s.axaAt base).map (·.2)).getD 0 }

/-- R477: entry `n` issues its next piece. -/
def Dev.issuePiece (s : Dev) (n : Nat) (r : CopyRun) (host : HostData) : Dev :=
  let o := r.issued
  let slot := r.slot
  let s := { s with copy := { s.copy with last := n } }
  if r.readout then
    (s.modRun n fun r => { r with issued := o + 1, out := r.out ++ [(slot, o, true)] }).readLine n r o
  else
    let len := r.pieceLen o
    if r.fromHost then
      if host.length ≠ len then s
      else
        let s := s.modRun n fun r => { r with issued := o + len, out := r.out ++ [(slot, o, false)] }
        (s.out (.hostFetch (s.portOf r.part) (BitVec.ofNat 64 (r.src + o)) len)).putPiece n slot r o host 0
    else
      let s := s.modRun n fun r => { r with issued := o + len, out := r.out ++ [(slot, o, true)] }
      s.sendPiece n slot (s.piecePkt r n slot false (r.src + o) len)

/-- R477: the copy engine serves the running entries round-robin. -/
def Dev.pieceIssue (s : Dev) (n : Nat) (host : HostData) : Dev :=
  match s.crun n with
  | none => s
  | some r =>
    if s.canIssue r && s.runsOf.all (fun e => !s.canIssue e.2 || decide (runTurn s.copy.last n ≤ runTurn s.copy.last e.1))
    then s.issuePiece n r host else s

def execCopyPieceIssue (run : Nat) (host : HostData) : State → Host.Outcome State Fault Refusal :=
  act (.copyPieceIssue run host) fun s => s.pieceIssue run host

/-- The answer of a piece: data of a read goes on to the destination; an acknowledgement ends it. -/
def Dev.pieceAnswer (s : Dev) (n slot : Nat) (p : Packet) (code : Code) : Dev :=
  match s.crun n with
  | none => s
  | some r =>
    match r.out.find? (·.1 == slot) with
    | none => s
    | some (_, o, reading) =>
      if p.seq ≠ copyTag n slot r.seq then s
      else if code ≠ E_OK then s.pieceFail n slot code p.srcDev
      else if reading && p.ofKind == .copyRead then
        let s := s.modRun n fun r => { r with out := r.out.map fun e => if e.1 = slot then (slot, o, false) else e }
        s.putPiece n slot r o p.data (movePoison p.data.length (r.src + o) (r.dst + o) p.poison)
      else if !reading && p.ofKind == .copyWrite then
        (s.modRun n fun r => { r with finished := r.finished + 1 }).freeSlot n slot
      else s

/-! ### Read-outs (R513–R516) -/

/-- What one word of a read-out gives: its code, and the bits of R516 from bit 24 on. -/
structure WordOut where
  code : Nat
  bits : BitVec 5
deriving DecidableEq, Repr

/-- R490, R514, R516: the result of a word that is not poisoned. -/
def wordResult (bf16 : Bool) (anchor : Int) (w : BitVec 128) (f : BitVec 2) : WordOut :=
  let t : Ty := if bf16 then .bf16 else .fp32
  let outside := w.getLsbD 127 != w.getLsbD 126
  let code := encodeNum t false (.fin (decide (w.toInt < 0)) w.toInt.natAbs (anchor - 112))
  let inf := if bf16 then code % 2 ^ 15 == 0x7F80 else code % 2 ^ 31 == 0x7F800000
  let ovf := !outside && f == 0 && inf
  { code := if f ≠ 0 ∨ outside then t.nanCode else code
    bits := BitVec.ofNat 5 (bit (f.getLsbD 1) + 2 * bit (f.getLsbD 0) + 4 * bit outside + 16 * bit ovf) }

/-- R514: word `j` of a line is poisoned. -/
def Dev.wordPoisoned (s : Dev) (k p : Nat) (r : MemReq) (j : Nat) : Bool := s.poisoned k p ((r.off + 16 * j) / 32)

/-- R335, R514, R515: the results of a READOUT, by word of the line; a poisoned word has none. -/
def Dev.lineResults (s : Dev) (k p : Nat) (r : MemReq) (bf16 : Bool) : List (Nat × Option WordOut) :=
  ((List.range 16).filter (r.wmask.getLsbD ·)).map fun j =>
    (j, if s.wordPoisoned k p r j then none
        else some (wordResult bf16 r.anchor (BitVec.ofNat 128 (ofBytes (s.memRead k p (r.off + 16 * j) 16))) (s.axaFlags k p (r.off + 16 * j))))

/-- R515: CLEAR zeroes the masked words that are not poisoned. -/
def Dev.clearLine (s : Dev) (k p : Nat) (r : MemReq) : Dev :=
  s.fold ((List.range 16).filter fun j => r.wmask.getLsbD j && !s.wordPoisoned k p r j) fun s j =>
    (s.memWrite k p (r.off + 16 * j) (toBytes 16 0) (ones 16)).setAxaFlags k p (r.off + 16 * j) 0

/-- R516: one word is added to the summary. -/
def CopyRun.addWord (r : CopyRun) (i : Nat) (w : Option WordOut) : CopyRun :=
  let b : BitVec 5 := (w.map (·.bits)).getD 8
  if b = 0 then r
  else { r with sum := r.sum ||| b, flagged := r.flagged + 1, first := some (min i (r.first.getD i)) }

/-- The bytes of a result; those of a poisoned word are free (R336). -/
def resultBytes (free : Nat) (bf16 : Bool) (w : Option WordOut) : List Byte :=
  let n := if bf16 then 2 else 4
  match w with
  | some x => toBytes n x.code
  | none => (List.range n).map fun i => Config.freeByte (free + i)

/-- R514: the results of a line are written: cut where a 512 B granule of the destination ends. The second part takes the
slot's upper twin. -/
def Dev.putResults (s : Dev) (n slot : Nat) (r : CopyRun) (o : Nat) (data : List Byte) (bad : List Bool) : Dev :=
  let a := r.dst + o
  let pm := fun (l : List Bool) (b : Nat) => BitVec.ofNat 16 (l.zipIdx.foldl (fun (w : Nat) e => if e.1 then w ||| 2 ^ ((b + e.2) / 32 - b / 32) else w) 0)
  let room := 512 - a % 512
  if r.discards then s.freeSlot n slot
  else if r.toHost || decide (data.length ≤ room) then s.putPiece n slot r o data (pm bad a)
  else
    let s := s.modRun n fun r => { r with out := r.out ++ [(slot + 256, o + room, false)] }
    (s.putPiece n slot r o (data.take room) (pm (bad.take room) a)).putPiece n (slot + 256) r (o + room) (data.drop room) (pm (bad.drop room) (a + room))

/-- R514–R516: a READOUT is served: one indivisible operation on its line, whose results go to the destination. -/
def Dev.doReadout (s : Dev) (k p : Nat) (e : EccFind) (q : MemReq) : Dev :=
  let s := s.eccApply k p q q.words e
  match q.src with
  | .copy n l =>
    match s.crun n with
    | none => s.when q.clear (·.clearLine k p q)
    | some r =>
      match r.out.find? fun x => x.2.1 == l && x.2.2 with
      | none => s.when q.clear (·.clearLine k p q)
      | some (slot, _, _) =>
        let res := s.lineResults k p q r.bf16
        let s := s.when q.clear (·.clearLine k p q)
        let a0 := r.src % 2 ^ 50
        let idx := fun (j : Nat) => a0 / 256 * 16 + 16 * l + j - a0 / 16
        let s := s.modRun n fun r => res.foldl (fun (r : CopyRun) w => r.addWord (idx w.1) w.2)
          { r with finished := r.finished + 1, out := r.out.map fun x => if x.1 = slot then (slot, l, false) else x }
        let w := if r.bf16 then 2 else 4
        let data := res.flatMap fun x => resultBytes (s.free + 64 * x.1) r.bf16 x.2
        let bad := res.flatMap fun x => List.replicate w x.2.isNone
        let o := w * idx ((res.head?.map (·.1)).getD 0)
        ({ s with free := s.free + 1024 } : Dev).putResults n slot r o data bad
  | _ => s

def execReadout (stack chan i : Nat) (ecc : EccFind) : State → Host.Outcome State Fault Refusal :=
  act (.readout stack chan i ecc) fun s => s.serveWork stack chan i (· == .readout) fun s r => s.doReadout stack chan ecc r

/-! ### Lost copies (R480) -/

/-- A byte of memory takes a free value, where the copy may write it. -/
def Dev.pokeFree (s : Dev) (r : CopyRun) (n a : Nat) : Dev :=
  let p := s.piecePkt r n 0 true (s.devNum * 2 ^ 50 + a) 1
  if ((s.jobCtx p.job).map fun c => s.accessBad c p) ≠ some none then s
  else
    let b := Config.freeByte s.free
    let s := s.draw
    match place a with
    | .store c off => s.storeWrite c off [b] 1
    | .hbm =>
      match s.chanOf a with
      | some (k, q, off) => s.memWrite k q off [b] 1
      | none => s
    | _ => s

/-- R480: bytes of a copy not known to be written: those of pieces outstanding and of pieces never issued. -/
def CopyRun.rest (r : CopyRun) : List Nat :=
  (r.out.flatMap fun e => span e.2.1 (r.pieceLen e.2.1)) ++ span r.issued (r.total - r.issued)

/-- R480: a piece stayed unanswered for 1 ms: the copy is lost, and the rest of its destination is undefined. What lies on
another device is not part of this state. -/
def Dev.bulkLost (s : Dev) (n : Nat) : Dev :=
  match s.crun n with
  | none => s
  | some r =>
    if r.out.isEmpty then s
    else
      let here := !r.readout && !r.toHost && r.dstDom == s.domNum && s.ownHga r.dst
      let s := s.when here fun s => s.fold r.rest fun s o => s.pokeFree r n (r.dst % 2 ^ 50 + o)
      (s.setRun n none).complete r.queue r.seq E_RA_BULK_LOST (if r.readout then r.summary else 0)

def execBulkLost (run : Nat) : State → Host.Outcome State Fault Refusal := act (.bulkLost run) fun s => s.bulkLost run

/-! ### Responses and negative acknowledgements (R452, R464, R465, R506) -/

/-- An answer reaches the part of this device that waits for it. -/
def Dev.answered (s : Dev) (p : Packet) (code : Code) : Dev :=
  match s.answers p with
  | .combining i => s.combAnswer i code
  | .token => s.tokenAnswer code
  | .copy n slot => s.pieceAnswer n slot p code
  | .entry c e k => s.entryAnswer c e k p code
  | .nobody => s

def execResponse (p : Packet) : State → Host.Outcome State Fault Refusal :=
  act (.response p) fun s => if p.kind = .response ∧ s.forMe p then (s.arrived p).answered p E_OK else s

def execNegativeAcknowledgement (p : Packet) : State → Host.Outcome State Fault Refusal :=
  act (.negativeAcknowledgement p) fun s => if p.kind = .nack ∧ s.forMe p then (s.arrived p).answered p p.code else s

end Sys2Proof.Machine
end

