-- ==== Sys2Proof/Machine/Contexts.lean ====
section
/-! DEFINITION. Contexts and regions: their management commands and the end of a teardown (R441–R449, R471–R474, R528). -/

namespace Sys2Proof.Machine

/-! ### Contexts (R443) -/

/-- R441: the context that holds a job. -/
def Dev.ctxOfJob (s : Dev) (job : BitVec 24) : Option Nat := findKey (fun _ c => c.job == job && c.st != .free) s.ra.ctxs

/-- The lowest free context. -/
def Dev.freeCtx (s : Dev) : Option Nat := (List.range 1024).find? fun n => (s.ctx n).st == .free

/-- R443, R575 CTX_OPEN. A context keeps its SEQ from one job to the next. -/
def Dev.mgCtxOpen (s : Dev) (e : Entry) (iss : Issuer) : Dev :=
  let job := ebytes e 32 4
  let gen := ebytes e 36 2
  let part := ebytes e 38 1
  if 2 ^ 24 ≤ job ∨ 2 ^ 12 ≤ gen then s.answer iss E_MGMT_OPERAND
  else if !s.defined part || !s.mayName iss part then s.answer iss E_RA_CTX_BAD
  else match s.ctxOfJob (BitVec.ofNat 24 job) with
    | some n =>
      let c := s.ctx n
      if c.st = .closed ∧ c.gen.toNat = gen then
        (s.modCtx n fun c => { c with st := .opened, part }).answer iss E_OK (BitVec.ofNat 64 n)
      else s.answer iss E_RA_CTX_BAD
    | none =>
      match s.freeCtx with
      | none => s.answer iss E_RA_CTX_FULL
      | some n =>
        (s.modCtx n fun c => { st := .opened, part, job := BitVec.ofNat 24 job, gen := BitVec.ofNat 12 gen, seq := c.seq }).answer
          iss E_OK (BitVec.ofNat 64 n)

/-- R471: the teardown of an open context, asked for by a command. -/
def Dev.askTeardown (s : Dev) (n : Nat) (iss : Issuer) (result : Nat) : Dev :=
  (s.modCtx n fun c => { c with waiting := c.waiting ++ [(iss, result)] }).teardown n

/-- R443 CTX_TEARDOWN. -/
def Dev.mgCtxTeardown (s : Dev) (e : Entry) (iss : Issuer) : Dev :=
  let n := ebytes e 32 2
  if 1024 ≤ n ∨ (s.ctx n).st ≠ .opened ∨ !s.mayName iss (s.ctx n).part then s.answer iss E_RA_CTX_BAD
  else s.askTeardown n iss 0

/-- R443 JOB_TEARDOWN: CTX_TEARDOWN of the context that holds the job. -/
def Dev.mgJobTeardown (s : Dev) (e : Entry) (iss : Issuer) : Dev :=
  let job := ebytes e 32 4
  if 2 ^ 24 ≤ job then s.answer iss E_MGMT_OPERAND
  else match s.ctxOfJob (BitVec.ofNat 24 job) with
    | none => s.answer iss E_RA_NO_CTX
    | some n => if (s.ctx n).st ≠ .opened then s.answer iss E_RA_CTX_BAD else s.askTeardown n iss n

/-- R443, R528 CTX_FREE: the groups and regions of the context go with it. -/
def Dev.mgCtxFree (s : Dev) (e : Entry) (iss : Issuer) : Dev :=
  let n := ebytes e 32 2
  if 1024 ≤ n ∨ (s.ctx n).st ≠ .closed ∨ !s.mayName iss (s.ctx n).part then s.answer iss E_RA_CTX_BAD
  else
    let s := s.fold s.coll.groups fun s g => if (g.2.map (·.ctx)) = some n then s.destroyGroup g.1 [] else s
    let s := s.fold s.ra.regions fun s r => if (r.2.map (·.ctx)) = some n then s.setRegion r.1 none else s
    (s.modCtx n fun c => { seq := c.seq }).answer iss E_OK

def execCtxOpen (q : Nat) : State → Host.Outcome State Fault Refusal :=
  act (.ctxOpen q) fun s => s.runMgmt q 0x10 Dev.mgCtxOpen
def execCtxTeardown (q : Nat) : State → Host.Outcome State Fault Refusal :=
  act (.ctxTeardown q) fun s => s.runMgmt q 0x11 Dev.mgCtxTeardown
def execJobTeardown (q : Nat) : State → Host.Outcome State Fault Refusal :=
  act (.jobTeardown q) fun s => s.runMgmt q 0x12 Dev.mgJobTeardown
def execCtxFree (q : Nat) : State → Host.Outcome State Fault Refusal :=
  act (.ctxFree q) fun s => s.runMgmt q 0x13 Dev.mgCtxFree

/-! ### The end of a teardown (R471 steps 4 and 5, R473) -/

/-- Packets that this device has accepted and not yet applied. -/
def Dev.accepted (s : Dev) : List Packet :=
  let of := fun (m : MSrc) => match m with
    | .remote p => some p
    | _ => none
  (s.ra.ingress.filterMap fun w => of w.1) ++
    s.mem.stks.flatMap fun k => k.2.chans.flatMap fun c => c.2.queue.filterMap fun r => of r.src

/-- R471: the threads of the context are reset, every packet accepted under the old generation has been applied, and the
context's port entries are free. -/
def Dev.teardownReady (s : Dev) (n : Nat) : Bool :=
  let c := s.ctx n
  (s.ctxThreads n).isEmpty && s.accepted.all (fun p => p.job != c.job || p.gen == c.gen) &&
    s.cores.all fun k => (s.pents k.1).all fun e => e.2.pkt.ctx != n || e.2.pkt.gen == c.gen || !e.2.remote

/-- R471 step 5. -/
def Dev.teardownEnd (s : Dev) (n : Nat) : Dev :=
  let w := (s.ctx n).waiting
  let s := s.modCtx n fun c => { c with st := .closed, waiting := [], ranOn := 0 }
  s.fold w fun s i => s.answer i.1 E_OK (BitVec.ofNat 64 i.2)

def execTeardownComplete (ctx : Nat) : State → Host.Outcome State Fault Refusal :=
  act (.teardownComplete ctx) fun s => if (s.ctx ctx).st = .tearing ∧ s.teardownReady ctx then s.teardownEnd ctx else s

/-- R473: the cores that ran threads of the context are reset. -/
def execTeardownEscalate (ctx : Nat) : State → Host.Outcome State Fault Refusal :=
  act (.teardownEscalate ctx) fun s =>
    if (s.ctx ctx).st = .tearing ∧ !s.teardownReady ctx then
      (s.escalate E_RA_TEARDOWN_ESCALATE ctx).fold ((List.range 32).filter ((s.ctx ctx).ranOn.getLsbD ·)) fun s c =>
        s.beginCore c E_RA_TEARDOWN_ESCALATE
    else s

/-! ### Regions (R446–R449) -/

/-- R448: every 2 MiB of a range is memory of the partition, or the counter range. -/
def Dev.rangeOwned (s : Dev) (part base size : Nat) : Bool :=
  (List.range (size / mib2)).all fun i =>
    let a := base + i * mib2
    match place a with
    | .hbm => (s.setAt a).any fun e => e.1.owner == part
    | .store c off => s.partOfCore c == some part && decide (off + mib2 ≤ storeTop)
    | .ctr _ => a == 0x030000000000
    | _ => false

/-- The partition of a region command: that of its queue, or of the object that a forwarded command names. -/
def Dev.regionPart (s : Dev) (iss : Issuer) (named : Nat) : Nat := (s.issPart iss).getD named

/-- R447, R448 REGION_ADD. -/
def Dev.mgRegionAdd (s : Dev) (e : Entry) (iss : Issuer) : Dev :=
  let base := ebytes e 32 8
  let size := ebytes e 40 8
  let n := ebytes e 52 2
  let perm := ebytes e 54 1
  let part := s.regionPart iss (s.ctx n).part
  if base % mib2 ≠ 0 ∨ size % mib2 ≠ 0 ∨ size = 0 ∨ 16 ≤ perm then s.answer iss E_MGMT_OPERAND
  else if 1024 ≤ n ∨ !s.ctxOpenFor n part || !s.rangeOwned part base size ||
      s.ra.regions.any (fun r => r.2.any fun r => rangesMeet r.base r.size base size) then s.answer iss E_RA_REGION_BAD
  else match freeKey s.ra.regions 4096 with
    | none => s.answer iss E_RA_REGION_FULL
    | some i =>
      let r : Region := { base, size, key := BitVec.ofNat 32 (ebytes e 48 4), perm := BitVec.ofNat 4 perm, part, ctx := n, gen := (s.ctx n).gen }
      (s.setRegion i (some r)).answer iss E_OK (BitVec.ofNat 64 i)

/-- R449: a removal or renewal has begun; it completes once every access accepted under the old entry has been applied. -/
def Dev.beginRegion (s : Dev) (i : Nat) (old : Region) (new : Option Region) (iss : Issuer) : Dev :=
  let s := s.setRegion i new
  { s with ra := { s.ra with regionCmds := s.ra.regionCmds ++ [(iss, old)] } }

/-- The region that a command may change. -/
def Dev.namedRegion (s : Dev) (i : Nat) (iss : Issuer) : Option Region :=
  (s.region i).bind fun r => if s.regionPart iss r.part = r.part then some r else none

/-- R447 REGION_REMOVE. -/
def Dev.mgRegionRemove (s : Dev) (e : Entry) (iss : Issuer) : Dev :=
  match s.namedRegion (ebytes e 32 2) iss with
  | some r => s.beginRegion (ebytes e 32 2) r none iss
  | none => s.answer iss E_RA_REGION_BAD

/-- R447 REGION_RENEW. -/
def Dev.mgRegionRenew (s : Dev) (e : Entry) (iss : Issuer) : Dev :=
  match s.namedRegion (ebytes e 32 2) iss with
  | some r => s.beginRegion (ebytes e 32 2) r (some { r with key := BitVec.ofNat 32 (ebytes e 36 4), gen := (s.ctx r.ctx).gen }) iss
  | none => s.answer iss E_RA_REGION_BAD

def execRegionAdd (q : Nat) : State → Host.Outcome State Fault Refusal :=
  act (.regionAdd q) fun s => s.runMgmt q 0x20 Dev.mgRegionAdd
def execRegionRemove (q : Nat) : State → Host.Outcome State Fault Refusal :=
  act (.regionRemove q) fun s => s.runMgmt q 0x21 Dev.mgRegionRemove
def execRegionRenew (q : Nat) : State → Host.Outcome State Fault Refusal :=
  act (.regionRenew q) fun s => s.runMgmt q 0x22 Dev.mgRegionRenew

/-- An access accepted under an old entry is still to be applied. -/
def Dev.underOld (s : Dev) (r : Region) : Bool :=
  s.accepted.any fun p => decide (r.base ≤ p.addr.toNat) && decide (p.addr.toNat < r.base + r.size) && p.key == r.key && p.gen == r.gen

/-- The region command of a queue, or else the oldest one that was forwarded here. -/
def Dev.regionCmdOf (s : Dev) (q : Nat) : Option (Issuer × Region) :=
  match s.ra.regionCmds.find? (·.1 == Issuer.queue q) with
  | some c => some c
  | none => s.ra.regionCmds.find? fun c => match c.1 with
    | .remote _ => true
    | .queue _ => false

/-- R449: the command completes. -/
def execRegionCommandDone (q : Nat) : State → Host.Outcome State Fault Refusal :=
  act (.regionCommandDone q) fun s =>
    match s.regionCmdOf q with
    | none => s
    | some c =>
      if s.underOld c.2 then s
      else ({ s with ra := { s.ra with regionCmds := s.ra.regionCmds.erase c } } : Dev).answer c.1 E_OK

end Sys2Proof.Machine
end

