-- ==== Sys2Proof/Machine/Mgmt.lean ====
section
/-! DEFINITION. The other management commands and the management channel (R386, R419, R574–R576). -/

namespace Sys2Proof.Machine

/-- R386 PORT_EXPECT: the serial holds from the port's next discovery on. -/
def Dev.mgPortExpect (s : Dev) (e : Entry) (iss : Issuer) : Dev :=
  let port := ebytes e 40 1
  if 6 ≤ port then s.answer iss E_MGMT_OPERAND
  else (s.modFport port fun p => { p with expect := some (BitVec.ofNat 64 (ebytes e 32 8)) }).answer iss E_OK

/-- R419, R575 FAB_AVOID: add, remove, clear. RESULT is the number of entries. -/
def Dev.mgFabAvoid (s : Dev) (e : Entry) (iss : Issuer) : Dev :=
  let op := ebytes e 32 1
  let x : Nat × Nat := (ebytes e 34 2, ebytes e 36 1)
  let l := s.fab.avoid
  let done := fun (l : List (Nat × Nat)) => ({ s with fab := { s.fab with avoid := l } } : Dev).answer iss E_OK (BitVec.ofNat 64 l.length)
  if 3 ≤ op then s.answer iss E_MGMT_OPERAND
  else if op = 2 then done []
  else if 4 ≤ x.2 ∨ 2 ^ 14 ≤ x.1 ∨ !s.inDomain x.1 then s.answer iss E_MGMT_OPERAND
  else if op = 1 then done (l.filter (· ≠ x))
  else if x ∈ l then done l
  else if 64 ≤ l.length then s.answer iss E_FAB_AVOID_FULL (BitVec.ofNat 64 l.length)
  else done (l ++ [x])

/-- R575, R576 EVT_RING: a new ring begins empty (log entry 36). -/
def Dev.mgEvtRing (s : Dev) (e : Entry) (iss : Issuer) : Dev :=
  let base := ebytes e 32 8
  let log2 := ebytes e 40 1
  if base % 4096 ≠ 0 ∨ !(log2 == 0 || (decide (12 ≤ log2) && decide (log2 ≤ 20))) then s.answer iss E_MGMT_OPERAND
  else (s.modRing (s.actPart iss) fun r => { r with base := BitVec.ofNat 64 base, log2, prod := 0, cons := 0 }).answer iss E_OK

def execPortExpect (q : Nat) : State → Host.Outcome State Fault Refusal :=
  act (.portExpect q) fun s => s.runMgmt q 0x40 Dev.mgPortExpect
def execFabAvoid (q : Nat) : State → Host.Outcome State Fault Refusal :=
  act (.fabAvoid q) fun s => s.runMgmt q 0x41 Dev.mgFabAvoid
def execEvtRing (q : Nat) : State → Host.Outcome State Fault Refusal :=
  act (.evtRing q) fun s => s.runMgmt q 0x50 Dev.mgEvtRing

/-! ### The management channel (R574) -/

/-- A forwarded IMG_RELOAD whose fetch brings no image ends as one whose format fails (R141). -/
def Dev.mgImgForwarded (i : Option ImageFile) (s : Dev) (e : Entry) (iss : Issuer) : Dev :=
  match i with
  | some i => s.mgImgReload (readImage i) e iss
  | none =>
    ({ s with img := { s.img with reloadPart := s.actPart iss, code := E_IMG_FORMAT, section_ := 0xFF, entry := 0 } } : Dev).answer iss E_IMG_FORMAT

/-- R574, R575: a command that another device sent acts as if issued through an HFM queue here. -/
def Dev.runForwarded (s : Dev) (m : MgmtPacket) : Dev :=
  let iss : Issuer := .remote m.srcDev
  match eCmd m.entry with
  | 0x01 => s.mgImgForwarded m.img m.entry iss
  | 0x02 => s.mgQuote m.entry iss
  | 0x03 => s.mgLogRead m.entry iss
  | 0x04 => s.mgTestReq m.entry iss
  | 0x05 => s.mgTestGrant m.entry iss
  | 0x10 => s.mgCtxOpen m.entry iss
  | 0x11 => s.mgCtxTeardown m.entry iss
  | 0x12 => s.mgJobTeardown m.entry iss
  | 0x13 => s.mgCtxFree m.entry iss
  | 0x20 => s.mgRegionAdd m.entry iss
  | 0x21 => s.mgRegionRemove m.entry iss
  | 0x22 => s.mgRegionRenew m.entry iss
  | 0x30 => s.mgGroupCreate m.entry iss
  | 0x31 => s.mgGroupDestroy m.entry iss
  | 0x32 => s.mgCollAbort m.entry iss
  | 0x40 => s.mgPortExpect m.entry iss
  | 0x41 => s.mgFabAvoid m.entry iss
  | 0x50 => s.mgEvtRing m.entry iss
  | _ => s.answer iss E_MGMT_UNKNOWN

/-- R574: the entry whose command was forwarded: the started head of a queue that sent just this to just this device. -/
def Dev.forwardedEntry (s : Dev) (m : MgmtPacket) : Option (Nat × BitVec 32) :=
  s.host.queues.findSome? fun q =>
    match q.2.entries with
    | h :: _ =>
      if h.started && eKind h.e == 5 && (eEntry h.e).testBit 15 && h.e == m.entry && eEntry h.e % 2 ^ 14 == m.srcDev then some (q.1, h.seq) else none
    | [] => none

/-- A management-channel packet: a command, or the result of one. -/
def Dev.mgmtPacket (s : Dev) (m : MgmtPacket) : Dev :=
  if s.img.loaded.isNone || s.inReset 6 0 then s
  else
    let s := s.wakeEvent
    match m.reply with
    | none => s.runForwarded m
    | some (code, result) =>
      match s.forwardedEntry m with
      | some (q, seq) => s.complete q seq code result
      | none => s

def execManagementPacket (m : MgmtPacket) : State → Host.Outcome State Fault Refusal :=
  act (.managementPacket m) fun s => s.mgmtPacket m

end Sys2Proof.Machine
end

