-- ==== Sys2Proof/Machine/Counters.lean ====
section
/-! DEFINITION. The registers of the counter banks that act, and snapshots (R663–R669, R673–R680). -/

namespace Sys2Proof.Machine

/-- R663: kind, number of counters, presence of a bank. -/
def Dev.bankShape (s : Dev) (b : Nat) : Option (Nat × Nat) :=
  if b = 0 then some (1, 32)
  else if b < 5 then some (2, 16)
  else if b < 37 then (if s.coreOn (b - 5) then some (3, 8) else none)
  else if b < 69 then (if s.stackFitted (b - 37) then some (4, 8) else none)
  else if b < 83 then (if s.engFitted (b - 69) then some (5, 8) else none)
  else none

/-- R673–R677: the source codes of each kind of bank; those of EVT_EXT need the feature. -/
def sourceOk (kind : Nat) (ext : Bool) (c : Nat) : Bool :=
  let within := fun (a b : Nat) => decide (a ≤ c) && decide (c ≤ b)
  c == 0 ||
    match kind with
    | 1 => within 0xC0 0xD1
    | 2 => within 0x20 0x28 || (ext && within 0x80 0x82)
    | 3 => within 0x01 0x11
    | 4 => within 0x40 0x49
    | 5 => within 0x60 0x66
    | _ => false

/-- R667: writable bits of SEL. -/
def selMask : Word := 0xFFFFFF01FF

/-- R560, R664: a port may write a bank: one of a core under the rule of the core. -/
def Dev.bankPortOk (s : Dev) (port b : Nat) : Bool := !(decide (5 ≤ b) && decide (b < 37)) || s.corePortOk port (b - 5)

def Dev.modCtr (s : Dev) (b j : Nat) (f : Ctr → Ctr) : Dev := s.modBank b fun k => { k with ctrs := put {} k.ctrs j (f (look {} k.ctrs j)) }

/-- R667, R668: a write of SEL. -/
def Dev.selWrite (s : Dev) (b kind j : Nat) (v : Word) : Dev :=
  let v := v &&& selMask
  if sourceOk kind (s.boot.compatClass == 2) (fldN v 0 8) then s.modCtr b j fun c => { c with sel := v }
  else (s.modCtr b j fun c => { c with sel := v &&& ~~~0xFF }).logE E_EVC_SOURCE b

/-- A write to a bank that is there, through a port that may write it. -/
def Dev.bankWrite (s : Dev) (port b : Nat) (f : Nat → Nat → Dev → Dev) : Dev :=
  match s.bankShape b with
  | none => s
  | some (kind, n) => if s.bankPortOk port b then f kind n s else s.logE E_HOST_NOT_OWNER (b - 5)

def execEvcSel (port bank j : Nat) (v : Word) : State → Host.Outcome State Fault Refusal :=
  actIf (port < 2 && bank < 83 && j < 32) fun s =>
    if !s.ready then s else s.bankWrite port bank fun kind n s => if j < n then s.selWrite bank kind j v else s

/-- R679: ARM is set; a counter that meets the condition triggers as the command ends. -/
def Dev.snapArmed (s : Dev) : Dev := { s with evc := { s.evc with arm := true } }

def execSnapArm (port : Nat) : State → Host.Outcome State Fault Refusal := actIf (port < 2) fun s => if s.ready then s.snapArmed else s
def execSnapNow (port : Nat) : State → Host.Outcome State Fault Refusal := actIf (port < 2) fun s => if s.ready then s.snap else s

end Sys2Proof.Machine
end

