-- ==== Sys2Proof/Machine/Hostio.lean ====
section
/-! DEFINITION. The PCI Express ports and the doorbells: posting, link down and up, lost records, masked vectors, resets of a
function, the queue watchdog (R65, R563–R566, R572–R573, R578–R580, R584–R586, R652). -/

namespace Sys2Proof.Machine

/-! ### Doorbells (R563–R565) -/

/-- R563: the code of the last POST through a port. -/
def Queue.setLast (k : Queue) (port : Nat) (code : Code) : Queue := if port = 0 then { k with last0 := code } else { k with last1 := code }

/-- R564: POST is written: a copy of STAGE is appended to the queue. -/
def Dev.postFrom (s : Dev) (port q : Nat) : Dev :=
  if !s.doorOpen port q then s
  else
    let s := s.count bankHub 0xCE 1 none (s.qOwner q)
    if 32 ≤ (s.queue q).entries.length then s.wakeEvent.modQueue q fun k => k.setLast port E_Q_FULL
    else (s.modQueue q fun k => k.setLast port E_OK).postEntry q (s.queue q).stage

def execPost (port q : Nat) : State → Host.Outcome State Fault Refusal :=
  act (.post port q) fun s => s.postFrom port q

/-! ### Links, lost records, vectors (R572, R579, R580) -/

/-- R572: a record that waits for a port; messages wait behind the records and are kept. -/
def isRecord : Out → Bool
  | .hostWrite _ _ _ => true
  | _ => false

/-- R572: the records that wait for a port are discarded, counted, and logged once per episode. -/
def Dev.loseRecords (s : Dev) (port : Nat) : Dev :=
  let h := s.hport port
  let n := h.waiting.countP isRecord
  if n = 0 then s
  else
    let s := s.when (!h.lostLogged) fun s => s.logE E_HOST_CPL_LOST port
    s.modHport port fun h =>
      { h with waiting := h.waiting.filter (fun o => !isRecord o), cplLost := sat16 h.cplLost n, lostLogged := true }

def execCplLost (port : Nat) : State → Host.Outcome State Fault Refusal :=
  act (.cplLost port) fun s => if s.portOpen port then s else s.loseRecords port

/-- R579: a vector is unmasked; a pending message is sent. -/
def Dev.unmask (s : Dev) (port vec : Nat) : Dev :=
  let h := s.hport port
  if h.unmasked.contains vec then s
  else
    let s := s.modHport port fun h => { h with unmasked := h.unmasked ++ [vec], pendingVec := h.pendingVec.filter (· ≠ vec) }
    if h.pendingVec.contains vec then s.hostSend port (.msix port vec) else s

def execMsixUnmask (port vec : Nat) : State → Host.Outcome State Fault Refusal :=
  act (.msixUnmask port vec) fun s => s.unmask port vec

def Dev.setRef (s : Dev) (port : Nat) (ok : Bool) : Dev :=
  { s with pow := if port = 0 then { s.pow with ref0 := ok } else { s.pow with ref1 := ok } }

/-- R572, R661: a port's link goes down, by its partner or by loss of its reference. -/
def execPcieLinkDown (port : Nat) (refLost : Bool) : State → Host.Outcome State Fault Refusal :=
  actIf (port < 2) fun s =>
    let s := if refLost then s.setRef port false else s
    s.modHport port fun h => { h with up := false, speed := 0, width := 0, l0p := 0, flit := false }

/-- R65, R556, R572: a port's link trains, or its active width changes under L0p; at 64.0 GT/s in FLIT mode always. What waited goes
out. -/
def execPcieLinkUp (port speed width : Nat) (mode : LinkMode) : State → Host.Outcome State Fault Refusal :=
  actIf (linkUpOk port speed width mode.flit mode.l0p) fun s =>
    if s.perst port || s.pinsTaken then s
    else
      let s := s.setRef port true
      (s.modHport port fun h => { h with up := true, speed, width, l0p := mode.l0p, flit := mode.flit || decide (speed = 6) }).deliver port

/-! ### Function level reset (R573) -/

/-- Queues of the port's partitions. -/
def Dev.portQueues (s : Dev) (port : Nat) : List Nat :=
  (s.host.queues.map (·.1)).filter fun q => ((s.qOwner q).map fun n => s.portOf n == port).getD false

/-- R573 step 2: entries not started, and copies and read-outs with a host side, complete with `E_HOST_FLR`. -/
def Dev.flrQueue (s : Dev) (q : Nat) : Dev :=
  let s := s.fold s.runsOf fun s r =>
    if r.2.queue = q ∧ (r.2.fromHost ∨ r.2.toHost) then (s.setRun r.1 none).complete q r.2.seq E_HOST_FLR else s
  s.fold (s.queue q).entries fun s e => if e.started then s else s.complete q e.seq E_HOST_FLR

/-- R573 in its order. Host-address writes made meanwhile are discarded under R572; messages are kept. -/
def Dev.flr (s : Dev) (port : Nat) : Dev :=
  if !(s.hport port).up || s.perst port || !(decide (3 ≤ s.boot.step) || s.boot.halted) then s
  else
    let s := s.modHport port fun h => { h with up := false }
    let s := s.fold (s.portQueues port) fun s q => s.flrQueue q
    let s := s.loseRecords port
    let s := s.fold (s.parts.filter (·.port == port)) fun s p => s.modRing p.part fun r => { r with log2 := 0 }
    let s := (s.modHport port fun h => { h with up := true }).deliver port
    s.modHport port fun h => { h with unmasked := [], pendingVec := [], d3hot := false, flrs := sat16 h.flrs }

def execFlr (port : Nat) : State → Host.Outcome State Fault Refusal := act (.flr port) fun s => s.flr port

/-! ### The queue watchdog (R584–R586) -/

/-- R585: the partition is in a granted test window. -/
def Dev.inWindow (s : Dev) (part : Nat) : Bool := s.tests.grants.any fun g => s.testOwnedBy g.1 g.2.1 part

/-- The thread that runs the work item of an entry. -/
def Dev.threadOf (s : Dev) (q : Nat) (seq : BitVec 32) : Option Tid :=
  s.cores.findSome? fun c => c.2.threads.findSome? fun t =>
    match t.2.work with
    | some w => if w.queue = q ∧ w.seq = seq ∧ !w.leg then some ⟨c.1, t.1⟩ else none
    | none => none

/-- R586: the oldest entry of the queue ends. -/
def Dev.endOldest (s : Dev) (q : Nat) (e : QEntry) : Dev :=
  if eKind e.e = 4 ∧ (e.started ∨ ((s.group q).map fun g => decide (g.st = .running)).getD false) then s.raiseGroup q E_COLL_COMMAND
  else if !e.started then s.complete q e.seq E_Q_PROGRESS_WDOG
  else if eKind e.e = 1 then (s.threadOf q e.seq).elim s fun x => s.beginReset x E_THREAD_RESET E_Q_PROGRESS_WDOG
  else match s.runsOf.find? fun r => r.2.queue == q && r.2.seq == e.seq with
    | some (n, r) => (s.setRun n (some { r with stopped := true, code := if r.code = E_OK then E_Q_PROGRESS_WDOG else r.code })).runEnd n
    | none => s

def execQProgressWdog (q : Nat) : State → Host.Outcome State Fault Refusal :=
  actIf (q < 4096) fun s =>
    match (s.queue q).entries with
    | e :: _ =>
      let n := (s.qOwner q).getD 8
      if !(s.qType q == 1 || s.qType q == 2 || s.qType q == 3) || fldN (s.reg 0 0xB00 0x64) 0 16 == 0 || s.qHeld q || s.inWindow n then s
      else ((s.logE E_Q_PROGRESS_WDOG q).event n 10 E_Q_PROGRESS_WDOG q).endOldest q e
    | [] => s

end Sys2Proof.Machine
end

