-- ==== Sys2Proof/Machine/Csr.lean ====
section
/-! DEFINITION. Writes of registers and of the doorbell pages (R15–R19, R65, R558–R565, R704). A write of 32 bits takes part in
a 64-bit register as the half that it addresses. -/

namespace Sys2Proof.Machine

/-! ### The written bits -/

/-- A write within an aligned 64-bit register: the bits it addresses, and their new values in place. -/
structure WBits where
  mask : Word
  val : Word
deriving DecidableEq, Repr

/-- R15: the bits that an aligned access of 4 or 8 bytes writes. -/
def wbits (off size : Nat) (v : Word) : WBits :=
  if size = 8 then { mask := BitVec.allOnes 64, val := v }
  else if off % 8 = 0 then { mask := 0xFFFFFFFF, val := v &&& 0xFFFFFFFF }
  else { mask := 0xFFFFFFFF00000000, val := v <<< 32 }

/-- R16 RW: the bits of `field` that are written take their new values. -/
def WBits.rw (w : WBits) (field old : Word) : Word := (old &&& ~~~(w.mask &&& field)) ||| (w.val &&& w.mask &&& field)

/-- R16 W1C, W1S: a 1 is written to bit `i`. -/
def WBits.one (w : WBits) (i : Nat) : Bool := w.mask.getLsbD i && w.val.getLsbD i

/-- The access addresses bits 31:0. -/
def WBits.low (w : WBits) : Bool := w.mask.getLsbD 0

/-- A plain register of a block. -/
def Dev.plainWrite (s : Dev) (block off : Nat) (w : WBits) (field : Word) (reset : Word := 0) : Dev :=
  s.setReg block off (w.rw field (s.reg block off reset)) reset

/-! ### The HUB block -/

/-- R590, R615: a write of `HUB.RESET_CTL`. -/
def Dev.resetCtlWrite (s : Dev) (port : Nat) (w : WBits) : Dev :=
  let s := s.plainWrite 0 0xB08 w 0x1F07
  if !w.one 16 then s
  else
    let unit := fldN (s.reg 0 0xB08) 8 5
    match fldN (s.reg 0 0xB08) 0 3 with
    | 2 => if unit < 4 then s.dieReset (.request port) unit else s.logE E_RESET_REQ_BAD unit
    | 3 => s.stackRst (.request port) unit
    | 4 => if unit < 14 then s.linkRst (.request port) unit else s.logE E_RESET_REQ_BAD unit
    | 5 => s.resetReq 5 unit true (s.inReset 6 0) (·.beginDevice E_OK true)
    | _ => s.logE E_RESET_REQ_BAD unit

/-- R397: a write of `HUB.PORT_CTRL`, its bits in order. -/
def Dev.portCtrlWrite (s : Dev) (w : WBits) : Dev :=
  s.portSel.elim s fun p =>
    let s := s.when (w.one 0) (·.ctlRetrain p)
    let s := s.when (w.one 1) (·.ctlRediscover p)
    let s := s.when (w.one 2) (·.ctlWithdraw p)
    let s := s.when (w.one 3) (·.ctlRestore p)
    s.when w.low (·.ctlLocate p (w.one 4))

/-- R399: a write of `HUB.ATTN_CTL`, its bits in order. -/
def Dev.attnCtlWrite (s : Dev) (w : WBits) : Dev :=
  let s := s.plainWrite 0 0x528 w 0xFFFF0000 0x3C0000
  (s.when (w.one 0) (·.attnRelease)).when (w.one 1) (·.attnCancel)

/-- R485: VALID and OVERFLOW of the selected context's error record. -/
def Dev.ctxErrWrite (s : Dev) (w : WBits) : Dev :=
  let n := fldN (s.hub 0x720) 0 10
  let s := s.when (w.one 0) fun s => s.modCtx n fun c => { c with eValid := false }
  s.when (w.one 1) fun s => s.modCtx n fun c => { c with eOver := false }

/-- R581: CONS of the selected partition's ring, written by the port that serves the partition. -/
def Dev.consWrite (s : Dev) (port : Nat) (w : WBits) : Dev :=
  let n := fldN (s.hub 0xA10) 0 3
  if !w.low then s
  else if s.img.loaded.isSome && !(s.defined n && s.portOf n == port) then s.logE E_HOST_NOT_OWNER n
  else s.modRing n fun r => { r with cons := fld w.val 16 16 }

/-- R645: a port writes its own field of `HUB.LAT_TOL`. -/
def Dev.latTolWrite (s : Dev) (port : Nat) (w : WBits) : Dev :=
  s.latWrite port (w.rw 0xFFFFFFFFFF (at_ 0 s.pow.lt0.toNat ||| at_ 20 s.pow.lt1.toNat))

def Dev.hubWrite (s : Dev) (port off : Nat) (w : WBits) : Dev :=
  match hubPlain off with
  | some (field, reset) => s.plainWrite 0 off w field reset
  | none =>
    match off with
    | 0x0218 => s.when (w.one 0) fun s => s.retrainReq (fldN (s.hub 0x200) 0 8)
    | 0x0300 => s.when w.low fun s => s.testReqWrite (w.val &&& w.mask)
    | 0x0308 => s.when w.low fun s => s.testGrantWrite port (w.val &&& w.mask)
    | 0x0400 => s.when w.low fun s => s.holdWrite w.val
    | 0x0518 => s.portCtrlWrite w
    | 0x0528 => s.attnCtlWrite w
    | 0x0620 => s.routeAsk (w.rw 0x3FFF (at_ 0 s.fab.query.toNat))
    | 0x0730 => s.ctxErrWrite w
    | 0x0A18 => s.consWrite port w
    | 0x0B08 => s.resetCtlWrite port w
    | 0x0C00 => s.when w.low fun s => s.modeWrite (fld w.val 0 2)
    | 0x0C08 => s.latTolWrite port w
    | _ => s

/-! ### The other blocks -/

/-- R561: the boot mailbox of the port. -/
def Dev.mboxWrite (s : Dev) (port off : Nat) (w : WBits) : Dev :=
  match off with
  | 0x00 => s.plainWrite (mboxBlock port) 0 w (BitVec.allOnes 64)
  | 0x08 => s.plainWrite (mboxBlock port) 8 w 0xFFFFFFFF
  | 0x10 =>
    if !w.low then s
    else if w.one 2 then s.mboxGo port (fldN w.val 0 2)
    else s.modMbox port fun m => { m with kind := fldN w.val 0 2 }
  | _ => s

/-- R192: a field written as zero takes the value 1. -/
def wdogFields (v : Word) : Word :=
  let f := fun (i : Nat) => at_ (16 * i) (max 1 (fldN v (16 * i) 16))
  f 0 ||| f 1 ||| f 2

/-- R190–R193, R229, R560: a CORE block. -/
def Dev.coreWrite (s : Dev) (port c off : Nat) (w : WBits) : Dev :=
  let s := s.wakeEvent
  if !s.coreOn c then s
  else if !s.corePortOk port c then s.logE E_HOST_NOT_OWNER c
  else
    match off with
    | 0x10 => if w.low && s.coreUsable c then s.resetThreads c (fld w.val 0 16) else s
    | 0x18 => s.when (w.one 0) fun s => s.beginCore c E_OK
    | 0x20 => s.setReg (0x10 + c) 0x20 (wdogFields (w.rw 0xFFFFFFFFFFFF (s.coreWdog c))) wdogReset
    | 0x28 =>
      let s := s.when (w.one 0) fun s => s.modCore c fun k => { k with fValid := false }
      s.when (w.one 1) fun s => s.modCore c fun k => { k with fOver := false }
    | 0x58 =>
      let s := s.when (w.one 0) fun s => s.modCore c fun k => { k with rlValid := false }
      s.when (w.one 1) fun s => s.modCore c fun k => { k with rlOver := false }
    | _ => s

/-- R354, R357, R560: a MEM block. -/
def Dev.memBlockWrite (s : Dev) (port k off : Nat) (w : WBits) : Dev :=
  let s := s.wakeEvent
  if !s.stackFitted k then s
  else
    match off with
    | 0x08 => s.plainWrite (0x30 + k) 0x08 w 0x71F
    | 0x20 =>
      if !s.stackPortOk port k then s.logE E_HOST_NOT_OWNER k
      else
        let s := s.plainWrite (0x30 + k) 0x20 w 0x1FFFFF 0x200
        s.when (w.one 21) fun s => s.migStartAt port k (fldN (s.migCtl k) 16 5)
    | _ => s

/-- R401: an ENG block. -/
def Dev.engWrite (s : Dev) (e off : Nat) (w : WBits) : Dev :=
  if s.engFitted e && off == 0x08 then s.plainWrite (0x50 + e) 0x08 w 0xF else s

/-- R665–R669: a register of a bank's page. -/
def Dev.bankReg_write (b off : Nat) (w : WBits) (kind n : Nat) (s : Dev) : Dev :=
  let j := (off - 0x100) / 16
  if off = 0 then
    s.modBank b fun k =>
      { k with ovf := k.ovf &&& ~~~(fld (w.val &&& w.mask) 0 32), resetSeen := k.resetSeen && !w.one 32 }
  else if off = 8 then s.when w.low fun s => s.modBank b fun k => { k with freeze := w.one 0 }
  else if 0x100 ≤ off ∧ off < 0x100 + 16 * n then
    let c := look {} (s.bank b).ctrs j
    if off % 16 = 0 then s.selWrite b kind j (w.rw selMask c.sel)
    else
      let v := w.rw (BitVec.allOnes 64) (at_ 0 c.value.toNat ||| at_ 48 c.wraps.toNat)
      s.modCtr b j fun c => { c with value := fld v 0 48, wraps := fld v 48 16 }
  else s

/-- R663, R678: the counter blocks. -/
def Dev.evcWrite (s : Dev) (port block off : Nat) (w : WBits) : Dev :=
  if block = 0x60 ∧ off = 0x10000 then
    let s := s.plainWrite 0x60 0x10000 w 0xFFFF
    (s.when (w.one 16) (·.snapArmed)).when (w.one 17) (·.snap)
  else if block = 0x60 ∧ off = 0x10008 then s.plainWrite 0x60 0x10008 w (BitVec.allOnes 64)
  else match s.bankAt block off with
    | some (b, _, _) => s.bankWrite port b (Dev.bankReg_write b (off % 0x1000) w)
    | none => s

/-! ### The doorbell pages (R558, R563) -/

/-- R563: bytes of STAGE. -/
def Dev.stageWrite (s : Dev) (q o size : Nat) (v : Word) : Dev :=
  s.modQueue q fun k => { k with stage := BitVec.ofNat 512 (setBits k.stage.toNat (8 * o) (8 * size) v.toNat) }

/-- A write to the doorbell page of a queue. -/
def Dev.doorWrite (s : Dev) (port q o size : Nat) (v : Word) : Dev :=
  if !s.doorOpen port q then s
  else if o < 0x40 then s.stageWrite q o size v
  else if o < 0x48 then s.postFrom port q
  else s

/-! ### The command -/

/-- R65: before step 10 only the HUB block and the boot mailbox are reached through BAR0. -/
def Dev.csrWrite (s : Dev) (port block off size : Nat) (v : Word) : Dev :=
  let w := wbits off size v
  let r := off / 8 * 8
  if block = 0 then s.hubWrite port r w
  else if block = 1 then s.mboxWrite port r w
  else if !s.ready then s
  else if 0x80 ≤ block then s.doorWrite port ((block - 0x80) * 256 + off / 4096) (off % 4096) size v
  else if 0x10 ≤ block ∧ block < 0x30 then s.coreWrite port (block - 0x10) r w
  else if 0x30 ≤ block ∧ block < 0x50 then s.memBlockWrite port (block - 0x30) r w
  else if 0x50 ≤ block ∧ block < 0x5E then s.engWrite (block - 0x50) r w
  else if 0x60 ≤ block ∧ block < 0x66 then s.evcWrite port block r w
  else s

def execCsrWrite (port block off size : Nat) (v : Word) : State → Host.Outcome State Fault Refusal :=
  act (.csrWrite port block off size v) fun s => s.csrWrite port block off size v

/-- R704: an access that is not an aligned one of 4 or 8 bytes: a read returns all ones, a write changes nothing; both are
logged. -/
def execCsrAccessBad (port : Nat) (isWrite : Bool) (size : Nat) : State → Host.Outcome State Fault Refusal :=
  act (.csrAccessBad port isWrite size) fun s =>
    let s := s.when (!isWrite) fun s => s.out (.barRead port (List.replicate size 0xFF))
    s.logE E_CSR_ACCESS port

end Sys2Proof.Machine
end

