-- ==== Sys2Proof/Machine/Flushes.lean ====
section
/-! DEFINITION. The timers of the combining entries (R503, R506, R507). -/

namespace Sys2Proof.Machine

/-- R503: 200 ns after it opened, an entry flushes. -/
def execCombiningFlush (e : Nat) : State → Host.Outcome State Fault Refusal :=
  act (.combiningFlush e) fun s => s.flush e

/-- R506: no response and no HOLD for 10 ms: the entry is freed and logged. -/
def Dev.combStale (s : Dev) (e : Nat) : Dev :=
  match s.comb e with
  | some c =>
    if c.awaiting then
      let s := (s.setComb e none).logE E_AXA_COMB_STALE e
      ({ s with axa := { s.axa with stale := sat8 s.axa.stale } } : Dev).resetGo
    else s
  | none => s

def execCombiningStale (e : Nat) : State → Host.Outcome State Fault Refusal :=
  act (.combiningStale e) fun s => s.combStale e

/-- R507: the wait before a device reset or in drain phase 4 ends: entries that still wait are freed. -/
def execCombiningFlushWaitEnd : State → Host.Outcome State Fault Refusal :=
  act .combiningFlushWaitEnd fun s => if s.axa.closed then s.dropStale.resetGo else s

end Sys2Proof.Machine
end

