-- ==== Sys2Proof/Machine/Matrix.lean ====
section
/-! DEFINITION. The matrix instructions and the steps of an array: entering the queue, starting, feeding rows, writing
drain rows, sending contributions, completing, watchdog, residue rate, array reset (R161, R162, R178, R183, R197–R274). -/

namespace Sys2Proof.Machine

/-! ### Entering a queue -/

/-- R112, R225: the use bit of an array in its partition's section. -/
def Dev.arrUse (s : Dev) (c a : Nat) : Bool :=
  match (s.partOfCore c).bind s.sect with
  | none => false
  | some p => ((p.arrayUse.find? (·.1 == c)).map fun u => u.2.getLsbD a).getD false

/-- R186, R225, R246, R263: the naming errors, which fault the thread. -/
def Dev.arrFault (s : Dev) (x : Tid) (kind : ArrKind) (i : Insn) : Option Code :=
  let a := i.fn.toNat % 2
  if !s.arrUsable x.core a || (s.arr x.core a).st == .retired then some E_ARRAY_ABSENT
  else if !s.arrUse x.core a then some E_ARRAY_GATED
  else if kind == .mdrv && fldN ((s.thr x).rg i.a) 11 2 == 3 then some E_MX_FORMAT
  else none

/-- R242: the store offset of a descriptor: 64-byte aligned, in the populated store of the thread's own core. -/
def descAt (x : Tid) (a : Word) : Option Nat :=
  if a.toNat % 64 = 0 then (ownStore x a).bind fun off => if off + 64 ≤ storeTop then some off else none else none

/-- R204, R237: segment rows and columns that a load or stream activates; a segment row holds 64 indices at rate 2. -/
def segments (d : MxDesc) : Nat × Nat := (if mxRate2 d.fmt then (d.k + 63) / 64 else (d.k + 31) / 32, (d.n + 31) / 32)

/-- The queue entry of an instruction. -/
def Dev.arrEntry (s : Dev) (x : Tid) (kind : ArrKind) (i : Insn) (desc : MxDesc) (code : Code) : ArrInsn :=
  let t := s.thr x
  let n := (t.work.map (·.ctx)).getD 0
  { id := (s.arr x.core (i.fn.toNat % 2)).nextId, kind, desc, thr := x.thr, epoch := t.epoch, gd := i.d, ctl := t.rg i.a,
    started := false, code, done := false, fed := 0, rows := 0, nan := false, inf := false, out := 0, tsync := 0, pipe := []
    lastFeed := 0, ctx := n, job := (s.ctx n).job, gen := (s.ctx n).gen
    segs := segments desc, slots := [] }

/-- Drain-bank rows that an instruction of the queue still writes: those of an MSTREAM in BANK not yet written. -/
def ArrInsn.writes (j : ArrInsn) (lo n : Nat) : Bool :=
  j.kind == .mstream && j.desc.out == 0 &&
    let top := j.desc.drow + (if j.done then j.fed else j.desc.m)
    decide (j.desc.drow + j.rows < lo + n) && decide (lo < top)

/-- The rows that a drain or RACC instruction reads: first row and count. -/
def ArrInsn.range (k : ArrInsn) : Nat × Nat :=
  match k.kind with
  | .mdrv => (fldN k.ctl 0 10, 1)
  | _ => (k.desc.drow, k.desc.m)
def ArrInsn.reads (k : ArrInsn) : Bool := k.kind == .mdrain || k.kind == .mracc || k.kind == .mdrv

/-- The instructions ahead of `id` in a queue. -/
def MArray.ahead (m : MArray) (id : Nat) : List ArrInsn := m.queue.takeWhile (·.id != id)

/-- R162: rows that the instruction reads are still to be written by one ahead of it. -/
def MArray.blocked (m : MArray) (k : ArrInsn) : Bool := (m.ahead k.id).any fun j => j.writes k.range.1 k.range.2

/-- R162: threads of MDRAIN and MRACC whose rows have been written go on. -/
def Dev.wakeReaders (s : Dev) (c a : Nat) : Dev :=
  s.fold (s.arr c a).queue fun s k =>
    if (k.kind == .mdrain || k.kind == .mracc) && !(s.arr c a).blocked k then
      s.modThr ⟨c, k.thr⟩ fun t => t.takeRead a k none
    else s

/-- R242, R245, R247: the instruction enters the queue, or completes at once with the code of its descriptor. The thread
goes on, but for a read it must wait for (R162, R263). -/
def Dev.arrEnter (s : Dev) (x : Tid) (kind : ArrKind) (i : Insn) : Dev :=
  let a := i.fn.toNat % 2
  let c := x.core
  let (desc, code) :=
    if kind = ArrKind.mdrv then (MxDesc.none, E_OK)
    else match descAt x ((s.thr x).rg i.a) with
      | none => (MxDesc.none, E_MX_ADDR)
      | some off =>
        if s.storeBadAt c off 64 then (MxDesc.none, E_STORE_UNCORR)
        else let d := mxDesc (s.storeRead c off 64); (d, mxCheck c kind d)
  let s := match descAt x ((s.thr x).rg i.a) with
    | some off => s.when (kind != ArrKind.mdrv) (·.storeTouch c off 64)
    | none => s
  let k := s.arrEntry x kind i desc code
  let s := s.modArr c a fun m => { m with nextId := m.nextId + 1 }
  let s := s.modThr x fun t =>
    let t := t.retire
    if kind = ArrKind.mdrv ∨ i.d = 0 then t else { t with awaiting := (i.d, a, k.id) :: t.awaiting }
  if code ≠ E_OK then s.endArr c a k code
  else
    let s := s.modArr c a fun m => { m with queue := m.queue ++ [k] }
    if kind == ArrKind.mdrv || (k.reads && (s.arr c a).blocked k) then
      s.modThr x fun t => { t with st := .parkedArray, pc := t.pc - 8, wait := .mdrv a k.id }
    else s

/-- The meaning of a matrix instruction. A thread that finds the queue full, or the array in reset or test, waits in
PARKED_ARRAY (R91, R161). -/
def semArr (kind : ArrKind) (opc : BitVec 8) (x : Tid) (i : Insn) (s : Dev) : Dev :=
  s.checked x (rFmt i true true false false 1) fun s =>
    s.unless x (s.arrFault x kind i) fun s =>
      let u := 2 * x.core + i.fn.toNat % 2
      let s := s.workFor 2 u
      let m := s.arr x.core (i.fn.toNat % 2)
      if m.st ≠ .ready ∨ s.windowOpen 2 u ∨ 4 ≤ m.queue.length then
        s.modThr x fun t => { t with st := .parkedArray, wait := .none, stash := some { opc, insn := i } }
      else s.arrEnter x kind i

def execMload (x : Tid) (i : Insn) : State → Host.Outcome State Fault Refusal :=
  act (.mload x i) fun s => s.issue x [i.a] (semArr .mload 0xC0 x i)
def execMstream (x : Tid) (i : Insn) : State → Host.Outcome State Fault Refusal :=
  act (.mstream x i) fun s => s.issue x [i.a] (semArr .mstream 0xC1 x i)
def execMdrain (x : Tid) (i : Insn) : State → Host.Outcome State Fault Refusal :=
  act (.mdrain x i) fun s => s.issue x [i.a] (semArr .mdrain 0xC2 x i)
def execMracc (x : Tid) (i : Insn) : State → Host.Outcome State Fault Refusal :=
  act (.mracc x i) fun s => s.issue x [i.a] (semArr .mracc 0xC3 x i)
def execMdrv (x : Tid) (i : Insn) : State → Host.Outcome State Fault Refusal :=
  act (.mdrv x i) fun s => s.issue x [i.a] (semArr .mdrv 0xC4 x i)

/-- The kind of a matrix opcode. -/
def arrKindOf (opc : BitVec 8) : Option ArrKind :=
  match opc.toNat with
  | 0xC0 => some .mload
  | 0xC1 => some .mstream
  | 0xC2 => some .mdrain
  | 0xC3 => some .mracc
  | 0xC4 => some .mdrv
  | _ => none

/-- R161: the instruction of a thread that waits for a slot of an array queue enters it. -/
def execArrayQueueSlotFree (x : Tid) : State → Host.Outcome State Fault Refusal :=
  act (.arrayQueueSlotFree x) fun s =>
    let t := s.thr x
    match t.st, t.stash with
    | .parkedArray, some k =>
      match arrKindOf k.opc with
      | some kind => if s.coreRuns x.core then semArr kind k.opc x k.insn s else s
      | none => s
    | _, _ => s

/-! ### Starting -/

/-- R204, R208: the cells of segment (row, column) of an array are clocked: those that the load or the stream in progress activates,
and, under segment gating 1 of the partition's section, all of them while one runs. No result depends on it (R206). -/
def Dev.segmentClocked (s : Dev) (c a row col : Nat) : Bool :=
  ((s.arr c a).queue.filter fun k => k.started && !k.done && (k.kind == .mload || k.kind == .mstream)).any fun k =>
    (decide (row < k.segs.1) && decide (col < k.segs.2)) || (((s.partOfCore c).bind s.sect).any (·.gating) && decide (row < 8) && decide (col < 8))

/-- R208: a physical row of an array is clocked: one that carries a logical row of a clocked segment (at rate 1 or 2, 32 logical rows
to a segment). -/
def Dev.rowClocked (s : Dev) (c a phys : Nat) : Bool :=
  (List.range 256).any fun k => physRow (s.arr c a).map k == phys && (List.range 8).any fun col => s.segmentClocked c a (k / 32) col

/-- Change instruction `id` of a queue. -/
def Dev.modInsn (s : Dev) (c a id : Nat) (f : ArrInsn → ArrInsn) : Dev :=
  s.modArr c a fun m => { m with queue := m.queue.map fun k => if k.id = id then f k else k }

/-- The instruction ends with a code: no row is fed any more, no operation sent. -/
def ArrInsn.stop (k : ArrInsn) (code : Code) : ArrInsn := { k with done := true, code := if k.code = E_OK then code else k.code }

/-- R198, R199, R251: an MLOAD starts. -/
def Dev.startLoad (s : Dev) (c a : Nat) (k : ArrInsn) : Dev :=
  if (s.arr c a).shadow.isSome then s.modInsn c a k.id fun k => { k.stop E_MX_SHADOW_BUSY with started := true }
  else
    (s.modArr c a fun m => { m with loading := some { fmt := k.desc.fmt, k := k.desc.k, n := k.desc.n } }).modInsn c a k.id fun k =>
      { k with started := true }

/-- The load in progress of an array. -/
def MArray.load (m : MArray) : Option ArrInsn := m.queue.find? fun k => k.kind == .mload && k.started && !k.done

/-- R198, R249, R274: one cycle of the load in progress: its pieces are read and written; after the last cycle the shadow holds the
tile. An uncorrectable word ends the load, and nothing of it stays (R172). -/
def Dev.loadCycle (s : Dev) (c a : Nat) : Dev :=
  match (s.arr c a).load, (s.arr c a).loading with
  | some k, some w =>
    let d := k.desc
    let base := d.src.toNat - (0x020000000000 + c * 0x02000000)
    let ps := (loadCycles d).getD k.fed []
    let bad := ps.any fun p => s.storeBadAt c (base + (p.extent d).1) (p.extent d).2
    let w := loadPieces (fun off n => s.storeRead c (base + off) n) d w ps
    let s := s.fold ps fun s p => s.storeTouch c (base + (p.extent d).1) (p.extent d).2
    if bad then (s.modArr c a fun m => { m with loading := none }).modInsn c a k.id fun k => k.stop E_STORE_UNCORR
    else
      let last := decide ((loadCycles d).length ≤ k.fed + 1)
      let s := s.modArr c a fun m =>
        if last then { m with loading := none, shadow := some w, wvalid := true } else { m with loading := some w }
      s.modInsn c a k.id fun k => { k with fed := k.fed + 1, rows := k.rows + (ps.map (·.rows d)).sum, done := last }
  | _, _ => s

/-- The cycles that the load in progress still has. -/
def MArray.loadLeft (m : MArray) : Nat := m.load.elim 0 fun k => (loadCycles k.desc).length - k.fed

/-- R201, R248: what needs the load in progress to have completed finds that it has. -/
def Dev.loadRest (s : Dev) (c a : Nat) : Dev := s.fold (List.range (s.arr c a).loadLeft) fun s _ => s.loadCycle c a

/-- R198: a clock cycle of an array in which its weight feeder works. -/
def Dev.arrayCycle (s : Dev) (c a : Nat) : Dev :=
  s.when ((s.arr c a).st == .ready && !s.coreBusy c && (s.arr c a).load.isSome) (·.loadCycle c a)

/-- R197, R199, R252: an MSTREAM starts, and makes loaded weights active. -/
def Dev.startStream (s : Dev) (c a : Nat) (k : ArrInsn) : Dev :=
  let m := s.arr c a
  let w := m.shadow.getD m.active
  let code :=
    if !m.wvalid then E_ARRAY_NO_WEIGHTS
    else if !mxPair w.fmt k.desc.fmt then E_MX_FORMAT
    else if w.k < k.desc.k ∨ w.n < k.desc.n then E_MX_LOADED
    else E_OK
  if code ≠ E_OK then s.modInsn c a k.id fun k => { k.stop code with started := true }
  else (s.modArr c a fun m => { m with active := w, shadow := none }).modInsn c a k.id fun k => { k with started := true }

/-- R216: the words of 32 B of a drain-bank row that hold columns lo … lo + n − 1. -/
def bankWords (row lo n : Nat) : List Nat := if n = 0 then [] else span (32 * row + lo / 8) ((lo + n - 1) / 8 - lo / 8 + 1)

/-- R216: one of these words is uncorrectable. -/
def MArray.bankBad (m : MArray) (row lo n : Nat) : Bool := (bankWords row lo n).any (m.eccBad.contains ·)

/-- R216: reading words corrects their single-bit errors. -/
def MArray.bankTouch (m : MArray) (row lo n : Nat) : MArray :=
  { m with eccSoft := m.eccSoft.filter fun w => !((bankWords row lo n).contains w) }

/-- The FP32 codes of columns 0 … n − 1 of a drain-bank row. -/
def MArray.rowOf (m : MArray) (row n : Nat) : List (BitVec 32) := (List.range n).map fun j => look 0 m.bank (row * 256 + j)

/-- R222: a row has been read. -/
def MArray.readRow (m : MArray) (row : Nat) : MArray := { m with unread := m.unread.filter (· ≠ row) }

/-- R262, R264: MDRAIN copies its rows in order, from the one at index `i`; `n` rows are left. -/
def Dev.drainRows (s : Dev) (c a id : Nat) (d : MxDesc) : Nat → Nat → Dev
  | 0, _ => s.modInsn c a id fun k => { k with done := true }
  | n + 1, i =>
    let m := s.arr c a
    let row := d.drow + i
    if m.bankBad row 0 d.n then
      match m.queue.find? (·.id == id) with
      | some k => s.residueError c a k row [] true
      | none => s
    else
      let cs := m.rowOf row d.n
      let bytes := outRow d.out cs
      let off := d.dst.toNat + i * d.dstPitch.toNat - (0x020000000000 + c * 0x02000000)
      let bad := s.storeWriteBad c off bytes.length (ones bytes.length)
      let s := (s.modArr c a fun m => m.bankTouch row 0 d.n).storeWrite c off bytes (ones bytes.length)
      if bad then s.modInsn c a id fun k => k.stop E_STORE_UNCORR
      else
        let codes := cs.map (outElem d.out)
        let s := s.modArr c a fun m => m.readRow row
        let s := s.modInsn c a id fun k =>
          { k with rows := k.rows + 1, nan := k.nan || anyNan (outTy d.out) codes, inf := k.inf || anyInf (outTy d.out) codes }
        s.drainRows c a id d n (i + 1)

/-- R263: the v register that an MDRV gives, by its form. -/
def drvReg (m : MArray) (ctl : Word) : VReg :=
  let row := fldN ctl 0 10
  let cs := m.rowOf row 256
  match fldN ctl 11 2 with
  | 0 => BitVec.ofNat 4096 (ofBytes (outRow 1 ((cs.drop (128 * fldN ctl 10 1)).take 128)))
  | 1 => BitVec.ofNat 4096 (ofBytes (outRow 2 cs))
  | _ => BitVec.ofNat 4096 (ofBytes (outRow 3 cs))

/-- R263: an MDRV reads its row and leaves the queue. -/
def Dev.startDrv (s : Dev) (c a : Nat) (k : ArrInsn) : Dev :=
  let row := fldN k.ctl 0 10
  let half := fldN k.ctl 11 2 == 0
  let lo := if half then 128 * fldN k.ctl 10 1 else 0
  let n := if half then 128 else 256
  if (s.arr c a).bankBad row lo n then s.residueError c a k row [] true
  else
    let v := drvReg (s.arr c a) k.ctl
    ((s.modArr c a fun m => (m.bankTouch row lo n).readRow row).dropArr c a k.id).modThr ⟨c, k.thr⟩ fun t => t.takeRead a k (some v)

/-- R162, R201, R248: the instruction may start: what stands ahead of it has started, a stream ahead has fed its last row,
rows it reads have been written, rows it writes have been read. -/
def MArray.mayStart (m : MArray) (k : ArrInsn) : Bool :=
  let l := m.ahead k.id
  m.st == .ready && l.all (·.started) &&
    match k.kind with
    | .mload => true
    | .mstream =>
      l.all (fun j => j.kind != .mstream || j.done) &&
        (k.desc.out != 0 || l.all fun j => !(j.reads && !j.done && decide (j.range.1 < k.desc.drow + k.desc.m) &&
          decide (k.desc.drow < j.range.1 + j.range.2)))
    | _ => !m.blocked k && !((span k.range.1 k.range.2).any (m.bad.contains ·))

/-- R248: the next instruction of the queue starts. -/
def execArrayInstrStart (core a : Nat) : State → Host.Outcome State Fault Refusal :=
  act (.arrayInstrStart core a) fun s =>
    let m := s.arr core a
    match m.queue.find? (!·.started) with
    | none => s
    | some k =>
      if !m.mayStart k || s.coreBusy core then s
      else match k.kind with
        | .mload => (s.loadRest core a).startLoad core a k
        | .mstream => (s.loadRest core a).startStream core a k
        | .mdrain => (s.modInsn core a k.id fun k => { k with started := true }).drainRows core a k.id k.desc k.desc.m 0
        | .mdrv => s.startDrv core a k
        | .mracc => s.modInsn core a k.id fun k => { k with started := true }

/-! ### Feeding and writing rows -/

/-- R226: the power step of a 25-cycle window: the one in force in it, or, in a window that begins, the step `p` of now. -/
def MArray.stepIn (m : MArray) (p w : Nat) : Nat := (m.window.filter (·.1 == w)).elim p (·.2)

/-- R202: the first array cycle from `t` on in which rows may be fed. -/
def MArray.feedCycle (m : MArray) (t p : Nat) : Nat := if t % 25 < 25 - m.stepIn p (t / 25) then t else t - t % 25 + 25

/-- R202, R256: the feed cycle of a row of one or two array cycles. -/
def MArray.rowCycle (m : MArray) (p cycles : Nat) : Nat :=
  let t := m.feedCycle m.feedAt p
  if cycles = 2 then m.feedCycle (t + 1) p else t

/-- The stream in progress: the one that has rows to feed. -/
def MArray.stream (m : MArray) : Option ArrInsn := m.queue.find? fun k => k.kind == .mstream && k.started && !k.done

/-- The feed cycle of the next row of the stream in progress. -/
def MArray.nextFeed (m : MArray) (p : Nat) : Option Nat := m.stream.map fun k => m.rowCycle p (mxRowCycles k.desc.fmt k.desc.out)

/-- R255, R274: a PASS row fed in cycle t is written in cycle t + 526; a row to feed in cycle u is read in cycle u − 4. The write
comes before the read. -/
def passesFirst (t u : Nat) : Bool := decide (t + 526 + 4 < u)

/-- R255, R274: PASS rows that are written before a row to feed in cycle `u` is read still wait. -/
def MArray.writesFirst (m : MArray) (u : Nat) : Bool :=
  m.queue.any fun k => k.desc.out != 0 && k.pipe.any fun f => passesFirst f.fedAt u

/-- R240, R250: how many slots of the scale plane are read in the feed of a row: at rate 2 those of the eight rows from each eighth
row on. -/
def slotsRead (d : MxDesc) (row : Nat) : Nat :=
  if !mxScaled d.fmt || d.k == 0 then 0
  else if !mxRate2 d.fmt then 1
  else if row % 8 = 0 then min 8 (d.m - row) else 0

/-- `n` slots of 32 bytes. -/
def cutSlots (n : Nat) (b : List Byte) : List (List Byte) := (List.range n).map fun i => (b.drop (32 * i)).take 32

/-- R201, R253, R256: the stream in progress feeds its next row, unless a PASS row is to be written first (R274). -/
def execArrayRowFeed (core a : Nat) : State → Host.Outcome State Fault Refusal :=
  act (.arrayRowFeed core a) fun s =>
    let m := s.arr core a
    match m.stream with
    | none => s
    | some k =>
      let d := k.desc
      let p := s.powerStep (core / 8)
      let cycles := mxRowCycles d.fmt d.out
      let t := m.rowCycle p cycles
      if m.st ≠ .ready ∨ s.coreBusy core ∨ m.writesFirst t then s
      else
        let base := 0x020000000000 + core * 0x02000000
        let rowOff := d.src.toNat + k.fed * d.srcPitch.toNat - base
        let rowLen := mxBytes d.fmt d.k
        let slotOff := d.scale.toNat + 32 * k.fed - base
        let slotLen := 32 * slotsRead d k.fed
        let bad := s.storeBadAt core rowOff rowLen || s.storeBadAt core slotOff slotLen
        let row := s.storeRead core rowOff rowLen
        let slots := if slotsRead d k.fed = 0 then k.slots else cutSlots (slotsRead d k.fed) (s.storeRead core slotOff slotLen)
        let s := (s.storeTouch core rowOff rowLen).storeTouch core slotOff slotLen
        if bad then s.modInsn core a k.id fun k => k.stop E_STORE_UNCORR
        else
          let sums := rowSums d m.active (streamRow d row (slots.headD []))
          let f : FedRow := { row := if d.out = 0 then d.drow + k.fed else k.fed, fedAt := t, sums }
          let s := (s.count (bankCore core) (0x08 + a)).count (bankCore core) 0x0B (d.k * d.n / 256)
          let s := s.count (bankCore core) 0x0A (t + 1 - m.feedAt - cycles)
          let s := s.modArr core a fun m => { m with feedAt := t + 1, window := some (t / 25, m.stepIn p (t / 25)) }
          s.modInsn core a k.id fun k =>
            { k with fed := k.fed + 1, pipe := k.pipe ++ [f], lastFeed := t, done := decide (d.m ≤ k.fed + 1), slots := slots.drop 1 }

/-- R253: a row in BANK, by ACC. R216: a word written whole without ACC is free of errors; any other is read first: a single-bit
error is corrected, an uncorrectable word stays one (log entry 57). -/
def MArray.writeRow (m : MArray) (row : Nat) (acc : Bool) (sums : List (BitVec 32)) : MArray :=
  let new := sums.zipIdx.map fun e =>
    (e.2, if acc then rne32 (decodeNum .fp32 (look 0 m.bank (row * 256 + e.2)).toNat) (decodeNum .fp32 e.1.toNat) else e.1)
  let whole := if acc then [] else span (32 * row) (sums.length / 8)
  { m.bankTouch row 0 sums.length with
    bank := new.foldl (fun b e => put 0 b (row * 256 + e.1) e.2) m.bank, unread := addNew m.unread row
    eccBad := m.eccBad.filter fun w => !(whole.contains w) }

/-- R200, R213–R217, R253, R255: the oldest fed row reaches the drain, after the feeder's reads of earlier cycles (R274). `res` are
the columns that fail the residue check. -/
def execDrainRowWrite (core a : Nat) (res : Residue) : State → Host.Outcome State Fault Refusal :=
  act (.drainRowWrite core a res) fun s =>
    let m := s.arr core a
    match m.queue.find? (fun k => k.kind == .mstream && !k.pipe.isEmpty) with
    | none => s
    | some k =>
      match k.pipe with
      | [] => s
      | f :: rest =>
        let d := k.desc
        let readFirst := d.out != 0 && (m.nextFeed (s.powerStep (core / 8))).any fun u => !passesFirst f.fedAt u
        if m.st ≠ .ready ∨ s.coreBusy core ∨ readFirst then s
        else if !res.isEmpty then s.residueError core a k (f.row % 1024) res false
        else if d.out = 0 then
          let s := s.modArr core a fun m => m.writeRow f.row d.acc f.sums
          let cs := ((s.arr core a).rowOf f.row d.n).map (·.toNat)
          let s := s.modInsn core a k.id fun k =>
            { k with pipe := rest, rows := k.rows + 1, nan := k.nan || anyNan .fp32 cs, inf := k.inf || anyInf .fp32 cs }
          s.wakeReaders core a
        else
          let off := d.dst.toNat + f.row * d.dstPitch.toNat - (0x020000000000 + core * 0x02000000)
          let bytes := outRow d.out f.sums
          if s.storeWriteBad core off bytes.length (ones bytes.length) then
            (s.storeWrite core off bytes (ones bytes.length)).modInsn core a k.id fun k => { k.stop E_STORE_UNCORR with pipe := [] }
          else
            let cs := f.sums.map (outElem d.out)
            (s.storeWrite core off bytes (ones bytes.length)).modInsn core a k.id fun k =>
              { k with pipe := rest, rows := k.rows + 1, nan := k.nan || anyNan (outTy d.out) cs, inf := k.inf || anyInf (outTy d.out) cs }

/-! ### Sending and completing -/

/-- Operations of one row of an MRACC. -/
def groupsOf (d : MxDesc) : Nat := (d.n + 15) / 16

/-- R266, R267: the operation at index `i` of an MRACC: its contributions, columns 16g to 16g + 15 below N. -/
def raccPayload (m : MArray) (d : MxDesc) (i : Nat) : AccPayload :=
  let g := i % groupsOf d
  let n := min 16 (d.n - 16 * g)
  { summed := false, ty := 0, anchor := d.anchor.setWidth 10, mask := BitVec.ofNat 16 (ones n), flags := 0
    data := (List.range n).map fun j => (look 0 m.bank ((d.drow + i / groupsOf d) * 256 + 16 * g + j)).setWidth 128 }

/-- R268: the MRACC in progress sends its next operation, in its turn at the port. -/
def execMraccOperationSend (core a : Nat) : State → Host.Outcome State Fault Refusal :=
  act (.mraccOperationSend core a) fun s =>
    let m := s.arr core a
    match m.racc with
    | some k =>
      let d := k.desc
      let row := d.drow + k.fed / groupsOf d
      let col := 16 * (k.fed % groupsOf d)
      let cols := min 16 (d.n - col)
      if !s.asksArray core a ∨ !s.portTurn core a then s
      else if m.bankBad row col cols then s.residueError core a k row [] true
      else
        let hga := d.dst + BitVec.ofNat 64 (k.fed / groupsOf d * d.dstPitch.toNat + 256 * (k.fed % groupsOf d))
        let s := (s.grantPort core a).modArr core a fun m => m.bankTouch row col cols
        match s.arraySend core a k.id false { s.arrayPkt k .accumulate 2 hga 256 with acc := some (raccPayload m d k.fed) } with
        | none => s
        | some s =>
          let last := decide ((k.fed + 1) % groupsOf d = 0)
          let s := s.modInsn core a k.id fun k =>
            { k with fed := k.fed + 1, out := k.out + 1, rows := if last then k.rows + 1 else k.rows
                     done := decide (groupsOf d * d.m ≤ k.fed + 1) }
          s.when last fun s => s.modArr core a fun m => m.readRow row
    | none =>
      match m.queue.find? (fun k => k.kind == .mracc && k.started && k.done) with
      | some k => s.tsyncTry core a k.id
      | none => s

/-- The instruction has nothing left to do (R247, R269, R270). -/
def ArrInsn.finished (k : ArrInsn) : Bool :=
  k.started && k.done && k.pipe.isEmpty && k.out == 0 &&
    (k.kind != .mracc || k.code != E_OK || k.desc.tsync == 0 || k.tsync == 2)

/-- R247: the first finished instruction completes. Where none has finished, the load in progress does. -/
def execArrayInstrComplete (core a : Nat) : State → Host.Outcome State Fault Refusal :=
  act (.arrayInstrComplete core a) fun s =>
    let busy := (s.arr core a).queue.any (·.finished) || (s.arr core a).st != .ready || s.coreBusy core
    let s := s.when (!busy) (·.loadRest core a)
    match (s.arr core a).queue.find? (·.finished) with
    | some k => ((s.dropArr core a k.id).endArr core a k k.code).wakeReaders core a
    | none => s

/-! ### Watchdog, residue rate, array reset -/

/-- R178, R179, R183: an array with an instruction in progress made no progress for ARRAY_LIMIT. -/
def execArrayWdog (core a : Nat) : State → Host.Outcome State Fault Refusal :=
  act (.arrayWdog core a) fun s =>
    let m := s.arr core a
    if m.st = .ready ∧ m.queue.any (·.started) ∧ !s.coreBusy core then s.arrayReset core a else s

/-- R218: eight residue errors within any 1 s retire the array. -/
def execArrayResidueRate (core a : Nat) : State → Host.Outcome State Fault Refusal :=
  act (.arrayResidueRate core a) fun s =>
    let m := s.arr core a
    if 8 ≤ (m.errTimes.filter fun t => decide (s.clock < t + 1000)).length then s.retireArr core a E_ARRAY_RESIDUE_RATE else s

/-- R220: the array reset ends; `chainOk` is the verdict of the chain check. -/
def execArrayResetDone (core a : Nat) (chainOk : Bool) : State → Host.Outcome State Fault Refusal :=
  actIf (core < 32 && a < 2) fun s => s.arrayResetEnd core a chainOk

end Sys2Proof.Machine
end

