-- ==== Sys2Proof/Machine/Flags.lean ====
section
/-! DEFINITION. Comparisons and arithmetic of the scalar unit. The core has no flags register: a comparison writes 0 or 1
to a register (SLT, SLTU) or decides a branch (R280, R282). Arithmetic wraps modulo 2^64 (R281). -/

namespace Sys2Proof.Machine

/-- 1 where the condition holds. -/
def flag (b : Bool) : Word := if b then 1 else 0

/-- Signed and unsigned order. -/
def sltW (a b : Word) : Bool := a.slt b
def ultW (a b : Word) : Bool := a.ult b

/-- The high 64 bits of a product, signed or unsigned (MULH). -/
def mulHigh (signed : Bool) (a b : Word) : Word :=
  if signed then (((a.signExtend 128) * (b.signExtend 128)).extractLsb' 64 64)
  else (((a.setWidth 128) * (b.setWidth 128)).extractLsb' 64 64)

/-- Shifts, by the low six bits of the amount (R281). -/
def shlW (a b : Word) : Word := a <<< (b.toNat % 64)
def shrW (a b : Word) : Word := a >>> (b.toNat % 64)
def sraW (a b : Word) : Word := a.sshiftRight (b.toNat % 64)

/-- gd = (imm << 32) | ga[31:0] (LIH). -/
def lihW (imm : BitVec 32) (a : Word) : Word := imm ++ a.extractLsb' 0 32

end Sys2Proof.Machine
end

