-- ==== Sys2Proof/Machine/Scalar.lean ====
section
/-! DEFINITION. Scalar and control instructions (R280–R286). -/

namespace Sys2Proof.Machine

/-- gd = f ga gb, format R. `fn` is the highest FN allowed. -/
def Dev.alu2 (x : Tid) (i : Insn) (fn : Nat) (f : Word → Word → Word) (s : Dev) : Dev :=
  s.issue x [i.a, i.b] fun s => s.checked x (rFmt i true true true false fn) fun s =>
    s.upd x fun t => t.wg i.d (f (t.rg i.a) (t.rg i.b))

/-- gd = f ga imm, format I. -/
def Dev.aluI (x : Tid) (i : Insn) (f : Word → Word → Word) (s : Dev) : Dev :=
  s.issue x [i.a] fun s => s.checked x (iFmt i true true) fun s =>
    s.upd x fun t => t.wg i.d (f (t.rg i.a) (immOf i))

/-- R282: the thread goes on at a branch or jump target; a fetch fault there names the jump. -/
def Thread.goto (t : Thread) (target : Word) : Thread :=
  { t with st := .ready, pc := target.setWidth 50, jumpFrom := some t.pc, line := .cached, pcOut := decide (2 ^ 50 ≤ target.toNat) }

/-- R277, R280, R282: a conditional branch. -/
def Dev.branch (x : Tid) (i : Insn) (cond : Word → Word → Bool) (s : Dev) : Dev :=
  s.issue x [i.a, i.b] fun s =>
    s.checked x (i.d == 0 && i.c == 0 && i.fn == 0 && i.upper.toNat % 8 == 0) fun s =>
      s.modThr x fun t =>
        if cond (t.rg i.a) (t.rg i.b) then t.goto (t.pc.setWidth 64 + immOf i) else t.retire

def execNop (x : Tid) (i : Insn) : State → Host.Outcome State Fault Refusal :=
  act (.nop x i) fun s => s.issue x [] fun s => s.checked x (rFmt i false false false false 0) fun s => s.upd x id

def execAdd (x : Tid) (i : Insn) : State → Host.Outcome State Fault Refusal := act (.add x i) (Dev.alu2 x i 0 (· + ·))
def execSub (x : Tid) (i : Insn) : State → Host.Outcome State Fault Refusal := act (.sub x i) (Dev.alu2 x i 0 (· - ·))
def execMul (x : Tid) (i : Insn) : State → Host.Outcome State Fault Refusal := act (.mul x i) (Dev.alu2 x i 0 (· * ·))
def execMulh (x : Tid) (i : Insn) : State → Host.Outcome State Fault Refusal :=
  act (.mulh x i) (Dev.alu2 x i 1 (mulHigh (i.fn == 0)))
def execAnd (x : Tid) (i : Insn) : State → Host.Outcome State Fault Refusal := act (.and x i) (Dev.alu2 x i 0 (· &&& ·))
def execOr (x : Tid) (i : Insn) : State → Host.Outcome State Fault Refusal := act (.or x i) (Dev.alu2 x i 0 (· ||| ·))
def execXor (x : Tid) (i : Insn) : State → Host.Outcome State Fault Refusal := act (.xor x i) (Dev.alu2 x i 0 (· ^^^ ·))
def execShl (x : Tid) (i : Insn) : State → Host.Outcome State Fault Refusal := act (.shl x i) (Dev.alu2 x i 0 shlW)
def execShr (x : Tid) (i : Insn) : State → Host.Outcome State Fault Refusal := act (.shr x i) (Dev.alu2 x i 0 shrW)
def execSra (x : Tid) (i : Insn) : State → Host.Outcome State Fault Refusal := act (.sra x i) (Dev.alu2 x i 0 sraW)
def execSlt (x : Tid) (i : Insn) : State → Host.Outcome State Fault Refusal :=
  act (.slt x i) (Dev.alu2 x i 0 fun a b => flag (sltW a b))
def execSltu (x : Tid) (i : Insn) : State → Host.Outcome State Fault Refusal :=
  act (.sltu x i) (Dev.alu2 x i 0 fun a b => flag (ultW a b))
/-- gd = gc[0] ? ga : gb. -/
def execSel (x : Tid) (i : Insn) : State → Host.Outcome State Fault Refusal :=
  act (.sel x i) fun s => s.issue x [i.a, i.b, i.c] fun s => s.checked x (rFmt i true true true true 0) fun s =>
    s.upd x fun t => t.wg i.d (if (t.rg i.c).getLsbD 0 then t.rg i.a else t.rg i.b)

def execAddi (x : Tid) (i : Insn) : State → Host.Outcome State Fault Refusal := act (.addi x i) (Dev.aluI x i (· + ·))
def execAndi (x : Tid) (i : Insn) : State → Host.Outcome State Fault Refusal := act (.andi x i) (Dev.aluI x i (· &&& ·))
def execOri (x : Tid) (i : Insn) : State → Host.Outcome State Fault Refusal := act (.ori x i) (Dev.aluI x i (· ||| ·))
def execXori (x : Tid) (i : Insn) : State → Host.Outcome State Fault Refusal := act (.xori x i) (Dev.aluI x i (· ^^^ ·))
def execShli (x : Tid) (i : Insn) : State → Host.Outcome State Fault Refusal := act (.shli x i) (Dev.aluI x i shlW)
def execShri (x : Tid) (i : Insn) : State → Host.Outcome State Fault Refusal := act (.shri x i) (Dev.aluI x i shrW)
def execSrai (x : Tid) (i : Insn) : State → Host.Outcome State Fault Refusal := act (.srai x i) (Dev.aluI x i sraW)
def execLih (x : Tid) (i : Insn) : State → Host.Outcome State Fault Refusal :=
  act (.lih x i) (Dev.aluI x i fun a _ => lihW i.upper a)

def execBeq (x : Tid) (i : Insn) : State → Host.Outcome State Fault Refusal := act (.beq x i) (Dev.branch x i (· == ·))
def execBne (x : Tid) (i : Insn) : State → Host.Outcome State Fault Refusal := act (.bne x i) (Dev.branch x i (· != ·))
def execBlt (x : Tid) (i : Insn) : State → Host.Outcome State Fault Refusal := act (.blt x i) (Dev.branch x i sltW)
def execBge (x : Tid) (i : Insn) : State → Host.Outcome State Fault Refusal :=
  act (.bge x i) (Dev.branch x i fun a b => !sltW a b)
def execBltu (x : Tid) (i : Insn) : State → Host.Outcome State Fault Refusal := act (.bltu x i) (Dev.branch x i ultW)
def execBgeu (x : Tid) (i : Insn) : State → Host.Outcome State Fault Refusal :=
  act (.bgeu x i) (Dev.branch x i fun a b => !ultW a b)

/-- R282, R313: a jump to a computed target. A target that is not a multiple of 8 faults when the jump issues, before the check of
its fields (`ok`). -/
def Dev.jump (x : Tid) (i : Insn) (ok : Bool) (target : Word) (s : Dev) : Dev :=
  let t := s.thr x
  if target.toNat % 8 ≠ 0 then (s.modThr x fun t => { t with jumpFrom := some t.pc }).faultThr x E_FETCH_ADDR
  else s.checked x ok fun s => s.modThr x fun u => (u.wg i.d ((t.pc.setWidth 64) + 8)).goto target

def execJal (x : Tid) (i : Insn) : State → Host.Outcome State Fault Refusal :=
  act (.jal x i) fun s => s.issue x [] fun s => s.jump x i (iFmt i true false) (((s.thr x).pc.setWidth 64) + immOf i)
def execJalr (x : Tid) (i : Insn) : State → Host.Outcome State Fault Refusal :=
  act (.jalr x i) fun s => s.issue x [i.a] fun s => s.jump x i (iFmt i true true) ((s.thr x).rg i.a + immOf i)

/-- R284, R442: the thread state that RDSYS returns. -/
def Dev.sysReg (s : Dev) (x : Tid) (n : Nat) : Option Word :=
  let t := s.thr x
  match n with
  | 0 => some (s.core x.core).cycle
  | 1 => some (at_ 0 x.thr ||| at_ 8 x.core ||| at_ 16 ((s.partOfCore x.core).getD 0) ||| at_ 32 s.devNum ||| at_ 48 s.domNum)
  | 2 =>
    let k := (t.work.map (·.ctx)).getD 0
    some (at_ 0 k ||| at_ 16 (s.ctx k).gen.toNat ||| at_ 32 (s.ctx k).job.toNat)
  | 3 => some (t.epoch.setWidth 64)
  | 4 => some (at_ 0 t.remCode.toNat ||| at_ 16 t.remCount.toNat)
  | 5 => some (t.rk.setWidth 64)
  | _ => none

def execRdsys (x : Tid) (i : Insn) : State → Host.Outcome State Fault Refusal :=
  act (.rdsys x i) fun s => s.issue x [] fun s =>
    s.checked x (iFmt i true false && (s.sysReg x i.upper.toNat).isSome) fun s =>
      s.upd x fun t => t.wg i.d ((s.sysReg x i.upper.toNat).getD 0)

/-- rk = ga[31:0] (R285). -/
def execRkey (x : Tid) (i : Insn) : State → Host.Outcome State Fault Refusal :=
  act (.rkey x i) fun s => s.issue x [i.a] fun s => s.checked x (rFmt i false true false false 0) fun s =>
    s.upd x fun t => { t with rk := (t.rg i.a).setWidth 32 }

/-- R316: a fetch in flight at an ICINV completes, and leaves nothing in the cache. -/
def Thread.overtake (t : Thread) : Thread := if t.st = .parkedFetch then { t with line := .overtaken } else t

/-- R286: the lines of this core are invalidated. -/
def execIcinv (x : Tid) (i : Insn) : State → Host.Outcome State Fault Refusal :=
  act (.icinv x i) fun s => s.issue x [] fun s => s.checked x (rFmt i false false false false 0) fun s =>
    ((s.modCore x.core fun k => { k with icache := [], threads := k.threads.map fun t => (t.1, t.2.overtake) })).upd x id

/-- R172, R336: a word of a 128 B line is poisoned in HBM, or uncorrectable in a core store. -/
def Dev.linePoisoned (s : Dev) (a : Nat) : Bool :=
  match place a with
  | .hbm => (s.chanOf a).elim false fun t => (span (t.2.2 / 32) 4).any fun w => s.poisoned t.1 t.2.1 w
  | .store c off => s.storeBadAt c off 128
  | _ => false

/-- R172: a line read from a core store: single-bit errors are corrected, and errors counted. -/
def Dev.touchLine (s : Dev) (a : Nat) : Dev :=
  match place a with
  | .store c off => s.storeTouch c off 128
  | _ => s

/-- R163: a line of the instruction cache arrives, taking the place the fetch chose (the replaced line is the operand;
4-way, 64 KiB). Poisoned data faults the thread (R336). The line of a fetch that an ICINV overtook is not held (R316). -/
def execFetchLineArrive (x : Tid) (victim : Nat) (poisoned : Bool) : State → Host.Outcome State Fault Refusal :=
  act (.fetchLineArrive x victim poisoned) fun s =>
    let t := s.thr x
    if t.st ≠ .parkedFetch ∨ !s.coreRuns x.core then s
    else if poisoned || s.linePoisoned (128 * lineOf t.pc) then (s.touchLine (128 * lineOf t.pc)).faultThr x E_LOAD_POISON
    else
      let s := s.touchLine (128 * lineOf t.pc)
      if t.line = .overtaken then s.modThr x fun t => { t with st := .ready, line := .atHand }
      else
        (s.modCore x.core fun k =>
          { k with icache :=
              let line := lineOf t.pc
              let set := k.icache.filter fun l => l % 128 == line % 128
              let kept := if 4 ≤ set.length then k.icache.filter (· != set.getD (victim % 4) 0) else k.icache
              addNew kept line }).modThr x fun t => { t with st := .ready }

/-- R278: a word whose opcode the table of R280 does not list (a word that is an instruction changes nothing here). -/
def execIllegalInstruction (x : Tid) (w : Word) : State → Host.Outcome State Fault Refusal :=
  act (.illegalInstruction x w) fun s =>
    if (coreInstr (w.extractLsb' 0 8).toNat x (insnOf w)).isSome then s
    else s.issue x [] fun s => s.faultThr x E_ILLEGAL_OPC

end Sys2Proof.Machine
end

