-- ==== Sys2Proof/Machine/Side.lean ====
section
/-! DEFINITION. The sideband: the board supervisor's reset, SMBus, the test access port, removal of power (R79, R642,
R690–R694, R702). -/

namespace Sys2Proof.Machine

/-! ### SUPV_N and the rails (R350, R642, R690, R692, R702) -/

/-- What a power cycle by SUPV_N leaves: the pins, the VAUX domain and a latched shutdown. -/
def Dev.heldReset (s : Dev) : Dev :=
  { clock := s.clock, free := s.free, outbox := s.outbox, side := { s.side with supvLow := true }
    boot := { powered := s.boot.powered, part := s.boot.part, pkgRev := s.boot.pkgRev, perst0 := s.boot.perst0, perst1 := s.boot.perst1 }
    pow := { shutdown := s.pow.shutdown, rails := s.pow.rails } }

/-- R692: SUPV_N goes low, or high again: a start from power-on follows, but under a latched shutdown. -/
def Dev.supv (s : Dev) (low : Bool) : Dev :=
  if s.pinsTaken then s
  else if low then (if s.side.supvLow then s else s.heldReset)
  else if !s.side.supvLow then s
  else
    let s := { s with side := { s.side with supvLow := false } }
    if s.boot.powered && !s.pow.shutdown then s.coldStart else s

def execSupvN (low : Bool) : State → Host.Outcome State Fault Refusal := actAlways true fun s => s.supv low

/-- R350, R642, R690: the rails are removed: everything is lost, a latched shutdown too. The pins keep their levels. -/
def Dev.powerOff (s : Dev) : Dev :=
  { clock := s.clock, free := s.free, outbox := s.outbox, side := { supvLow := s.side.supvLow }
    boot := { perst0 := s.boot.perst0, perst1 := s.boot.perst1 } }

def execPowerRemove : State → Host.Outcome State Fault Refusal := actAlways true fun s => s.powerOff

/-! ### SMBus (R693) -/

/-- An SMBus command is answered while VAUX is there. -/
def Dev.smbus (s : Dev) (f : Dev → Dev) : Dev := if s.boot.powered && !s.pinsTaken then f s else s

def execReadHb : State → Host.Outcome State Fault Refusal := actAlways true fun s => s.smbus fun s => s.out (.smbus s.side.shHb)
def execReadBoot : State → Host.Outcome State Fault Refusal := actAlways true fun s => s.smbus fun s => s.out (.smbus s.side.shBoot)
def execReadTemp : State → Host.Outcome State Fault Refusal := actAlways true fun s => s.smbus fun s => s.out (.smbus s.side.shTemp)

def execSetOffset (off : BitVec 32) : State → Host.Outcome State Fault Refusal :=
  actAlways true fun s => s.smbus fun s => { s with side := { s.side with offset := off } }

/-- R693: the HUB register at the offset set; all ones while the hub does not run. -/
def Dev.smbusReg (s : Dev) : Word :=
  if !s.live then BitVec.allOnes 64
  else if s.side.offset.toNat < 0x80000 then s.hubReg s.side.offset.toNat
  else 0

def execReadCsr : State → Host.Outcome State Fault Refusal := actAlways true fun s => s.smbus fun s => s.out (.smbus s.smbusReg)

/-- R693: SMB_ALERT_N is asserted. -/
def Dev.smbAlert (s : Dev) : Bool := s.boot.halted || s.rcv.hbHalt || s.side.thermtrip

/-! ### The test access port (R79, R694) -/

/-- R694: IDCODE. -/
def Dev.idcode (s : Dev) : BitVec 32 :=
  let step := ((s.boot.steppings.getD 0 none).map (·.toNat)).getD 0
  BitVec.ofNat 32 (step / 16 * 2 ^ 28 + s.boot.part.toNat * 2 ^ 12 + 0x5E3 * 2 + 1)

/-- R79: the first access beyond boundary scan of a start is measured: accumulator 5, event 0x07. -/
def Dev.jtagMeasure (s : Dev) : Dev :=
  if !s.live || s.boot.jtagSeen then s
  else (({ s with boot := { s.boot with jtagSeen := true } } : Dev).extend 5 0x07 0 (Config.jtagDigest s.free)).draw

/-- R694: an instruction is loaded. IDCODE is shifted out. -/
def Dev.loadIr (s : Dev) (ir : JtagIr) : Dev :=
  if !s.boot.powered then s
  else
    let beyond := match ir with
      | .other _ => true
      | _ => false
    let s := { s with side := { s.side with ir } }
    let s := s.when (ir == .idcode) fun s => s.out (.tdo s.idcode)
    s.when beyond (·.jtagMeasure)

def execJtagInstruction (ir : JtagIr) : State → Host.Outcome State Fault Refusal := actAlways true fun s => s.loadIr ir

end Sys2Proof.Machine
end

