-- ==== Sys2Proof/Machine/Vector.lean ====
section
/-! DEFINITION. Vector and predicate instructions (R167, R176, R279, R307–R312). -/

namespace Sys2Proof.Machine

/-! ### Fields of format V (R277) -/

def vPred (i : Insn) : BitVec 3 := i.upper.extractLsb' 0 3
def vTy (i : Insn) : Nat := fldN i.upper 4 4
def vSlice (i : Insn) : Nat := fldN i.upper 8 3

/-- R277, R278: bits 35 and 63:43 are zero; fields in use as flagged; TY at most `maxTy`; SLICE and PRED zero where the
instruction does not use them; FN within `fnOk`. -/
def vFmt (i : Insn) (b c slice pred : Bool) (maxTy : Nat) (fnOk : Nat → Bool) : Bool :=
  !i.upper.getLsbD 3 && fldN i.upper 11 21 == 0 && (b || i.b == 0) && (c || i.c == 0) && (slice || vSlice i == 0) &&
    (pred || vPred i == 0) && decide (vTy i ≤ maxTy) && fnOk i.fn.toNat

def fn0 (n : Nat) : Bool := n == 0

/-- The element type of an instruction. -/
def vType (i : Insn) : Ty := (tyOf (vTy i)).getD .fp32

/-! ### Elements of a register -/

/-- Element `j` of a register (R239: packed in ascending bits). -/
def elem (t : Ty) (v : VReg) (j : Nat) : Nat := fldN v (t.bits * j) t.bits

/-- R167: element `j` is enabled: the bit of its lowest byte lane. -/
def laneOn (t : Ty) (p : PReg) (j : Nat) : Bool := p.getLsbD (t.bits * j / 8)

/-- Pack codes of `w` bits, the first at bit 0. -/
def pack (w : Nat) : List Nat → Nat
  | [] => 0
  | c :: l => c % 2 ^ w + 2 ^ w * pack w l

/-- A register whose elements from `start` on are the codes given, where enabled; every other bit as in `old`. -/
def putElems (t : Ty) (old : VReg) (start : Nat) (p : PReg) (codes : List Nat) : VReg :=
  let n := codes.length
  let new := codes.zipIdx.map fun c => if laneOn t p (start + c.2) then c.1 else elem t old (start + c.2)
  BitVec.ofNat 4096 (setBits old.toNat (t.bits * start) (t.bits * n) (pack t.bits new))

/-- Element-wise result: f j for every element of the type, masked by PRED (R307). -/
def Thread.vMap (t : Thread) (i : Insn) (f : Nat → Nat) : Thread :=
  let ty := vType i
  t.wv i.d (putElems ty (t.rv i.d) 0 (t.rp (vPred i)) ((List.range ty.count).map f))

/-! ### Arithmetic -/

/-- Two operands of a type. -/
def vBin (t : Ty) (fp : Num → Num → Num) (int : BitVec 32 → BitVec 32 → BitVec 32) (a b : Nat) : Nat :=
  match t with
  | .int32 => (int (BitVec.ofNat 32 a) (BitVec.ofNat 32 b)).toNat
  | _ => encodeNum t false (fp (decodeNum t a) (decodeNum t b))

/-- va op vb. -/
def Dev.vBinary (x : Tid) (i : Insn) (maxTy : Nat) (fp : Num → Num → Num)
    (int : BitVec 32 → BitVec 32 → BitVec 32) (s : Dev) : Dev :=
  s.issue x [] fun s => s.checked x (vFmt i true false false true maxTy fn0) fun s =>
    s.upd x fun t => t.vMap i fun j => vBin (vType i) fp int (elem (vType i) (t.rv i.a) j) (elem (vType i) (t.rv i.b) j)

def execVadd (x : Tid) (i : Insn) : State → Host.Outcome State Fault Refusal :=
  act (.vadd x i) (Dev.vBinary x i 3 Num.add (· + ·))
def execVsub (x : Tid) (i : Insn) : State → Host.Outcome State Fault Refusal :=
  act (.vsub x i) (Dev.vBinary x i 3 (fun a b => a.add b.neg) (· - ·))
def execVmul (x : Tid) (i : Insn) : State → Host.Outcome State Fault Refusal :=
  act (.vmul x i) (Dev.vBinary x i 2 Num.mul (· * ·))
def execVmin (x : Tid) (i : Insn) : State → Host.Outcome State Fault Refusal :=
  act (.vmin x i) (Dev.vBinary x i 3 (Num.minmax false) fun a b => if a.slt b then a else b)
def execVmax (x : Tid) (i : Insn) : State → Host.Outcome State Fault Refusal :=
  act (.vmax x i) (Dev.vBinary x i 3 (Num.minmax true) fun a b => if a.slt b then b else a)

/-- va × vb + vc with one rounding. -/
def execVfma (x : Tid) (i : Insn) : State → Host.Outcome State Fault Refusal :=
  act (.vfma x i) fun s =>
    s.issue x [] fun s => s.checked x (vFmt i true true false true 2 fn0) fun s =>
      s.upd x fun t => t.vMap i fun j =>
        let ty := vType i
        let v := fun (r : VReg) => decodeNum ty (elem ty r j)
        encodeNum ty false (((v (t.rv i.a)).mul (v (t.rv i.b))).add (v (t.rv i.c)))

/-- R280: the condition of VCMP by FN, on the order of the operands (none: unordered). -/
def vCond (fn : Nat) (o : Option Ordering) : Bool :=
  match fn, o with
  | 0, o => o == some .eq
  | 1, o => o != some .eq
  | 2, o => o == some .lt
  | 3, o => o == some .lt || o == some .eq
  | _, o => o.isNone

/-- The order of two element codes. -/
def vOrder (t : Ty) (a b : Nat) : Option Ordering :=
  match t with
  | .int32 => some (compare (BitVec.ofNat 32 a).toInt (BitVec.ofNat 32 b).toInt)
  | _ => (decodeNum t a).cmp (decodeNum t b)

/-- R307: all the byte-lane bits of each enabled element. -/
def Thread.vcmp (t : Thread) (i : Insn) : Thread :=
  let ty := vType i
  let w := ty.bits / 8
  let p := t.rp (vPred i)
  let old := t.rp (i.d.setWidth 3)
  let bits := (List.range ty.count).map fun j =>
    if laneOn ty p j then
      (if vCond i.fn.toNat (vOrder ty (elem ty (t.rv i.a) j) (elem ty (t.rv i.b) j)) then ones w else 0)
    else fldN old (w * j) w
  t.wp (i.d.setWidth 3) (BitVec.ofNat 512 (pack w bits))

def execVcmp (x : Tid) (i : Insn) : State → Host.Outcome State Fault Refusal :=
  act (.vcmp x i) fun s =>
    s.issue x [] fun s => s.checked x (vFmt i true false false true 3 (· < 5) && pField i.d) fun s =>
      s.upd x fun t => t.vcmp i

/-- A function of R308. -/
def Dev.vFunc (x : Tid) (i : Insn) (opc : BitVec 8) (f : Num → Approx) (s : Dev) : Dev :=
  s.issue x [] fun s => s.checked x (vFmt i false false false true 2 fn0) fun s =>
    s.upd x fun t => t.vMap i fun j =>
      let c := elem (vType i) (t.rv i.a) j
      approxCode (vType i) opc c (f (decodeNum (vType i) c))

def execVexp2 (x : Tid) (i : Insn) : State → Host.Outcome State Fault Refusal :=
  act (.vexp2 x i) (Dev.vFunc x i 0x88 exp2Num)
def execVrcp (x : Tid) (i : Insn) : State → Host.Outcome State Fault Refusal :=
  act (.vrcp x i) (Dev.vFunc x i 0x89 rcpNum)
def execVrsq (x : Tid) (i : Insn) : State → Host.Outcome State Fault Refusal :=
  act (.vrsq x i) (Dev.vFunc x i 0x8A rsqNum)

/-- Bitwise logic; TY is 0, so a predicate governs 32-bit elements. -/
def Dev.vLogic (x : Tid) (i : Insn) (f : BitVec 32 → BitVec 32 → BitVec 32) (s : Dev) : Dev :=
  s.issue x [] fun s => s.checked x (vFmt i true false false true 0 fn0) fun s =>
    s.upd x fun t => t.vMap i fun j =>
      (f (BitVec.ofNat 32 (elem .fp32 (t.rv i.a) j)) (BitVec.ofNat 32 (elem .fp32 (t.rv i.b) j))).toNat

def execVand (x : Tid) (i : Insn) : State → Host.Outcome State Fault Refusal := act (.vand x i) (Dev.vLogic x i (· &&& ·))
def execVor (x : Tid) (i : Insn) : State → Host.Outcome State Fault Refusal := act (.vor x i) (Dev.vLogic x i (· ||| ·))
def execVxor (x : Tid) (i : Insn) : State → Host.Outcome State Fault Refusal := act (.vxor x i) (Dev.vLogic x i (· ^^^ ·))

/-- R312: VBCAST writes every element of the type; the 16 bits above element 679 of a 6-bit type are zero. -/
def vbcastReg (t : Ty) (g : Word) : VReg :=
  BitVec.ofNat 4096 (pack t.bits (List.replicate t.count (fldN g 0 t.bits)))

def execVbcast (x : Tid) (i : Insn) : State → Host.Outcome State Fault Refusal :=
  act (.vbcast x i) fun s =>
    s.issue x [i.a] fun s => s.checked x (vFmt i false false false false 9 fn0) fun s =>
      s.upd x fun t => t.wv i.d (vbcastReg (vType i) (t.rg i.a))

/-- R312: VEXT; an element number not below the count faults. -/
def execVext (x : Tid) (i : Insn) : State → Host.Outcome State Fault Refusal :=
  act (.vext x i) fun s =>
    s.issue x [i.b] fun s =>
      let j := fldN ((s.thr x).rg i.b) 0 10
      s.checked x (vFmt i true false false false 9 fn0 && decide (j < (vType i).count)) fun s =>
        s.upd x fun t => t.wg i.d (BitVec.ofNat 64 (elem (vType i) (t.rv i.a) j))

/-- R311: the fixed tree, one rounding per addition; `k` halvings. -/
def vsumGo (t : Ty) : Nat → List Nat → List Nat
  | 0, l => l
  | k + 1, l =>
    let s := l.length / 2
    vsumGo t k (((l.take s).zip (l.drop s)).map fun e => encodeNum t false ((decodeNum t e.1).add (decodeNum t e.2)))

/-- R311: elements that PRED disables count as +0; the result is written whole. -/
def Thread.vsum (t : Thread) (i : Insn) : Thread :=
  let ty := vType i
  let p := t.rp (vPred i)
  let l := (List.range ty.count).map fun j => if laneOn ty p j then elem ty (t.rv i.a) j else 0
  t.wv i.d (BitVec.ofNat 4096 ((vsumGo ty ty.count.log2 l).headD 0))

def execVsum (x : Tid) (i : Insn) : State → Host.Outcome State Fault Refusal :=
  act (.vsum x i) fun s =>
    s.issue x [] fun s => s.checked x (vFmt i false false false true 2 fn0) fun s => s.upd x fun t => t.vsum i

/-! ### VSCALE (R310) -/

/-- emax by FN. -/
def vscaleEmax (fn : Nat) : Option Nat :=
  match fn with
  | 4 => some 8
  | 5 => some 15
  | 8 => some 4
  | 9 => some 2
  | 6 => some 2
  | 14 => some 2
  | 7 => some 0
  | _ => none

/-- floor(log2 |v|) of a finite nonzero value. -/
def Num.lg : Num → Option Int
  | .fin _ m e => if m = 0 then none else some (e + m.log2)
  | _ => none

/-- The greatest of the values given; none for none. -/
def maxLg (l : List Num) : Option Int :=
  l.foldl (fun a v =>
    match a, v.lg with
    | none, b => b
    | some x, none => some x
    | some x, some y => some (max x y)) none

/-- Scale byte and nudge byte of a block of 32 values. -/
def blockScale (emax : Nat) (vals : List Num) : Nat × Nat :=
  if vals.any (fun v => v.isNan || v.isInf) then (0xFF, 0)
  else
    let top := maxLg vals
    let x := top.elim 0 fun l => (max 0 (min 0xFE (l - emax + 127))).toNat
    let d := fun q =>
      match top, maxLg ((vals.drop (8 * q)).take 8) with
      | some l, some a => (min 3 (l - a)).toNat
      | _, _ => 3
    (x, d 0 + 4 * d 1 + 16 * d 2 + 64 * d 3)

/-- Blocks that one VSCALE covers. -/
def vscaleBlocks (i : Insn) : Nat := (vType i).count / 32

def Thread.vscale (t : Thread) (i : Insn) (emax : Nat) : Thread :=
  let ty := vType i
  let n := vscaleBlocks i
  let vals := (List.range ty.count).map fun j => decodeNum ty (elem ty (t.rv i.a) j)
  let r := (List.range n).foldl (fun (r : Nat) b =>
    let k := n * vSlice i + b
    let xn := blockScale emax ((vals.drop (32 * b)).take 32)
    let r := setBits r (8 * k) 8 xn.1
    if i.fn = 14 then setBits r (8 * (16 + k)) 8 xn.2 else r) (t.rv i.d).toNat
  t.wv i.d (BitVec.ofNat 4096 r)

def execVscale (x : Tid) (i : Insn) : State → Host.Outcome State Fault Refusal :=
  act (.vscale x i) fun s =>
    s.issue x [] fun s =>
      s.checked x (vFmt i false false true false 2 (fun n => (vscaleEmax n).isSome) &&
          decide (vscaleBlocks i * (vSlice i + 1) ≤ 16)) fun s =>
        s.upd x fun t => t.vscale i ((vscaleEmax i.fn.toNat).getD 0)

/-! ### VCVT (R309) -/

/-- The destination named by FN: type, SAT, NXF4. -/
def vcvtDst (fn : Nat) : Option (Ty × Bool × Bool) :=
  match fn with
  | 12 => some (.e4m3, true, false)
  | 13 => some (.e5m2, true, false)
  | 14 => some (.e2m1, false, true)
  | n => (tyOf n).map fun t => (t, false, false)

/-- E elements. -/
def vcvtCount (src dst : Ty) : Nat := 4096 / max src.bits dst.bits / 32 * 32

/-- R307, R309: the slice fits, its blocks lie below 16 where scaled, and a narrow destination names p0. -/
def vcvtOk (i : Insn) : Bool :=
  match vcvtDst i.fn.toNat with
  | none => false
  | some (dst, _, _) =>
    let src := vType i
    let e := vcvtCount src dst
    decide (e * min src.bits dst.bits * (vSlice i + 1) ≤ 4096) && (decide (16 ≤ dst.bits) || vPred i == 0) &&
      (i.c == 0 || decide ((e * vSlice i + e - 1) / 32 < 16))

/-- One element: scaled where C names a register, then converted. -/
def vcvtElem (src dst : Ty) (sat nx : Bool) (scale : Option VReg) (row : Nat) (code : Nat) : Nat :=
  let v := decodeNum src code
  match scale with
  | none => encodeNum dst sat v
  | some vc =>
    let x := fldN vc (8 * (row / 32)) 8
    let d := if nx then fldN vc (8 * (16 + row / 32) + 2 * (row % 32 / 8)) 2 else 0
    if x = 0xFF then dst.nanCode else encodeNum dst sat (v.scale (127 - x + d))

def Thread.vcvt (t : Thread) (i : Insn) (dst : Ty) (sat nx : Bool) : Thread :=
  let src := vType i
  let e := vcvtCount src dst
  let start := e * vSlice i
  let scale := if i.c = 0 then none else some (t.rv i.c)
  let codes := (List.range e).map fun j =>
    vcvtElem src dst sat nx scale (start + j) (elem src (t.rv i.a) (if src.bits < dst.bits then start + j else j))
  if dst.bits < src.bits then t.wv i.d (putElems dst (t.rv i.d) start (t.rp (vPred i)) codes)
  else
    -- the whole register: the bits beyond its E elements are zero
    t.wv i.d (putElems dst (BitVec.ofNat 4096 (fldN (t.rv i.d) 0 (e * dst.bits))) 0 (t.rp (vPred i)) codes)

def execVcvt (x : Tid) (i : Insn) : State → Host.Outcome State Fault Refusal :=
  act (.vcvt x i) fun s =>
    s.issue x [] fun s => s.checked x (vFmt i false true true true 9 (fun _ => true) && vcvtOk i) fun s =>
      match vcvtDst i.fn.toNat with
      | some (dst, sat, nx) => s.upd x fun t => t.vcvt i dst sat nx
      | none => s

/-! ### Predicate logic -/

/-- Fields D, A and B name p registers by bits 2:0. -/
def Dev.pLogic (x : Tid) (i : Insn) (b : Bool) (f : PReg → PReg → PReg) (s : Dev) : Dev :=
  s.issue x [] fun s =>
    s.checked x (rFmt i true true b false 0 && pField i.d && pField i.a && pField i.b) fun s =>
      s.upd x fun t => t.wp (i.d.setWidth 3) (f (t.rp (i.a.setWidth 3)) (t.rp (i.b.setWidth 3)))

def execPand (x : Tid) (i : Insn) : State → Host.Outcome State Fault Refusal := act (.pand x i) (Dev.pLogic x i true (· &&& ·))
def execPor (x : Tid) (i : Insn) : State → Host.Outcome State Fault Refusal := act (.por x i) (Dev.pLogic x i true (· ||| ·))
def execPnot (x : Tid) (i : Insn) : State → Host.Outcome State Fault Refusal :=
  act (.pnot x i) (Dev.pLogic x i false fun a _ => ~~~a)

end Sys2Proof.Machine
end

