-- ==== Sys2Proof/Machine/Dispatch.lean ====
section
/-! DEFINITION. What each command does: one arm per constructor of `Instr`. -/

namespace Sys2Proof.Machine

/-- The effect of a command on the package. -/
def exec (i : Instr) (s : State) : Host.Outcome State Fault Refusal :=
  match i with
  | .powerGood part rev => Sys2Proof.Machine.execPowerGood part rev s
  | .startStepDone r => Sys2Proof.Machine.execStartStepDone r s
  | .bootStepTimeout => Sys2Proof.Machine.execBootStepTimeout s
  | .dieReleaseTimeout die => Sys2Proof.Machine.execDieReleaseTimeout die s
  | .configRequest req => Sys2Proof.Machine.execConfigRequest req s
  | .perstAssert port => Sys2Proof.Machine.execPerstAssert port s
  | .perstDeassert port => Sys2Proof.Machine.execPerstDeassert port s
  | .csrWrite port block off size v => Sys2Proof.Machine.execCsrWrite port block off size v s
  | .csrAccessBad port isWrite size => Sys2Proof.Machine.execCsrAccessBad port isWrite size s
  | .mboxBootFirmware port => Sys2Proof.Machine.execMboxBootFirmware port s
  | .mboxWholeImage port => Sys2Proof.Machine.execMboxWholeImage port s
  | .mboxFetchDone port obj => Sys2Proof.Machine.execMboxFetchDone port obj s
  | .quote q => Sys2Proof.Machine.execQuote q s
  | .quoteSigned sig => Sys2Proof.Machine.execQuoteSigned sig s
  | .logRead q => Sys2Proof.Machine.execLogRead q s
  | .testReq port v => Sys2Proof.Machine.execTestReq port v s
  | .testGrant port v => Sys2Proof.Machine.execTestGrant port v s
  | .mgmtTestReq q => Sys2Proof.Machine.execMgmtTestReq q s
  | .mgmtTestGrant q => Sys2Proof.Machine.execMgmtTestGrant q s
  | .testIdleStart kind unit => Sys2Proof.Machine.execTestIdleStart kind unit s
  | .testWindowEnd kind unit => Sys2Proof.Machine.execTestWindowEnd kind unit s
  | .testComplete kind unit r => Sys2Proof.Machine.execTestComplete kind unit r s
  | .d2dFlitReceive link dir bundle seq chk flit => Sys2Proof.Machine.execD2dFlitReceive link dir bundle seq chk flit s
  | .laneSwap link dir bundle taken => Sys2Proof.Machine.execLaneSwap link dir bundle taken s
  | .laneSwapDone link dir bundle => Sys2Proof.Machine.execLaneSwapDone link dir bundle s
  | .laneMarginLive link dir bundle res => Sys2Proof.Machine.execLaneMarginLive link dir bundle res s
  | .creditReturnAfterRetrain link dir => Sys2Proof.Machine.execCreditReturnAfterRetrain link dir s
  | .pathChange link up => Sys2Proof.Machine.execPathChange link up s
  | .pathChangeDone link => Sys2Proof.Machine.execPathChangeDone link s
  | .d2dRetrain port => Sys2Proof.Machine.execD2dRetrain port s
  | .d2dRetrainDeferredStart link => Sys2Proof.Machine.execD2dRetrainDeferredStart link s
  | .d2dRetrainReport link tests down => Sys2Proof.Machine.execD2dRetrainReport link tests down s
  | .widthEscalate link => Sys2Proof.Machine.execWidthEscalate link s
  | .fetchLineArrive x victim poisoned => Sys2Proof.Machine.execFetchLineArrive x victim poisoned s
  | .computeEntryStart q core thr => Sys2Proof.Machine.execComputeEntryStart q core thr s
  | .illegalInstruction x w => Sys2Proof.Machine.execIllegalInstruction x w s
  | .nop x insn => Sys2Proof.Machine.execNop x insn s
  | .endWork x insn => Sys2Proof.Machine.execEndWork x insn s
  | .add x insn => Sys2Proof.Machine.execAdd x insn s
  | .sub x insn => Sys2Proof.Machine.execSub x insn s
  | .mul x insn => Sys2Proof.Machine.execMul x insn s
  | .mulh x insn => Sys2Proof.Machine.execMulh x insn s
  | .and x insn => Sys2Proof.Machine.execAnd x insn s
  | .or x insn => Sys2Proof.Machine.execOr x insn s
  | .xor x insn => Sys2Proof.Machine.execXor x insn s
  | .shl x insn => Sys2Proof.Machine.execShl x insn s
  | .shr x insn => Sys2Proof.Machine.execShr x insn s
  | .sra x insn => Sys2Proof.Machine.execSra x insn s
  | .slt x insn => Sys2Proof.Machine.execSlt x insn s
  | .sltu x insn => Sys2Proof.Machine.execSltu x insn s
  | .sel x insn => Sys2Proof.Machine.execSel x insn s
  | .addi x insn => Sys2Proof.Machine.execAddi x insn s
  | .andi x insn => Sys2Proof.Machine.execAndi x insn s
  | .ori x insn => Sys2Proof.Machine.execOri x insn s
  | .xori x insn => Sys2Proof.Machine.execXori x insn s
  | .shli x insn => Sys2Proof.Machine.execShli x insn s
  | .shri x insn => Sys2Proof.Machine.execShri x insn s
  | .srai x insn => Sys2Proof.Machine.execSrai x insn s
  | .lih x insn => Sys2Proof.Machine.execLih x insn s
  | .beq x insn => Sys2Proof.Machine.execBeq x insn s
  | .bne x insn => Sys2Proof.Machine.execBne x insn s
  | .blt x insn => Sys2Proof.Machine.execBlt x insn s
  | .bge x insn => Sys2Proof.Machine.execBge x insn s
  | .bltu x insn => Sys2Proof.Machine.execBltu x insn s
  | .bgeu x insn => Sys2Proof.Machine.execBgeu x insn s
  | .jal x insn => Sys2Proof.Machine.execJal x insn s
  | .jalr x insn => Sys2Proof.Machine.execJalr x insn s
  | .rdsys x insn => Sys2Proof.Machine.execRdsys x insn s
  | .rkey x insn => Sys2Proof.Machine.execRkey x insn s
  | .icinv x insn => Sys2Proof.Machine.execIcinv x insn s
  | .ld x insn => Sys2Proof.Machine.execLd x insn s
  | .st x insn => Sys2Proof.Machine.execSt x insn s
  | .vld x insn => Sys2Proof.Machine.execVld x insn s
  | .vst x insn => Sys2Proof.Machine.execVst x insn s
  | .pld x insn => Sys2Proof.Machine.execPld x insn s
  | .pst x insn => Sys2Proof.Machine.execPst x insn s
  | .rld x insn => Sys2Proof.Machine.execRld x insn s
  | .rvld x insn => Sys2Proof.Machine.execRvld x insn s
  | .rst x insn => Sys2Proof.Machine.execRst x insn s
  | .rvst x insn => Sys2Proof.Machine.execRvst x insn s
  | .raxa x insn => Sys2Proof.Machine.execRaxa x insn s
  | .rfadd x insn => Sys2Proof.Machine.execRfadd x insn s
  | .rswap x insn => Sys2Proof.Machine.execRswap x insn s
  | .rcas x insn => Sys2Proof.Machine.execRcas x insn s
  | .sadd x insn => Sys2Proof.Machine.execSadd x insn s
  | .swait x insn => Sys2Proof.Machine.execSwait x insn s
  | .swaitTimeout x => Sys2Proof.Machine.execSwaitTimeout x s
  | .fence x insn => Sys2Proof.Machine.execFence x insn s
  | .qpost x insn => Sys2Proof.Machine.execQpost x insn s
  | .qpostStatus x => Sys2Proof.Machine.execQpostStatus x s
  | .vadd x insn => Sys2Proof.Machine.execVadd x insn s
  | .vsub x insn => Sys2Proof.Machine.execVsub x insn s
  | .vmul x insn => Sys2Proof.Machine.execVmul x insn s
  | .vfma x insn => Sys2Proof.Machine.execVfma x insn s
  | .vmin x insn => Sys2Proof.Machine.execVmin x insn s
  | .vmax x insn => Sys2Proof.Machine.execVmax x insn s
  | .vcmp x insn => Sys2Proof.Machine.execVcmp x insn s
  | .vcvt x insn => Sys2Proof.Machine.execVcvt x insn s
  | .vexp2 x insn => Sys2Proof.Machine.execVexp2 x insn s
  | .vrcp x insn => Sys2Proof.Machine.execVrcp x insn s
  | .vrsq x insn => Sys2Proof.Machine.execVrsq x insn s
  | .vand x insn => Sys2Proof.Machine.execVand x insn s
  | .vor x insn => Sys2Proof.Machine.execVor x insn s
  | .vxor x insn => Sys2Proof.Machine.execVxor x insn s
  | .vbcast x insn => Sys2Proof.Machine.execVbcast x insn s
  | .vext x insn => Sys2Proof.Machine.execVext x insn s
  | .vsum x insn => Sys2Proof.Machine.execVsum x insn s
  | .vscale x insn => Sys2Proof.Machine.execVscale x insn s
  | .pand x insn => Sys2Proof.Machine.execPand x insn s
  | .por x insn => Sys2Proof.Machine.execPor x insn s
  | .pnot x insn => Sys2Proof.Machine.execPnot x insn s
  | .mload x insn => Sys2Proof.Machine.execMload x insn s
  | .mstream x insn => Sys2Proof.Machine.execMstream x insn s
  | .mdrain x insn => Sys2Proof.Machine.execMdrain x insn s
  | .mracc x insn => Sys2Proof.Machine.execMracc x insn s
  | .mdrv x insn => Sys2Proof.Machine.execMdrv x insn s
  | .arrayQueueSlotFree x => Sys2Proof.Machine.execArrayQueueSlotFree x s
  | .arrayInstrStart core a => Sys2Proof.Machine.execArrayInstrStart core a s
  | .arrayRowFeed core a => Sys2Proof.Machine.execArrayRowFeed core a s
  | .drainRowWrite core a res => Sys2Proof.Machine.execDrainRowWrite core a res s
  | .arrayInstrComplete core a => Sys2Proof.Machine.execArrayInstrComplete core a s
  | .mraccOperationSend core a => Sys2Proof.Machine.execMraccOperationSend core a s
  | .arrayResidueRate core a => Sys2Proof.Machine.execArrayResidueRate core a s
  | .arrayResetEscalate core a => Sys2Proof.Machine.execArrayResetEscalate core a s
  | .remoteReply core entry => Sys2Proof.Machine.execRemoteReply core entry s
  | .portAccept x => Sys2Proof.Machine.execPortAccept x s
  | .portEntryFree x => Sys2Proof.Machine.execPortEntryFree x s
  | .retireWdog x => Sys2Proof.Machine.execRetireWdog x s
  | .parkWdog x => Sys2Proof.Machine.execParkWdog x s
  | .arrayWdog core a => Sys2Proof.Machine.execArrayWdog core a s
  | .threadReset port core mask => Sys2Proof.Machine.execThreadReset port core mask s
  | .portOrphan x => Sys2Proof.Machine.execPortOrphan x s
  | .threadResetEscalate x => Sys2Proof.Machine.execThreadResetEscalate x s
  | .coreReset src core => Sys2Proof.Machine.execCoreReset src core s
  | .coreResetEscalate core => Sys2Proof.Machine.execCoreResetEscalate core s
  | .imgReload q img => Sys2Proof.Machine.execImgReload q img s
  | .reloadCheckDone => Sys2Proof.Machine.execReloadCheckDone s
  | .reloadSwitch => Sys2Proof.Machine.execReloadSwitch s
  | .reloadDrainExpired => Sys2Proof.Machine.execReloadDrainExpired s
  | .read stack chan insn ecc => Sys2Proof.Machine.execRead stack chan insn ecc s
  | .write stack chan insn ecc => Sys2Proof.Machine.execWrite stack chan insn ecc s
  | .accum stack chan insn ecc => Sys2Proof.Machine.execAccum stack chan insn ecc s
  | .atomic stack chan insn ecc => Sys2Proof.Machine.execAtomic stack chan insn ecc s
  | .readout stack chan insn ecc => Sys2Proof.Machine.execReadout stack chan insn ecc s
  | .mgmt stack r => Sys2Proof.Machine.execMgmt stack r s
  | .retrainTurn => Sys2Proof.Machine.execRetrainTurn s
  | .retrainDone stack chan ok => Sys2Proof.Machine.execRetrainDone stack chan ok s
  | .memRetrainHold port v => Sys2Proof.Machine.execMemRetrainHold port v s
  | .memRetrainHoldEnd => Sys2Proof.Machine.execMemRetrainHoldEnd s
  | .scrubPass stack chan corrected uncorrectable => Sys2Proof.Machine.execScrubPass stack chan corrected uncorrectable s
  | .migrateThreshold stack chan => Sys2Proof.Machine.execMigrateThreshold stack chan s
  | .migStart port stack chan => Sys2Proof.Machine.execMigStart port stack chan s
  | .migrateDone fin => Sys2Proof.Machine.execMigrateDone fin s
  | .cmdWatchdog stack chan => Sys2Proof.Machine.execCmdWatchdog stack chan s
  | .laserLow eng input pwr => Sys2Proof.Machine.execLaserLow eng input pwr s
  | .laserLost eng input pwr => Sys2Proof.Machine.execLaserLost eng input pwr s
  | .laserNotice eng fibres => Sys2Proof.Machine.execLaserNotice eng fibres s
  | .laserRecover eng input pwr => Sys2Proof.Machine.execLaserRecover eng input pwr s
  | .laserRecalDone eng input => Sys2Proof.Machine.execLaserRecalDone eng input s
  | .continuousCalibration eng fib => Sys2Proof.Machine.execContinuousCalibration eng fib s
  | .lambdaSwap l => Sys2Proof.Machine.execLambdaSwap l s
  | .throughFail l => Sys2Proof.Machine.execThroughFail l s
  | .fibrePairTrained eng fib failed => Sys2Proof.Machine.execFibrePairTrained eng fib failed s
  | .ident eng fib m => Sys2Proof.Machine.execIdent eng fib m s
  | .identResend port => Sys2Proof.Machine.execIdentResend port s
  | .portMissing port => Sys2Proof.Machine.execPortMissing port s
  | .heartbeatWdog eng fib => Sys2Proof.Machine.execHeartbeatWdog eng fib s
  | .qualificationWindowEnd eng => Sys2Proof.Machine.execQualificationWindowEnd eng s
  | .trainingRetry port => Sys2Proof.Machine.execTrainingRetry port s
  | .signalRegain eng => Sys2Proof.Machine.execSignalRegain eng s
  | .withdraw port engines => Sys2Proof.Machine.execWithdraw port engines s
  | .linkReset src eng => Sys2Proof.Machine.execLinkReset src eng s
  | .linkResetEscalate eng => Sys2Proof.Machine.execLinkResetEscalate eng s
  | .portRetrain => Sys2Proof.Machine.execPortRetrain s
  | .portRediscover => Sys2Proof.Machine.execPortRediscover s
  | .portWithdraw => Sys2Proof.Machine.execPortWithdraw s
  | .portRestore => Sys2Proof.Machine.execPortRestore s
  | .portLocate on => Sys2Proof.Machine.execPortLocate on s
  | .attnPress => Sys2Proof.Machine.execAttnPress s
  | .attnForced => Sys2Proof.Machine.execAttnForced s
  | .attnRelease => Sys2Proof.Machine.execAttnRelease s
  | .attnCancel => Sys2Proof.Machine.execAttnCancel s
  | .attnBlocked => Sys2Proof.Machine.execAttnBlocked s
  | .attnDrain => Sys2Proof.Machine.execAttnDrain s
  | .attnQuiesceDone => Sys2Proof.Machine.execAttnQuiesceDone s
  | .attnSafe => Sys2Proof.Machine.execAttnSafe s
  | .portFlitReceive port seq rd crcOk flit => Sys2Proof.Machine.execPortFlitReceive port seq rd crcOk flit s
  | .packetForward p came => Sys2Proof.Machine.execPacketForward p came s
  | .linkCredit link vc cls n => Sys2Proof.Machine.execLinkCredit link vc cls n s
  | .breakNotice ckt => Sys2Proof.Machine.execBreakNotice ckt s
  | .circuitHeartbeatWdog ckt => Sys2Proof.Machine.execCircuitHeartbeatWdog ckt s
  | .detune => Sys2Proof.Machine.execDetune s
  | .circuitRestore ckt => Sys2Proof.Machine.execCircuitRestore ckt s
  | .circuitReturn ckt => Sys2Proof.Machine.execCircuitReturn ckt s
  | .noRouteHold insn => Sys2Proof.Machine.execNoRouteHold insn s
  | .segmentReturn insn => Sys2Proof.Machine.execSegmentReturn insn s
  | .creditAudit link => Sys2Proof.Machine.execCreditAudit link s
  | .audit link peer => Sys2Proof.Machine.execAudit link peer s
  | .routeQuery port v => Sys2Proof.Machine.execRouteQuery port v s
  | .load p => Sys2Proof.Machine.execLoad p s
  | .store p => Sys2Proof.Machine.execStore p s
  | .accumulate p => Sys2Proof.Machine.execAccumulate p s
  | .fetchAdd p => Sys2Proof.Machine.execFetchAdd p s
  | .swap p => Sys2Proof.Machine.execSwap p s
  | .compareSwap p => Sys2Proof.Machine.execCompareSwap p s
  | .syncAdd p => Sys2Proof.Machine.execSyncAdd p s
  | .copyRead p => Sys2Proof.Machine.execCopyRead p s
  | .copyWrite p => Sys2Proof.Machine.execCopyWrite p s
  | .response p => Sys2Proof.Machine.execResponse p s
  | .negativeAcknowledgement p => Sys2Proof.Machine.execNegativeAcknowledgement p s
  | .hold p => Sys2Proof.Machine.execHold p s
  | .holdRepeat stack chan insn => Sys2Proof.Machine.execHoldRepeat stack chan insn s
  | .release p => Sys2Proof.Machine.execRelease p s
  | .dedupExpire srcDev ctx seq => Sys2Proof.Machine.execDedupExpire srcDev ctx seq s
  | .attemptTimeout core entry => Sys2Proof.Machine.execAttemptTimeout core entry s
  | .ctxOpen q => Sys2Proof.Machine.execCtxOpen q s
  | .ctxTeardown q => Sys2Proof.Machine.execCtxTeardown q s
  | .jobTeardown q => Sys2Proof.Machine.execJobTeardown q s
  | .ctxFree q => Sys2Proof.Machine.execCtxFree q s
  | .teardownComplete ctx => Sys2Proof.Machine.execTeardownComplete ctx s
  | .teardownEscalate ctx => Sys2Proof.Machine.execTeardownEscalate ctx s
  | .regionAdd q => Sys2Proof.Machine.execRegionAdd q s
  | .regionRemove q => Sys2Proof.Machine.execRegionRemove q s
  | .regionRenew q => Sys2Proof.Machine.execRegionRenew q s
  | .regionCommandDone q => Sys2Proof.Machine.execRegionCommandDone q s
  | .post port q => Sys2Proof.Machine.execPost port q s
  | .copyEntryStart q => Sys2Proof.Machine.execCopyEntryStart q s
  | .copyPieceIssue run host => Sys2Proof.Machine.execCopyPieceIssue run host s
  | .bulkLost run => Sys2Proof.Machine.execBulkLost run s
  | .combiningFlush e => Sys2Proof.Machine.execCombiningFlush e s
  | .combiningStale e => Sys2Proof.Machine.execCombiningStale e s
  | .combiningFlushWaitEnd => Sys2Proof.Machine.execCombiningFlushWaitEnd s
  | .groupCreate q => Sys2Proof.Machine.execGroupCreate q s
  | .groupDestroy q => Sys2Proof.Machine.execGroupDestroy q s
  | .collAbort q => Sys2Proof.Machine.execCollAbort q s
  | .legDispatch q thr => Sys2Proof.Machine.execLegDispatch q thr s
  | .peerTimeout q => Sys2Proof.Machine.execPeerTimeout q s
  | .portExpect q => Sys2Proof.Machine.execPortExpect q s
  | .fabAvoid q => Sys2Proof.Machine.execFabAvoid q s
  | .evtRing q => Sys2Proof.Machine.execEvtRing q s
  | .managementPacket m => Sys2Proof.Machine.execManagementPacket m s
  | .flr port => Sys2Proof.Machine.execFlr port s
  | .cplLost port => Sys2Proof.Machine.execCplLost port s
  | .msixUnmask port vec => Sys2Proof.Machine.execMsixUnmask port vec s
  | .qProgressWdog q => Sys2Proof.Machine.execQProgressWdog q s
  | .dieHeartbeat die => Sys2Proof.Machine.execDieHeartbeat die s
  | .stackMgmtWdog stack => Sys2Proof.Machine.execStackMgmtWdog stack s
  | .engMgmtWdog eng => Sys2Proof.Machine.execEngMgmtWdog eng s
  | .computeDieReset src die => Sys2Proof.Machine.execComputeDieReset src die s
  | .stackReset src stack => Sys2Proof.Machine.execStackReset src stack s
  | .deviceReset src => Sys2Proof.Machine.execDeviceReset src s
  | .dieResetEscalate die => Sys2Proof.Machine.execDieResetEscalate die s
  | .stackResetEscalate stack => Sys2Proof.Machine.execStackResetEscalate stack s
  | .deviceResetEscalate => Sys2Proof.Machine.execDeviceResetEscalate s
  | .hubWdog => Sys2Proof.Machine.execHubWdog s
  | .supvHbTick => Sys2Proof.Machine.execSupvHbTick s
  | .supvN low => Sys2Proof.Machine.execSupvN low s
  | .housekeepingRound r => Sys2Proof.Machine.execHousekeepingRound r s
  | .pstepLower => Sys2Proof.Machine.execPstepLower s
  | .pwrModeForced => Sys2Proof.Machine.execPwrModeForced s
  | .pwrForceEnd => Sys2Proof.Machine.execPwrForceEnd s
  | .tstepLower die => Sys2Proof.Machine.execTstepLower die s
  | .thermModeForced die => Sys2Proof.Machine.execThermModeForced die s
  | .thermForceEnd die => Sys2Proof.Machine.execThermForceEnd die s
  | .thermSensor u insn => Sys2Proof.Machine.execThermSensor u insn s
  | .clkDeltaT hot cold => Sys2Proof.Machine.execClkDeltaT hot cold s
  | .modeChange port mode => Sys2Proof.Machine.execModeChange port mode s
  | .modeChangeDone => Sys2Proof.Machine.execModeChangeDone s
  | .pwrFastLimit x => Sys2Proof.Machine.execPwrFastLimit x s
  | .dipWarn x => Sys2Proof.Machine.execDipWarn x s
  | .dipReset x => Sys2Proof.Machine.execDipReset x s
  | .dipFloorRelease x => Sys2Proof.Machine.execDipFloorRelease x s
  | .pwrStackLost x => Sys2Proof.Machine.execPwrStackLost x s
  | .thermalShutdown x => Sys2Proof.Machine.execThermalShutdown x s
  | .latTol port v => Sys2Proof.Machine.execLatTol port v s
  | .coreP1Entry core => Sys2Proof.Machine.execCoreP1Entry core s
  | .latencyStateEntry => Sys2Proof.Machine.execLatencyStateEntry s
  | .latencyStateExit => Sys2Proof.Machine.execLatencyStateExit s
  | .clkRefLost => Sys2Proof.Machine.execClkRefLost s
  | .clkRefReturn => Sys2Proof.Machine.execClkRefReturn s
  | .vrNoAck reg => Sys2Proof.Machine.execVrNoAck reg s
  | .evcSel port bank j v => Sys2Proof.Machine.execEvcSel port bank j v s
  | .snapArm port => Sys2Proof.Machine.execSnapArm port s
  | .snapNow port => Sys2Proof.Machine.execSnapNow port s
  | .readHb => Sys2Proof.Machine.execReadHb s
  | .readBoot => Sys2Proof.Machine.execReadBoot s
  | .readTemp => Sys2Proof.Machine.execReadTemp s
  | .setOffset off => Sys2Proof.Machine.execSetOffset off s
  | .readCsr => Sys2Proof.Machine.execReadCsr s
  | .jtagInstruction ir => Sys2Proof.Machine.execJtagInstruction ir s
  | .powerRemove => Sys2Proof.Machine.execPowerRemove s
  | .arrayResetDone core a chainOk => Sys2Proof.Machine.execArrayResetDone core a chainOk s
  | .coreResetDone core => Sys2Proof.Machine.execCoreResetDone core s
  | .computeDieResetDone die => Sys2Proof.Machine.execComputeDieResetDone die s
  | .stackResetDone stack => Sys2Proof.Machine.execStackResetDone stack s
  | .linkResetDone eng => Sys2Proof.Machine.execLinkResetDone eng s
  | .pcieLinkDown port refLost => Sys2Proof.Machine.execPcieLinkDown port refLost s
  | .pcieLinkUp port speed width mode => Sys2Proof.Machine.execPcieLinkUp port speed width mode s
  | .idleControlFlit eng fib => Sys2Proof.Machine.execIdleControlFlit eng fib s

end Sys2Proof.Machine
end

