-- ==== Sys2Proof/Machine/Tick.lean ====
section
/-! DEFINITION. One clock cycle, which the package lives through when no command waits (log entry 8): the cycle counters of
the cores and the event sources that count every cycle (R284, R672–R677). Each clock advances by one cycle. -/

namespace Sys2Proof.Machine

/-- Threads of a core in a state. -/
def Dev.inState (s : Dev) (c : Nat) (st : ThrSt) : List Nat := ((s.core c).threads.filter fun t => t.2.st == st).map (·.1)

/-- `n` events of a source per thread of a list (R673: T filters by thread). -/
def Dev.countThreads (s : Dev) (c src : Nat) (l : List Nat) : Dev := s.fold l fun s t => s.count (bankCore c) src 1 (some t)

/-- R105, R284, R672: the clock of a core runs: its die is released, the core is in no reset, in no latency state that stops it,
and, once an image is loaded, it is usable and belongs to a partition. -/
def Dev.coreClocked (s : Dev) (c : Nat) : Bool :=
  s.dieReleased (c / 8) && !s.coreBusy c && !(s.core c).p1 &&
    if s.img.capsValid then s.coreUsable c && (s.partOfCore c).isSome else s.coreOn c && !s.boot.coresLost.getLsbD c

/-- One cycle of a core whose clock runs (R672), and of its arrays. -/
def Dev.coreTick (s : Dev) (c : Nat) : Dev :=
  if !s.coreClocked c then s
  else
    let s := (s.arrayCycle c 0).arrayCycle c 1
    let s := s.modSched c fun k => { k with slot := k.slot + 1 }
    let s := s.modCore c fun k => { k with cycle := k.cycle + 1 }
    let s := s.count (bankCore c) 0x01
    let s := if (s.inState c .ready).isEmpty then s.count (bankCore c) 0x03 else s
    let s := s.countThreads c 0x04 (s.inState c .parkedAccess)
    let s := s.countThreads c 0x05 (s.inState c .parkedPort)
    let s := s.countThreads c 0x06 (s.inState c .parkedArray)
    let s := s.countThreads c 0x07 (s.inState c .parkedSync)
    s.count (bankCore c) 0x0F (s.pents c).length

/-- One cycle of a die network. -/
def Dev.dieTick (s : Dev) (n : Nat) : Dev :=
  let s := s.count (bankDie n) 0x20
  if 0 < s.powerStep n then s.count (bankDie n) 0x28 else s

/-- One cycle of a base-die controller. Source 0x49 counts queued requests in units of 8. -/
def Dev.stackTick (s : Dev) (k : Nat) : Dev :=
  let s := s.count (bankStack k) 0x40
  let s := s.count (bankStack k) 0x46 ((s.stk k).chans.countP fun c => c.2.st == .retraining)
  s.count (bankStack k) 0x49 (((s.stk k).chans.map fun c => c.2.queue.length).sum / 8)

/-- R677 source 0xC6: outputs with a flit of channel `vc` that waits without credit. -/
def Dev.starved (s : Dev) (vc : Nat) : Nat :=
  ((s.fab.waiting.filter (·.vc == vc)).foldl (fun (l : List LinkRef) w => match s.next w (s.startOf w) with
    | .seg k _ _ => addNew l k
    | _ => l) []).length

/-- R469: bytes that the requests waiting at the ingress hold, 128 for each flit. -/
def Dev.ingressBytes (s : Dev) : Nat := (s.ra.ingress.map fun w => 128 * flits w.2).sum

/-- One cycle of the hub router. -/
def Dev.hubTick (s : Dev) : Dev :=
  let s := s.count bankHub 0xC0
  let s := s.fold (List.range 6) fun s vc => s.count bankHub 0xC6 (s.starved vc) none none (some vc)
  s.count bankHub 0xD1 (s.ingressBytes / 16384)

/-! ### Soft errors (R172, R216, R706) -/

/-- R706: what becomes of a word in which `bits` more bits flip, by what was wrong with it: its single-bit and its uncorrectable
mark, and new data where the code is deceived. One wrong bit can be corrected, two are found; for three or more nothing is
guaranteed. -/
def upsetMark (u : Upset) (soft bad : Bool) : Bool × Bool × Option (BitVec 256) :=
  match (if bad then 2 else bit soft) + u.bits with
  | 0 => (false, false, none)
  | 1 => (true, false, none)
  | 2 => (false, true, none)
  | _ =>
    match u.shows with
    | .uncorrectable => (false, true, none)
    | .miscorrected data => (true, false, some data)
    | .unseen data => (false, false, some data)

/-- A list of words with a word in it or not. -/
def marked (l : List Nat) (w : Nat) (b : Bool) : List Nat := if b then addNew l w else l.filter (· ≠ w)

/-- An array whose drain bank a soft error strikes. -/
def MArray.upset (m : MArray) (u : Upset) : MArray :=
  let r := upsetMark u (m.eccSoft.contains u.word) (m.eccBad.contains u.word)
  { m with
    eccSoft := marked m.eccSoft u.word r.1
    eccBad := marked m.eccBad u.word r.2.1
    bank := r.2.2.elim m.bank fun v => (List.range 8).foldl (fun b i => put 0 b (8 * u.word + i) (v.extractLsb' (32 * i) 32)) m.bank }

/-- A core whose store a soft error strikes. -/
def Core.upset (k : Core) (u : Upset) : Core :=
  let r := upsetMark u (k.storeSoft.contains u.word) (k.storeBad.contains u.word)
  { k with
    storeSoft := marked k.storeSoft u.word r.1
    storeBad := marked k.storeBad u.word r.2.1
    store := r.2.2.elim k.store fun v => setMasked k.store (32 * u.word) (ones 32) (toBytes 32 v.toNat) }

/-- R172, R216, R706: a soft error strikes. -/
def Dev.upset (s : Dev) (u : Upset) : Dev :=
  if 32 ≤ u.core ∨ !s.coreOn u.core then s
  else match u.bank with
    | none => if storeTop ≤ 32 * u.word then s else s.modCore u.core fun k => k.upset u
    | some a => if 2 ≤ a ∨ 32768 ≤ u.word then s else s.modArr u.core a fun m => m.upset u

/-- One cycle of every clock that runs. R672: in latency states P2–P4 the sources that count cycles stop. -/
def Dev.tick (s : Dev) : Dev :=
  if !s.live then s
  else if 2 ≤ s.pow.lat then s
  else
    let s := (s.fold (Config.upsets s.free) fun s u => s.upset u).draw
    let s := s.fold (List.range 32) fun s c => s.coreTick c
    let s := s.fold (List.range 4) fun s n => s.dieTick n
    let s := s.fold ((List.range 32).filter (s.stackUsable ·)) fun s k => s.stackTick k
    s.hubTick

end Sys2Proof.Machine
end

