-- ==== Sys2Proof/Safety.lean ====
section
/-! DEFINITION. What the statements are said in: outcomes that go on, the conditions under which a command has its own
effect, and the invariants of the package. -/

namespace Sys2Proof

open Machine

/-- The step goes on to a next state. -/
def goesOn (o : Host.Outcome State Fault Refusal) : Prop := ∃ s, o = .next s

/-- The command answers a next state: the device is `d` once everything has settled (`Dev.finish`), and the waiting commands are
untouched. -/
def answers (c : Instr) (s : State) (d : Dev) : Prop := exec c s = .next { s with dev := d.finish }

/-- R301: no thread waits for a counter that has reached its target. -/
def Machine.State.settled (s : State) : Prop := s.dev.settled = true

/-- R317: the bytes of HBM are held in the one canonical form. -/
def Machine.State.memWf (s : State) : Prop := Memory.wf s.dev.mem.data = true

namespace Machine

/-! ### Core instructions -/

/-- R156, R163, R247: thread `x` of a running core is READY, its instruction is at hand, no register that the instruction reads
awaits an array's status, and the scheduler chooses the thread. -/
def Dev.issues (s : Dev) (x : Tid) (reads : List (BitVec 5)) : Bool :=
  let t := s.thr x
  x.ok && s.live && t.st == .ready && s.coreRuns x.core && s.fetchOk x.core t.pc.toNat &&
    !t.pcOut && s.hasInsn x && !t.awaiting.any (fun w => reads.contains w.1) && s.chosen x

/-- Nothing waits: no reload, no granted test, no packet without credit, no operation at the ingress or held by a port, no group,
no armed snapshot, no management command to forward, and no thread whose counter has reached its target. -/
def Dev.quiet (s : Dev) : Bool :=
  s.img.reload.isNone && s.tests.grants.isEmpty && s.fab.waiting.isEmpty && s.ra.ingress.isEmpty && s.coll.groups.isEmpty &&
    !s.evc.arm && s.settled &&
    (s.cores.all fun c => (s.pents c.1).all fun e => !e.2.accepted || e.2.sent) &&
    s.host.queues.all fun q => (s.queue q.1).entries.head?.all fun e => e.started || eKind e.e != 5

/-- R350, R690–R694: the commands that act also on a package that does not run: the supply, the pins and the sideband. -/
def actsWithoutPower : Instr → Bool
  | .powerGood _ _ | .powerRemove | .supvN _ | .perstAssert _ | .perstDeassert _ | .readHb | .readBoot | .readTemp | .setOffset _
  | .readCsr | .jtagInstruction _ => true
  | _ => false

/-- R574: the management command `cmd` at the head of queue `q` runs now; `e` is its entry, and `d` the device with that entry
started. -/
def Dev.runsMgmt (s : Dev) (q cmd : Nat) (e : Entry) (d : Dev) : Prop :=
  s.mgmtHead q cmd = some e ∧ ∃ h l, (s.queue q).entries = h :: l ∧ d = s.markStarted q h.seq

end Machine

/-- The instruction writes gd with `f ga gb` and goes on at the next word. -/
def gives2 (x : Tid) (i : Insn) (s : State) (c : Instr) (f : Word → Word → Word) : Prop :=
  answers c s ((s.dev.issued x).upd x fun t => t.wg i.d (f (t.rg i.a) (t.rg i.b)))

/-- The instruction writes gd with `f ga` and goes on at the next word. -/
def gives1 (x : Tid) (i : Insn) (s : State) (c : Instr) (f : Word → Word) : Prop :=
  answers c s ((s.dev.issued x).upd x fun t => t.wg i.d (f (t.rg i.a)))

/-- The branch goes to pc + OFF where the condition on ga and gb holds, and to the next word where it does not. -/
def branches (x : Tid) (i : Insn) (s : State) (c : Instr) (cond : Word → Word → Bool) : Prop :=
  answers c s ((s.dev.issued x).modThr x fun t =>
    if cond (t.rg i.a) (t.rg i.b) then
      { t with st := .ready, pc := BitVec.ofInt 50 (t.pc.toNat + i.upper.toInt), jumpFrom := some t.pc, line := .cached
               pcOut := decide ((t.pc.toNat + i.upper.toInt) < 0 ∨ 2 ^ 50 ≤ (t.pc.toNat + i.upper.toInt)) }
    else t.retire)

/-- The jump links pc + 8 in gd and goes to `target`, whose fetch faults where it is no 50-bit address. -/
def jumps (x : Tid) (i : Insn) (s : State) (c : Instr) (target : Word) : Prop :=
  answers c s ((s.dev.issued x).modThr x fun t =>
    { t.wg i.d (BitVec.ofNat 64 (t.pc.toNat + 8)) with
      st := .ready, pc := target.setWidth 50, jumpFrom := some t.pc, line := .cached, pcOut := decide (2 ^ 50 ≤ target.toNat) })

end Sys2Proof
end

