-- ==== Sys2Proof/Certificates/Slice0/Obligations.lean ====
section
/-! DEFINITION. The statements for the provers. `answers c s d` says that command `c` at state `s` answers a next state whose
device is `d` once everything has settled (`Dev.finish`). -/

open Sys2Proof Sys2Proof.Machine

/-- R280, R281: the two-register instructions write gd with the value their row of the table gives, and the thread goes
on at the next word. R280: MULH gives the high 64 bits of the product, signed with FN 0 and unsigned with FN 1; SEL
chooses by bit 0 of gc. R280, R281: the immediate instructions write gd, IMM sign-extended; shifts take imm[5:0]. -/
def Obligations.ScalarArithmeticWraps : Prop :=
  (∀ (x : Tid) (i : Insn) (s : State), s.dev.issues x [i.a, i.b] = true → rFmt i true true true false 0 = true →
     gives2 x i s (.add x i) (fun a b => BitVec.ofNat 64 (a.toNat + b.toNat)) ∧
     gives2 x i s (.sub x i) (fun a b => BitVec.ofInt 64 (a.toInt - b.toInt)) ∧
     gives2 x i s (.mul x i) (fun a b => BitVec.ofNat 64 (a.toNat * b.toNat)) ∧
     gives2 x i s (.and x i) (fun a b => a &&& b) ∧
     gives2 x i s (.or x i) (fun a b => a ||| b) ∧
     gives2 x i s (.xor x i) (fun a b => a ^^^ b) ∧
     gives2 x i s (.shl x i) (fun a b => BitVec.ofNat 64 (a.toNat * 2 ^ fldN b 0 6)) ∧
     gives2 x i s (.shr x i) (fun a b => BitVec.ofNat 64 (a.toNat / 2 ^ fldN b 0 6)) ∧
     gives2 x i s (.sra x i) (fun a b => BitVec.ofInt 64 (a.toInt / 2 ^ fldN b 0 6)) ∧
     gives2 x i s (.slt x i) (fun a b => if a.toInt < b.toInt then 1 else 0) ∧
     gives2 x i s (.sltu x i) (fun a b => if a.toNat < b.toNat then 1 else 0)) ∧
  (∀ (x : Tid) (i : Insn) (s : State),
     (s.dev.issues x [i.a, i.b] = true → rFmt i true true true false 1 = true →
       answers (.mulh x i) s ((s.dev.issued x).upd x fun t => t.wg i.d
         (if i.fn = 0 then BitVec.ofInt 64 ((t.rg i.a).toInt * (t.rg i.b).toInt / 2 ^ 64)
          else BitVec.ofNat 64 ((t.rg i.a).toNat * (t.rg i.b).toNat / 2 ^ 64)))) ∧
     (s.dev.issues x [i.a, i.b, i.c] = true → rFmt i true true true true 0 = true →
       answers (.sel x i) s ((s.dev.issued x).upd x fun t => t.wg i.d (if (t.rg i.c).getLsbD 0 then t.rg i.a else t.rg i.b)))) ∧
  (∀ (x : Tid) (i : Insn) (s : State), s.dev.issues x [i.a] = true → iFmt i true true = true →
     gives1 x i s (.addi x i) (fun a => a + BitVec.ofInt 64 i.upper.toInt) ∧
     gives1 x i s (.andi x i) (fun a => a &&& BitVec.ofInt 64 i.upper.toInt) ∧
     gives1 x i s (.ori x i) (fun a => a ||| BitVec.ofInt 64 i.upper.toInt) ∧
     gives1 x i s (.xori x i) (fun a => a ^^^ BitVec.ofInt 64 i.upper.toInt) ∧
     gives1 x i s (.shli x i) (fun a => BitVec.ofNat 64 (a.toNat * 2 ^ fldN i.upper 0 6)) ∧
     gives1 x i s (.shri x i) (fun a => BitVec.ofNat 64 (a.toNat / 2 ^ fldN i.upper 0 6)) ∧
     gives1 x i s (.srai x i) (fun a => BitVec.ofInt 64 (a.toInt / 2 ^ fldN i.upper 0 6)) ∧
     gives1 x i s (.lih x i) (fun a => BitVec.ofNat 64 (i.upper.toNat * 2 ^ 32 + fldN a 0 32)))

/-- R280, R282: a branch whose OFF is a multiple of 8 adds OFF to the program counter where its condition holds, and
goes on at the next word where it does not. R280, R282: JAL and JALR link pc + 8 in gd and go to a target that is a
multiple of 8; where that is no 50-bit address, its fetch faults. -/
def Obligations.BranchAndJumpResults : Prop :=
  (∀ (x : Tid) (i : Insn) (s : State), s.dev.issues x [i.a, i.b] = true → i.d = 0 → i.c = 0 → i.fn = 0 →
     i.upper.toNat % 8 = 0 →
     branches x i s (.beq x i) (fun a b => a = b) ∧
     branches x i s (.bne x i) (fun a b => a ≠ b) ∧
     branches x i s (.blt x i) (fun a b => a.toInt < b.toInt) ∧
     branches x i s (.bge x i) (fun a b => b.toInt ≤ a.toInt) ∧
     branches x i s (.bltu x i) (fun a b => a.toNat < b.toNat) ∧
     branches x i s (.bgeu x i) (fun a b => b.toNat ≤ a.toNat)) ∧
  (∀ (x : Tid) (i : Insn) (s : State) (target : Word), target.toNat % 8 = 0 →
     (s.dev.issues x [] = true → iFmt i true false = true →
       BitVec.ofInt 64 ((s.dev.thr x).pc.toNat + i.upper.toInt) = target → jumps x i s (.jal x i) target) ∧
     (s.dev.issues x [i.a] = true → iFmt i true true = true →
       BitVec.ofInt 64 (((s.dev.thr x).rg i.a).toNat + i.upper.toInt) = target → jumps x i s (.jalr x i) target))

/-- R280, R284–R286: NOP changes nothing, RDSYS reads the thread's state, RKEY sets the key register, ICINV empties the
instruction cache of its core; a line that a thread of the core waits for completes and is not held (R316). R155: END
ends the work item with E_OK, and the thread is EMPTY; only its epoch is kept. -/
def Obligations.ThreadStateInstructionResults : Prop :=
  (∀ (x : Tid) (i : Insn) (s : State),
     (s.dev.issues x [] = true → rFmt i false false false false 0 = true →
       answers (.nop x i) s ((s.dev.issued x).upd x fun t => t) ∧
       answers (.icinv x i) s (((s.dev.issued x).modCore x.core fun k =>
         { k with
           icache := []
           threads := k.threads.map fun t => (t.1, if t.2.st = .parkedFetch then { t.2 with line := .overtaken } else t.2) }).upd x
             fun t => t)) ∧
     (s.dev.issues x [i.a] = true → rFmt i false true false false 0 = true →
       answers (.rkey x i) s ((s.dev.issued x).upd x fun t => { t with rk := BitVec.ofNat 32 (t.rg i.a).toNat })) ∧
     (s.dev.issues x [] = true → iFmt i true false = true → i.upper.toNat < 6 →
       let t := s.dev.thr x
       let k := (t.work.map (·.ctx)).getD 0
       let v : Nat := match i.upper.toNat with
         | 0 => (s.dev.core x.core).cycle.toNat
         | 1 => x.thr + x.core * 2 ^ 8 + ((s.dev.partOfCore x.core).getD 0) * 2 ^ 16 + s.dev.devNum * 2 ^ 32 + s.dev.domNum * 2 ^ 48
         | 2 => k + (s.dev.ctx k).gen.toNat * 2 ^ 16 + (s.dev.ctx k).job.toNat * 2 ^ 32
         | 3 => t.epoch.toNat
         | 4 => t.remCode.toNat + t.remCount.toNat * 2 ^ 16
         | _ => t.rk.toNat
       (s.dev.partOfCore x.core).getD 0 < 8 → s.dev.devNum < 2 ^ 14 → s.dev.domNum < 16 → k < 1024 →
       answers (.rdsys x i) s ((s.dev.issued x).upd x fun t => t.wg i.d (BitVec.ofNat 64 v)))) ∧
  (∀ (x : Tid) (i : Insn) (s : State), s.dev.issues x [] = true → rFmt i false false false false 0 = true →
     answers (.endWork x i) s (((s.dev.issued x).endItem x E_OK true).modThr x fun t => { epoch := t.epoch }))

/-- R163: the line of a thread that waits for its instruction arrives: it is held by the instruction cache, unless an
ICINV overtook its fetch (R316), and the thread is READY with the instruction at hand; a line with poisoned data faults
the thread with E_LOAD_POISON (R336). R278, R313: a word whose opcode the table of R280 does not list faults with
E_ILLEGAL_OPC when it issues. R163, R313: every core instruction whose program counter lies outside what its partition
may fetch, or is no 50-bit address, faults with E_FETCH_ADDR; one whose line is neither in the instruction cache nor at
hand parks its thread in PARKED_FETCH. R156, R184, R646: a thread that is not READY, one of a core that does not run,
and one that the scheduler does not choose issues no instruction. R156: of the eligible threads of a core the scheduler
chooses a reserved one before an unreserved one, but an unreserved one after two issues of reserved ones in a row;
within the class the first after the thread of it that issued last, round-robin. An issue is remembered by its class.
R278, R282, R313: a scalar instruction with a nonzero field that it does not use, or a reserved FN value, faults with
E_RESERVED_FIELD; so does a branch whose OFF is not a multiple of 8, taken or not. A jump to a target that is not a
multiple of 8 faults with E_FETCH_ADDR, whatever its other fields. The model's choices: log entries 44, 58. -/
def Obligations.IssueAndFetchRules : Prop :=
  (∀ (x : Tid) (victim : Nat) (s : State), x.ok = true → victim < 512 → s.dev.live = true →
     (s.dev.thr x).st = .parkedFetch → s.dev.coreRuns x.core = true →
     answers (.fetchLineArrive x victim true) s ((s.dev.touchLine (128 * lineOf (s.dev.thr x).pc)).faultThr x E_LOAD_POISON) ∧
     (s.dev.linePoisoned (128 * lineOf (s.dev.thr x).pc) = false →
       ∃ d : Dev, answers (.fetchLineArrive x victim false) s d ∧ d.hasInsn x = true ∧
         ((s.dev.thr x).line ≠ .overtaken → (d.core x.core).icache.contains (lineOf (s.dev.thr x).pc) = true) ∧
         ((s.dev.thr x).line = .overtaken → ∀ c, (d.core c).icache = (s.dev.core c).icache) ∧
         (d.thr x).st = .ready ∧ d.thr x = { s.dev.thr x with st := .ready, line := (d.thr x).line } ∧
         (∀ y, y ≠ x → d.thr y = s.dev.thr y) ∧ d.mem = s.dev.mem ∧
         ∀ c off, getByte (d.core c).store off = getByte (s.dev.core c).store off)) ∧
  (∀ (x : Tid) (w : Word) (s : State), s.dev.issues x [] = true → coreInstr (fldN w 0 8) x (insnOf w) = none →
     answers (.illegalInstruction x w) s ((s.dev.issued x).faultThr x E_ILLEGAL_OPC)) ∧
  (∀ (opc : Nat) (x : Tid) (i : Insn) (c : Instr) (s : State), coreInstr opc x i = some c → x.ok = true → s.dev.live = true →
     (s.dev.thr x).st = .ready → s.dev.coreRuns x.core = true →
     (s.dev.fetchOk x.core (s.dev.thr x).pc.toNat = false ∨ (s.dev.thr x).pcOut = true → answers c s (s.dev.faultThr x E_FETCH_ADDR)) ∧
     (s.dev.fetchOk x.core (s.dev.thr x).pc.toNat = true → (s.dev.thr x).pcOut = false → s.dev.hasInsn x = false →
       answers c s ((s.dev.count (bankCore x.core) 0x10 1 (some x.thr)).modThr x fun t =>
         { t with st := .parkedFetch, line := .cached }))) ∧
  (∀ (opc : Nat) (x : Tid) (i : Insn) (c : Instr) (s : State), coreInstr opc x i = some c → x.ok = true → s.dev.live = true →
     (((s.dev.thr x).st ≠ .ready ∨ s.dev.coreRuns x.core = false) → answers c s s.dev) ∧
     (s.dev.fetchOk x.core (s.dev.thr x).pc.toNat = true → (s.dev.thr x).pcOut = false → s.dev.hasInsn x = true →
       (s.dev.thr x).awaiting = [] → s.dev.chosen x = false → answers c s s.dev)) ∧
  ((∀ (s : Dev) (c : Nat) (p : Nat → Bool),
     let l := (List.range 16).filter p
     let k := s.schedOf c
     (l = [] → s.choice c l = none) ∧
     (l ≠ [] → ∃ t ∈ l, s.choice c l = some t ∧
       (s.reserved ⟨c, t⟩ = true ↔ (∃ u ∈ l, s.reserved ⟨c, u⟩ = true) ∧ ¬ (k.inRow = 2 ∧ ∃ u ∈ l, s.reserved ⟨c, u⟩ = false)) ∧
       ∀ u ∈ l, s.reserved ⟨c, u⟩ = s.reserved ⟨c, t⟩ →
         let last := if s.reserved ⟨c, t⟩ then k.lastRsv else k.lastFree
         (last < t ∧ (u ≤ last ∨ t ≤ u)) ∨ (t ≤ last ∧ u ≤ last ∧ t ≤ u))) ∧
   (∀ (s : Dev) (x : Tid),
     let k := (s.issued x).schedOf x.core
     (s.reserved x = true →
       k.lastRsv = x.thr ∧ k.lastFree = (s.schedOf x.core).lastFree ∧ k.inRow = min 2 ((s.schedOf x.core).inRow + 1)) ∧
     (s.reserved x = false → k.lastFree = x.thr ∧ k.lastRsv = (s.schedOf x.core).lastRsv ∧ k.inRow = 0))) ∧
  (∀ (x : Tid) (i : Insn) (s : State),
     let faults := fun (c : Instr) => answers c s ((s.dev.issued x).faultThr x E_RESERVED_FIELD)
     (s.dev.issues x [i.a, i.b] = true → rFmt i true true true false 0 = false →
       ∀ c ∈ [Instr.add x i, .sub x i, .mul x i, .and x i, .or x i, .xor x i, .shl x i, .shr x i, .sra x i, .slt x i, .sltu x i], faults c) ∧
     (s.dev.issues x [i.a, i.b] = true → rFmt i true true true false 1 = false → faults (.mulh x i)) ∧
     (s.dev.issues x [i.a] = true → iFmt i true true = false →
       ∀ c ∈ [Instr.addi x i, .andi x i, .ori x i, .xori x i, .shli x i, .shri x i, .srai x i, .lih x i], faults c) ∧
     (s.dev.issues x [i.a] = true → iFmt i true true = false → ((s.dev.thr x).rg i.a + immOf i).toNat % 8 = 0 → faults (.jalr x i)) ∧
     (s.dev.issues x [] = true → iFmt i true false = false → (((s.dev.thr x).pc.setWidth 64) + immOf i).toNat % 8 = 0 → faults (.jal x i)) ∧
     (s.dev.issues x [i.a, i.b] = true → (i.d ≠ 0 ∨ i.c ≠ 0 ∨ i.fn ≠ 0 ∨ i.upper.toNat % 8 ≠ 0) →
       ∀ c ∈ [Instr.beq x i, .bne x i, .blt x i, .bge x i, .bltu x i, .bgeu x i], faults c) ∧
     (s.dev.issues x [] = true → rFmt i false false false false 0 = false → ∀ c ∈ [Instr.nop x i, .endWork x i, .icinv x i], faults c) ∧
     (s.dev.issues x [] = true → 6 ≤ i.upper.toNat → faults (.rdsys x i)) ∧
     (s.dev.issues x [i.a] = true → ((s.dev.thr x).rg i.a + immOf i).toNat % 8 ≠ 0 →
       answers (.jalr x i) s
         (((s.dev.issued x).modThr x fun t => { t with jumpFrom := some t.pc }).faultThr x E_FETCH_ADDR)) ∧
     (s.dev.issues x [] = true → (((s.dev.thr x).pc.setWidth 64) + immOf i).toNat % 8 ≠ 0 →
       answers (.jal x i) s
         (((s.dev.issued x).modThr x fun t => { t with jumpFrom := some t.pc }).faultThr x E_FETCH_ADDR)))

/-- R280, R287: LD, VLD and PLD from an address of the thread's own core store write the little-endian bytes read there:
LD extends by FN, a VLD shorter than the register zeroes the rest. R280, R287, R167: ST, VST and PST to an address of
the thread's own core store write their bytes there: the low bytes of gb, the bytes of vb that the predicate enables,
the 64 bytes of pb. -/
def Obligations.LocalLoadsAndStores : Prop :=
  (∀ (x : Tid) (i : Insn) (s : State) (off : Nat), s.dev.issues x [i.a] = true → i.b = 0 → i.c = 0 →
     let a := (s.dev.thr x).rg i.a + BitVec.ofInt 64 i.upper.toInt
     ownStore x a = some off →
     (i.fn.toNat < 8 →
       let n := 2 ^ (i.fn.toNat % 4)
       s.dev.addrFault x a n true true = none → s.dev.storeBadAt x.core off n = false →
       let r := ofBytes (getBytes (s.dev.core x.core).store off n)
       answers (.ld x i) s (((s.dev.issued x).storeTouch x.core off n).upd x fun t =>
         t.wg i.d (if i.fn.toNat < 4 then BitVec.ofNat 64 r else BitVec.ofInt 64 (BitVec.ofNat (8 * n) r).toInt))) ∧
     (i.fn.toNat < 5 →
       let n := 32 * 2 ^ i.fn.toNat
       s.dev.addrFault x a n false true = none → s.dev.storeBadAt x.core off n = false →
       answers (.vld x i) s (((s.dev.issued x).storeTouch x.core off n).upd x fun t =>
         t.wv i.d (BitVec.ofNat 4096 (ofBytes (getBytes (s.dev.core x.core).store off n))))) ∧
     (i.fn = 0 → i.d.toNat < 8 → s.dev.addrFault x a 64 false true = none → s.dev.storeBadAt x.core off 64 = false →
       answers (.pld x i) s (((s.dev.issued x).storeTouch x.core off 64).upd x fun t =>
         t.wp (i.d.setWidth 3) (BitVec.ofNat 512 (ofBytes (getBytes (s.dev.core x.core).store off 64)))))) ∧
  (∀ (x : Tid) (i : Insn) (s : State) (off : Nat), s.dev.issues x [i.a, i.b] = true → s.dev.issues x [i.a] = true → i.d = 0 →
     let a := (s.dev.thr x).rg i.a + BitVec.ofInt 64 i.upper.toInt
     ownStore x a = some off →
     (i.c = 0 → i.fn.toNat < 4 →
       let n := 2 ^ i.fn.toNat
       s.dev.addrFault x a n false true = none → s.dev.storeWriteBad x.core off n (2 ^ n - 1) = false →
       answers (.st x i) s
         (((s.dev.issued x).storeWrite x.core off (toBytes n ((s.dev.thr x).rg i.b).toNat) (2 ^ n - 1)).upd x fun t => t)) ∧
     (i.c.toNat < 8 → i.fn.toNat < 5 →
       let n := 32 * 2 ^ i.fn.toNat
       let mask := ((s.dev.thr x).rp (i.c.setWidth 3)).toNat % 2 ^ n
       s.dev.addrFault x a n false true = none → s.dev.storeWriteBad x.core off n mask = false →
       answers (.vst x i) s
         (((s.dev.issued x).storeWrite x.core off (toBytes n ((s.dev.thr x).rv i.b).toNat) mask).upd x fun t => t)) ∧
     (i.c = 0 → i.fn = 0 → i.b.toNat < 8 → s.dev.addrFault x a 64 false true = none →
       s.dev.storeWriteBad x.core off 64 (2 ^ 64 - 1) = false →
       answers (.pst x i) s
         (((s.dev.issued x).storeWrite x.core off (toBytes 64 ((s.dev.thr x).rp (i.b.setWidth 3)).toNat) (2 ^ 64 - 1)).upd x
           fun t => t)))

/-- R149, R158, R159: the same instructions at an address outside the thread's own core store go through the core's
port: a load sends its request and parks the thread in PARKED_ACCESS, a store is a posted operation. R288, R289, R313: a
load or store whose address is not a multiple of its size, or that its partition may not reach, faults with the code of
the first condition that holds and has no other effect. -/
def Obligations.OffCoreAccessesAndAddressFaults : Prop :=
  (∀ (x : Tid) (i : Insn) (s : State), s.dev.issues x [i.a, i.b] = true → s.dev.issues x [i.a] = true →
     let a := (s.dev.thr x).rg i.a + BitVec.ofInt 64 i.upper.toInt
     let d := s.dev.issued x
     let load := fun (opc : BitVec 8) (n : Nat) (r : Dst) => d.callOp x opc i (.load r) (d.localPkt x .load a n) false
     let store := fun (opc : BitVec 8) (n : Nat) (bytes : List Byte) (mask : Nat) =>
       d.postOp x opc i { d.localPkt x .store a n with data := bytes, mask } false
     ownStore x a = none →
     (i.b = 0 → i.c = 0 → i.fn.toNat < 8 → s.dev.addrFault x a (2 ^ (i.fn.toNat % 4)) true true = none →
       answers (.ld x i) s (load 0x40 (2 ^ (i.fn.toNat % 4)) (.g i.d (2 ^ (i.fn.toNat % 4)) (4 ≤ i.fn.toNat)))) ∧
     (i.b = 0 → i.c = 0 → i.fn.toNat < 5 → s.dev.addrFault x a (32 * 2 ^ i.fn.toNat) false true = none →
       answers (.vld x i) s (load 0x42 (32 * 2 ^ i.fn.toNat) (.v i.d (32 * 2 ^ i.fn.toNat)))) ∧
     (i.b = 0 → i.c = 0 → i.fn = 0 → i.d.toNat < 8 → s.dev.addrFault x a 64 false true = none →
       answers (.pld x i) s (load 0x44 64 (.p i.d))) ∧
     (i.d = 0 → i.c = 0 → i.fn.toNat < 4 → s.dev.addrFault x a (2 ^ i.fn.toNat) false true = none →
       answers (.st x i) s
         (store 0x41 (2 ^ i.fn.toNat) (toBytes (2 ^ i.fn.toNat) ((s.dev.thr x).rg i.b).toNat) (2 ^ 2 ^ i.fn.toNat - 1))) ∧
     (i.d = 0 → i.c.toNat < 8 → i.fn.toNat < 5 → s.dev.addrFault x a (32 * 2 ^ i.fn.toNat) false true = none →
       answers (.vst x i) s
         (store 0x43 (32 * 2 ^ i.fn.toNat) (toBytes (32 * 2 ^ i.fn.toNat) ((s.dev.thr x).rv i.b).toNat)
           (((s.dev.thr x).rp (i.c.setWidth 3)).toNat % 2 ^ (32 * 2 ^ i.fn.toNat)))) ∧
     (i.d = 0 → i.c = 0 → i.fn = 0 → i.b.toNat < 8 → s.dev.addrFault x a 64 false true = none →
       answers (.pst x i) s (store 0x45 64 (toBytes 64 ((s.dev.thr x).rp (i.b.setWidth 3)).toNat) (2 ^ 64 - 1)))) ∧
  (∀ (x : Tid) (i : Insn) (s : State) (code : Code), s.dev.issues x [i.a, i.b] = true → s.dev.issues x [i.a] = true →
     let a := (s.dev.thr x).rg i.a + BitVec.ofInt 64 i.upper.toInt
     let faults := fun (c : Instr) => answers c s ((s.dev.issued x).faultThr x code)
     (i.b = 0 → i.c = 0 → i.fn.toNat < 8 → s.dev.addrFault x a (2 ^ (i.fn.toNat % 4)) true true = some code → faults (.ld x i)) ∧
     (i.d = 0 → i.c = 0 → i.fn.toNat < 4 → s.dev.addrFault x a (2 ^ i.fn.toNat) false true = some code → faults (.st x i)) ∧
     (i.b = 0 → i.c = 0 → i.fn.toNat < 5 → s.dev.addrFault x a (32 * 2 ^ i.fn.toNat) false true = some code → faults (.vld x i)) ∧
     (i.d = 0 → i.c.toNat < 8 → i.fn.toNat < 5 → s.dev.addrFault x a (32 * 2 ^ i.fn.toNat) false true = some code →
       faults (.vst x i)) ∧
     (a.toNat % 8 ≠ 0 → s.dev.addrFault x a 8 true true = some E_ADDR_ALIGN))

/-- R292, R293, R158: RLD, RVLD, RFADD, RSWAP and RCAS at an HGA that is a multiple of the size send a returning
operation, which carries the thread's key register, and park the thread in PARKED_ACCESS. R292, R294, R296: RST, RVST
and RAXA are posted: the port is asked to take the store of 8 bytes of gb, of 16–256 bytes of vb, or the contributions
of vb under the control word gc. R158–R160: what the port makes of an operation when it has an entry for it: the entry
holds the operation of the thread. A returning one parks the thread in PARKED_ACCESS; a posted one parks it in
PARKED_PORT until PORT_ACCEPT. Without an entry the thread waits in PARKED_PORT with its instruction. The model's
choices: log entry 44. -/
def Obligations.RemoteInstructionsUseThePort : Prop :=
  (∀ (x : Tid) (i : Insn) (s : State),
     let d := s.dev.issued x
     let t := s.dev.thr x
     let hga := t.rg i.a
     let call := fun (opc : BitVec 8) (k : EntryKind) (p : Packet) => d.callOp x opc i k p true
     (s.dev.issues x [i.a] = true → rFmt i true true false false 0 = true → hga.toNat % 8 = 0 →
       answers (.rld x i) s (call 0x50 (.load (.g i.d 8 false)) (d.thrPkt x .load 0 hga 8))) ∧
     (s.dev.issues x [i.a] = true → rFmt i true true false false 4 = true → hga.toNat % (16 * 2 ^ i.fn.toNat) = 0 →
       answers (.rvld x i) s
         (call 0x51 (.load (.v i.d (16 * 2 ^ i.fn.toNat))) (d.thrPkt x .load 0 hga (16 * 2 ^ i.fn.toNat)))) ∧
     (s.dev.issues x [i.a, i.b] = true → rFmt i true true true false 0 = true → hga.toNat % 8 = 0 →
       answers (.rfadd x i) s (call 0x55 (.atomic i.d) { d.thrPkt x .fetchAdd 0 hga 8 with op1 := t.rg i.b, op2 := 0 }) ∧
       answers (.rswap x i) s (call 0x56 (.atomic i.d) { d.thrPkt x .swap 0 hga 8 with op1 := t.rg i.b, op2 := 0 })) ∧
     (s.dev.issues x [i.a, i.b, i.c] = true → rFmt i true true true true 0 = true → hga.toNat % 8 = 0 →
       answers (.rcas x i) s
         (call 0x57 (.atomic i.d) { d.thrPkt x .compareSwap 0 hga 8 with op1 := t.rg i.b, op2 := t.rg i.c }))) ∧
  (∀ (x : Tid) (i : Insn) (s : State),
     let d := s.dev.issued x
     let t := s.dev.thr x
     let hga := t.rg i.a
     (s.dev.issues x [i.a, i.b] = true → rFmt i false true true false 0 = true → hga.toNat % 8 = 0 →
       answers (.rst x i) s
         (d.postOp x 0x52 i { d.thrPkt x .store 0 hga 8 with data := toBytes 8 (t.rg i.b).toNat } true)) ∧
     (s.dev.issues x [i.a] = true → rFmt i false true true false 4 = true → hga.toNat % (16 * 2 ^ i.fn.toNat) = 0 →
       answers (.rvst x i) s
         (d.postOp x 0x53 i { d.thrPkt x .store 0 hga (16 * 2 ^ i.fn.toNat) with
           data := toBytes (16 * 2 ^ i.fn.toNat) (t.rv i.b).toNat } true)) ∧
     (s.dev.issues x [i.a, i.c] = true → rFmt i false true true true 0 = true → raxaOk (t.rg i.c) = true → hga.toNat % 256 = 0 →
       answers (.raxa x i) s
         (d.postOp x 0x54 i { d.thrPkt x .accumulate 2 hga 256 with acc := some (raxaPayload (t.rv i.b) (t.rg i.c)) } true))) ∧
  (∀ (d : Dev) (x : Tid) (opc : BitVec 8) (i : Insn) (p : Packet) (remote : Bool),
     (∀ e, d.freeEntry x.core x.thr (d.thr x).legOf = some e →
       let d' := d.postOp x opc i p remote
       (d'.thr x) = { d.thr x with st := .parkedPort, stash := none, wait := .none } ∧
       ∃ ent, d'.pent x.core e = some ent ∧ ent.thr = x.thr ∧ ent.kind = .posted ∧ ent.accepted = false ∧ ent.sent = false ∧
         ent.remote = remote ∧ ent.epoch = (d.thr x).epoch ∧ ent.pkt = { p with seq := tagOf x.core e }) ∧
     (d.freeEntry x.core x.thr (d.thr x).legOf = none →
       (d.postOp x opc i p remote).thr x = { d.thr x with st := .parkedPort, stash := some { opc, insn := i } } ∧
       ∀ k, d.callOp x opc i k p remote = d.postOp x opc i p remote))

/-- R300: SADD adds gb to the counter at ga, or sets it (FN bit 1), by a posted operation; a release SADD (FN bit 0)
whose thread has operations outstanding waits for them in PARKED_ACCESS. R301: SWAIT writes E_OK to gd at once where the
counter has reached its target, and parks the thread in PARKED_SYNC otherwise; an SWAIT_TIMEOUT of a wait with a timeout
writes E_SYNC_TIMEOUT and the thread goes on. R304–R306: FENCE with nothing outstanding writes REMERR's code to gd,
clears REMERR and ends the thread's blocks, and waits in PARKED_ACCESS otherwise; QPOST takes a port entry and waits for
its status, which QPOST_STATUS writes to gd: an entry that the queue has room for is placed. The model's choices: log
entries 12, 44. -/
def Obligations.SyncFenceAndQueueInstructions : Prop :=
  (∀ (x : Tid) (i : Insn) (s : State), s.dev.issues x [i.a, i.b] = true → rFmt i false true true false 7 = true →
     let d := s.dev.issued x
     let t := s.dev.thr x
     let ga := t.rg i.a
     let p : Packet := if i.fn.getLsbD 2 then d.localPkt x .syncAdd ga 8 else d.thrPkt x .syncAdd 3 ga 8
     let p : Packet := { p with op1 := t.rg i.b, op2 := if i.fn.getLsbD 1 then 1 else 0 }
     (i.fn.getLsbD 1 = true → i.fn.getLsbD 2 = true) →
     (if i.fn.getLsbD 2 then s.dev.addrFault x ga 8 true false else hgaFault ga 8) = none →
     (i.fn.getLsbD 0 = false ∨ s.dev.outstanding x false = false →
       answers (.sadd x i) s (d.postOp x 0x60 i p (!i.fn.getLsbD 2))) ∧
     (i.fn.getLsbD 0 = true → s.dev.outstanding x false = true →
       answers (.sadd x i) s (d.modThr x fun t =>
         { t with st := .parkedAccess, wait := .rel p (!i.fn.getLsbD 2), stash := none }))) ∧
  (∀ (x : Tid) (i : Insn) (s : State) (k : Nat),
     let t := s.dev.thr x
     (s.dev.issues x [i.a, i.b, i.c] = true → rFmt i true true true true 0 = true → fldN (t.rg i.c) 16 48 = 0 →
       s.dev.addrFault x (t.rg i.a) 8 true false = none → place (t.rg i.a).toNat = .ctr k →
       (reached (s.dev.ctr k) (t.rg i.b) = true →
         answers (.swait x i) s ((s.dev.issued x).upd x fun t => t.wg i.d (E_OK.setWidth 64))) ∧
       (reached (s.dev.ctr k) (t.rg i.b) = false →
         answers (.swait x i) s ((s.dev.issued x).modThr x fun u =>
           { u with st := .parkedSync, wait := .sync k (t.rg i.b) i.d (fldN (t.rg i.c) 0 16), stash := none }))) ∧
     (∀ target gd us, s.dev.live = true → x.ok = true → t.st = .parkedSync → t.wait = .sync k target gd us → us ≠ 0 →
       answers (.swaitTimeout x) s (s.dev.upd x fun t => t.wg gd (E_SYNC_TIMEOUT.setWidth 64)))) ∧
  (∀ (x : Tid) (i : Insn) (s : State),
     let t := s.dev.thr x
     (s.dev.issues x [] = true → rFmt i true false false false 1 = true →
       (s.dev.outstanding x (i.fn.getLsbD 0) = false →
         answers (.fence x i) s ((s.dev.issued x).modThr x fun t =>
           { (t.wg i.d (t.remCode.setWidth 64)).retire with
             remCode := E_OK, remCount := 0
             blocked := if i.fn.getLsbD 0 then t.blocked.filter (·.1 ≠ s.dev.devNum) else [] })) ∧
       (s.dev.outstanding x (i.fn.getLsbD 0) = true →
         answers (.fence x i) s ((s.dev.issued x).modThr x fun t =>
           { t with st := .parkedAccess, wait := .fence (i.fn.getLsbD 0) i.d, stash := none }))) ∧
     (∀ e off, s.dev.issues x [i.a, i.b] = true → rFmt i true true true false 0 = true →
       (t.rg i.b).toNat % 64 = 0 → ownStore x (t.rg i.b) = some off → off < storeTop → s.dev.storeBadAt x.core off 64 = false →
       s.dev.freeEntry x.core x.thr t.legOf = some e →
       ∃ d : Dev, answers (.qpost x i) s d ∧
         d.thr x = { t with st := .parkedAccess, stash := none
                            wait := .qpost ((t.rg i.a).toNat % 4096)
                              (BitVec.ofNat 512 (ofBytes (getBytes (s.dev.core x.core).store off 64))) i.d } ∧
         d.pent x.core e ≠ none) ∧
     (∀ e off, s.dev.issues x [i.a, i.b] = true → rFmt i true true true false 0 = true →
       (t.rg i.b).toNat % 64 = 0 → ownStore x (t.rg i.b) = some off → off < storeTop →
       s.dev.freeEntry x.core x.thr t.legOf = some e →
       ∃ (d : Dev) (ent : Entry), answers (.qpost x i) s d ∧ d.pent x.core e ≠ none ∧
         d.thr x = { t with st := .parkedAccess, stash := none, wait := .qpost ((t.rg i.a).toNat % 4096) ent i.d }) ∧
     (∀ q ent gd e p, s.dev.live = true → x.ok = true → t.wait = .qpost q ent gd →
       (s.dev.pents x.core).find? (fun p => p.2.thr == x.thr && p.2.kind == .qpost) = some (e, p) → p.orphan = false →
       (s.dev.qpostCode x q = E_OK →
         answers (.qpostStatus x) s (((s.dev.postEntry q ent).upd x fun t => t.wg gd (E_OK.setWidth 64)).freeEnt x.core e)) ∧
       (s.dev.qpostCode x q ≠ E_OK →
         answers (.qpostStatus x) s ((s.dev.upd x fun t => t.wg gd ((s.dev.qpostCode x q).setWidth 64)).freeEnt x.core e))))

/-- R159, R293, R294: a reply taken up frees its entry: a load or a returning atomic writes its destination and the
thread goes on; an acknowledgement of a posted operation only frees the entry. R159, R160, R268: PORT_ACCEPT accepts the
thread's posted operation when the port's grant comes to the threads, and the thread goes on; PORT_ENTRY_FREE issues the
instruction that waited for an entry. The model's choices: log entry 44. -/
def Obligations.RepliesAndPortEvents : Prop :=
  (∀ (core entry : Nat) (s : State) (r : Reply) (p : PEntry), s.dev.live = true → core < 32 → entry < 256 →
     s.dev.coreBusy core = false → (s.dev.core core).replies.find? (·.entry == entry) = some r → r.code = E_OK →
     s.dev.pent core entry = some p → p.orphan = false →
     let d := s.dev.modCore core fun k => { k with replies := dropAt k.replies (k.replies.findIdx (·.entry == entry)) }
     (∀ dst, p.kind = .load dst → r.poison = 0 →
       answers (.remoteReply core entry) s ((d.freeEnt core entry).modThr ⟨core, p.thr⟩ fun t => (t.load dst r.data).retire)) ∧
     (∀ dst, p.kind = .load dst → r.poison ≠ 0 →
       answers (.remoteReply core entry) s ((d.freeEnt core entry).faultThr ⟨core, p.thr⟩ E_LOAD_POISON)) ∧
     (∀ gd, p.kind = .atomic gd →
       answers (.remoteReply core entry) s ((d.freeEnt core entry).modThr ⟨core, p.thr⟩ fun t =>
         (t.wg gd (BitVec.ofNat 64 (ofBytes r.data))).retire)) ∧
     (p.kind = .posted → answers (.remoteReply core entry) s (d.freeEnt core entry))) ∧
  (∀ (x : Tid) (s : State), s.dev.live = true → x.ok = true → (s.dev.thr x).st = .parkedPort → s.dev.coreRuns x.core = true →
     (∀ e p, (s.dev.thr x).stash = none →
       (s.dev.pents x.core).find? (fun p => p.2.thr == x.thr && !p.2.accepted && !p.2.orphan) = some (e, p) →
       (p.remote = true → (s.dev.thr x).blocked = []) →
       (s.dev.portTurn x.core 2 = true →
         answers (.portAccept x) s
           ((((s.dev.modCore x.core fun k => { k with granted := 2 }).setPent x.core e (some { p with accepted := true })).modThr x
             Thread.retire).flushHeld x.core x.thr)) ∧
       (s.dev.portTurn x.core 2 = false → answers (.portAccept x) s s.dev)) ∧
     (∀ k, (s.dev.thr x).stash = some k → (s.dev.freeEntry x.core x.thr (s.dev.thr x).legOf).isSome = true →
       answers (.portEntryFree x) s (s.dev.reissue x k)))

/-- R177–R179: a thread with work that stays READY for RETIRE_LIMIT, or parked but in PARKED_SYNC for PARK_LIMIT, faults
with the watchdog's code; a thread in PARKED_SYNC does not. R187: the park watchdog frees what a reset orphaned before
the port accepted it. R180, R190, R560: a write of one bit of CORE.THR_RESET by the port that serves the core's
partition resets that thread; from the other port it is refused and logged. PORT_ORPHAN orphans what a thread in reset
still has outstanding. R180: a thread reset with nothing outstanding leaves the thread EMPTY, every register zero and
its epoch advanced by one. The model's choices: log entry 12. -/
def Obligations.ThreadWatchdogsAndResets : Prop :=
  (∀ (x : Tid) (s : State), s.dev.live = true → x.ok = true → (s.dev.thr x).work.isSome = true → s.dev.coreBusy x.core = false →
     ((s.dev.thr x).st = .ready → answers (.retireWdog x) s (s.dev.faultThr x E_THREAD_RETIRE_WDOG)) ∧
     ((s.dev.thr x).st = .parkedAccess ∨ (s.dev.thr x).st = .parkedPort ∨ (s.dev.thr x).st = .parkedArray ∨
         (s.dev.thr x).st = .parkedFetch →
       answers (.parkWdog x) s ((s.dev.faultThr x E_THREAD_PARK_WDOG).freeUnsent x)) ∧
     ((s.dev.thr x).st = .parkedSync → answers (.parkWdog x) s (s.dev.freeUnsent x)) ∧
     ((s.dev.pents x.core).all (fun e => e.2.thr != x.thr || !e.2.orphan || e.2.accepted) = true → s.dev.freeUnsent x = s.dev)) ∧
  (∀ (port : Nat) (x : Tid) (s : State), s.dev.live = true → port < 2 → x.ok = true →
     (s.dev.corePortOk port x.core = true → s.dev.coreUsable x.core = true → s.dev.coreBusy x.core = false →
       (s.dev.thr x).st ≠ .resetting →
       answers (.threadReset port x.core (BitVec.ofNat 16 (2 ^ x.thr))) s
         ((s.dev.modCore x.core fun k => { k with thrReset := k.thrReset ||| BitVec.ofNat 16 (2 ^ x.thr) }).beginReset x
           E_THREAD_RESET E_OK)) ∧
     (s.dev.corePortOk port x.core = true → s.dev.coreUsable x.core = true → s.dev.coreBusy x.core = false →
       (s.dev.thr x).st = .resetting →
       answers (.threadReset port x.core (BitVec.ofNat 16 (2 ^ x.thr))) s
         (s.dev.modCore x.core fun k => { k with thrReset := k.thrReset ||| BitVec.ofNat 16 (2 ^ x.thr) })) ∧
     (∀ mask, s.dev.corePortOk port x.core = false →
       answers (.threadReset port x.core mask) s (s.dev.logE E_HOST_NOT_OWNER x.core)) ∧
     ((s.dev.thr x).st = .resetting → s.dev.outstanding x false = true →
       answers (.portOrphan x) s
         (((s.dev.modCore x.core fun k => { k with port := k.port.map fun (e : Nat × Option PEntry) =>
           (e.1, e.2.map fun p => if p.thr = x.thr then { p with orphan := true } else p) }).logE E_PORT_ORPHAN
             (16 * x.core + x.thr)).tryFinish x))) ∧
  (∀ (d : Dev) (x : Tid) (code cause : Code), d.coreBusy x.core = false → d.outstanding x false = false →
     (d.beginReset x code cause).thr x = { epoch := (d.thr x).epoch + 1 })

/-- R152, R153: the next entry of a compute queue starts on an EMPTY thread: READY at the entry address, g1 the
argument, g2 the queue and thread, g3 the core, every other register zero. R530–R532, R544: the head leg of a group is
dispatched on an EMPTY reserved thread of its core once its gate holds; a gate that stays shut past its peer timeout
raises E_COLL_PEER_TIMEOUT. The model's choices: log entries 24, 44. -/
def Obligations.WorkItemsAndLegsStart : Prop :=
  (∀ (q core thr : Nat) (s : State) (e : QEntry), s.dev.live = true → q < 4096 → core < 32 → thr < 16 →
     s.dev.nextStart q = some e → s.dev.ready = true → s.dev.readyOn core q = true → s.dev.queueFirst core q = true →
     (s.dev.emptyThreads core false).contains thr = true → s.dev.tests.running = [] → eEntry e.e % 8 = 0 → eEntry e.e < 2 ^ 50 →
     ∃ d : Dev, answers (.computeEntryStart q core thr) s d ∧
       let t := d.thr ⟨core, thr⟩
       t.st = .ready ∧ t.pc = BitVec.ofNat 50 (eEntry e.e) ∧ t.rk = 0 ∧ t.rg 1 = BitVec.ofNat 64 (eArg e.e) ∧
       t.rg 2 = BitVec.ofNat 64 (q + thr * 2 ^ 16) ∧ t.rg 3 = BitVec.ofNat 64 core ∧
       (∀ i : BitVec 5, 3 < i.toNat → t.rg i = 0) ∧ (∀ i, t.rv i = 0) ∧ (∀ i : BitVec 3, i ≠ 0 → t.rp i = 0) ∧
       t.work = some { queue := q, seq := e.seq, ctx := eCtx e.e, leg := false } ∧
       t.epoch = (s.dev.thr ⟨core, thr⟩).epoch ∧ d.mem = s.dev.mem ∧
       (∀ y : Tid, y ≠ ⟨core, thr⟩ → d.thr y = s.dev.thr y)) ∧
  (∀ (q : Nat) (s : State) (g : Group) (e : QEntry), s.dev.live = true → q < 4096 → s.dev.group q = some g →
     s.dev.groupHead q g = some e →
     (∀ thr, thr < 16 → s.dev.legReady q = true → s.dev.legFirst q g.core = true →
       (s.dev.emptyThreads g.core true).contains thr = true →
       answers (.legDispatch q thr) s (s.dev.dispatchLeg q thr g e)) ∧
     (∀ w, s.dev.gateWord g e.e = some w → w.getLsbD 9 = true → s.dev.gateHolds g e.e = false → g.legRunning = false →
       g.st ≠ .aborted → answers (.peerTimeout q) s (s.dev.addCtr g.cbase 1 E_COLL_PEER_TIMEOUT)))

/-- R280, R307: the arithmetic vector instructions give, element by element, the exact result rounded once to TY. R280,
R307, R308, R310, R311: comparisons write a p register, functions and block scales a v register, VSUM the fixed-order
sum. R280, R307, R309, R312: bitwise instructions, conversion, broadcast and extraction. The model's choices: log
entries 46, 47. -/
def Obligations.VectorResults : Prop :=
  (∀ (x : Tid) (i : Insn) (s : State), s.dev.issues x [] = true →
     let map := fun (c : Instr) (f : Thread → Nat → Nat) => answers c s ((s.dev.issued x).upd x fun t => t.vMap i (f t))
     let ty := vType i
     let el := fun (t : Thread) (r : BitVec 5) (j : Nat) => elem ty (t.rv r) j
     let fp := fun (op : Machine.Num → Machine.Num → Machine.Num) (t : Thread) (j : Nat) =>
       encodeNum ty false (op (decodeNum ty (el t i.a j)) (decodeNum ty (el t i.b j)))
     let int := fun (op : Int → Int → Int) (t : Thread) (j : Nat) =>
       (BitVec.ofInt 32 (op (BitVec.ofNat 32 (el t i.a j)).toInt (BitVec.ofNat 32 (el t i.b j)).toInt)).toNat
     (vFmt i true false false true 2 fn0 = true →
       map (.vadd x i) (fp Machine.Num.add) ∧ map (.vsub x i) (fp fun a b => a.add b.neg) ∧ map (.vmul x i) (fp Machine.Num.mul) ∧
       map (.vmin x i) (fp (Machine.Num.minmax false)) ∧ map (.vmax x i) (fp (Machine.Num.minmax true))) ∧
     (vFmt i true false false true 3 fn0 = true → ty = .int32 →
       map (.vadd x i) (int (· + ·)) ∧ map (.vsub x i) (int (· - ·)) ∧ map (.vmin x i) (int min) ∧ map (.vmax x i) (int max)) ∧
     (vFmt i true true false true 2 fn0 = true →
       map (.vfma x i) fun t j => encodeNum ty false
         (((decodeNum ty (el t i.a j)).mul (decodeNum ty (el t i.b j))).add (decodeNum ty (el t i.c j))))) ∧
  (∀ (x : Tid) (i : Insn) (s : State), s.dev.issues x [] = true →
     let upd := fun (c : Instr) (f : Thread → Thread) => answers c s ((s.dev.issued x).upd x f)
     (vFmt i true false false true 3 (· < 5) = true → i.d.toNat < 8 → upd (.vcmp x i) fun t => t.vcmp i) ∧
     (vFmt i false false false true 2 fn0 = true →
       let fn := fun (opc : BitVec 8) (f : Machine.Num → Approx) (t : Thread) => t.vMap i fun j =>
         approxCode (vType i) opc (elem (vType i) (t.rv i.a) j) (f (decodeNum (vType i) (elem (vType i) (t.rv i.a) j)))
       upd (.vexp2 x i) (fn 0x88 exp2Num) ∧ upd (.vrcp x i) (fn 0x89 rcpNum) ∧ upd (.vrsq x i) (fn 0x8A rsqNum) ∧
       upd (.vsum x i) fun t => t.vsum i) ∧
     (∀ emax, vscaleEmax i.fn.toNat = some emax →
       vFmt i false false true false 2 (fun n => (vscaleEmax n).isSome) = true → vscaleBlocks i * (vSlice i + 1) ≤ 16 →
       upd (.vscale x i) fun t => t.vscale i emax)) ∧
  (∀ (x : Tid) (i : Insn) (s : State),
     let upd := fun (c : Instr) (f : Thread → Thread) => answers c s ((s.dev.issued x).upd x f)
     let bits := fun (f : Nat → Nat → Nat) (t : Thread) => t.vMap i fun j => f (elem .fp32 (t.rv i.a) j) (elem .fp32 (t.rv i.b) j)
     (s.dev.issues x [] = true → vFmt i true false false true 0 fn0 = true →
       upd (.vand x i) (bits Nat.land) ∧ upd (.vor x i) (bits Nat.lor) ∧ upd (.vxor x i) (bits Nat.xor)) ∧
     (∀ dst sat nx, s.dev.issues x [] = true → vcvtDst i.fn.toNat = some (dst, sat, nx) →
       vFmt i false true true true 9 (fun _ => true) = true → vcvtOk i = true → upd (.vcvt x i) fun t => t.vcvt i dst sat nx) ∧
     (s.dev.issues x [i.a] = true → vFmt i false false false false 9 fn0 = true →
       upd (.vbcast x i) fun t => t.wv i.d (vbcastReg (vType i) (t.rg i.a))) ∧
     (s.dev.issues x [i.b] = true → vFmt i true false false false 9 fn0 = true →
       fldN ((s.dev.thr x).rg i.b) 0 10 < (vType i).count →
       upd (.vext x i) fun t => t.wg i.d (BitVec.ofNat 64 (elem (vType i) (t.rv i.a) (fldN ((s.dev.thr x).rg i.b) 0 10)))))

/-- R167, R307: what `vMap` makes of vd: an enabled element takes its code, one that PRED masks off keeps its old value,
and the bits beyond the elements of the type keep theirs. R312: VBCAST places the low bits of ga in every element. R280:
predicate logic; p0 reads all ones and keeps no write. -/
def Obligations.MaskedAndPredicateElements : Prop :=
  (∀ (t : Thread) (i : Insn) (f : Nat → Nat) (j : Nat), let ty := vType i
     (∀ k, f k < 2 ^ ty.bits) →
     (j < ty.count →
       elem ty ((t.vMap i f).rv i.d) j = if (t.rp (vPred i)).getLsbD (ty.bits * j / 8) then f j else elem ty (t.rv i.d) j) ∧
     (ty.count * ty.bits ≤ j → j < 4096 → ((t.vMap i f).rv i.d).getLsbD j = (t.rv i.d).getLsbD j) ∧
     (∀ r, r ≠ i.d → (t.vMap i f).rv r = t.rv r) ∧ (t.vMap i f).g = t.g ∧ (t.vMap i f).p = t.p) ∧
  (∀ (ty : Ty) (g : Word) (j : Nat), j < ty.count → elem ty (vbcastReg ty g) j = g.toNat % 2 ^ ty.bits) ∧
  (∀ (x : Tid) (i : Insn) (s : State), s.dev.issues x [] = true → i.d.toNat < 8 → i.a.toNat < 8 →
     let upd := fun (c : Instr) (f : Thread → PReg) =>
       answers c s ((s.dev.issued x).upd x fun t => t.wp (i.d.setWidth 3) (f t))
     (rFmt i true true true false 0 = true → i.b.toNat < 8 →
       upd (.pand x i) (fun t => t.rp (i.a.setWidth 3) &&& t.rp (i.b.setWidth 3)) ∧
       upd (.por x i) (fun t => t.rp (i.a.setWidth 3) ||| t.rp (i.b.setWidth 3))) ∧
     (rFmt i true true false false 0 = true → upd (.pnot x i) (fun t => ~~~(t.rp (i.a.setWidth 3)))) ∧
     (∀ (t : Thread) (v : PReg), (t.wp 0 v).rp 0 = BitVec.allOnes 512))

/-- R161, R242–R247: MLOAD, MSTREAM, MDRAIN and MRACC whose descriptor passes its checks enter the array's queue with
the descriptor as it stands in the store, gd awaits the status word, and the thread goes on, unless an instruction ahead
still writes rows that it reads; one whose descriptor fails a check enters no queue and writes its status at once. R263:
MDRV enters the queue and its thread waits in PARKED_ARRAY for the read. R161, R246: a full array queue parks the thread
in PARKED_ARRAY with its instruction, which ARRAY_QUEUE_SLOT_FREE issues again; an array that is absent, or not in use
by the partition, faults the thread. The model's choices: log entry 45. -/
def Obligations.ArrayQueueEntry : Prop :=
  (∀ (x : Tid) (i : Insn) (s : State) (kind : ArrKind) (c : Instr) (off : Nat),
     (c, kind) ∈ [(.mload x i, .mload), (.mstream x i, .mstream), (.mdrain x i, .mdrain), (.mracc x i, .mracc)] →
     s.dev.issues x [i.a] = true → rFmt i true true false false 1 = true → s.dev.arrFault x kind i = none →
     let a := i.fn.toNat % 2
     let m := s.dev.arr x.core a
     m.st = .ready → m.queue.length < 4 → s.dev.windowOpen 2 (2 * x.core + a) = false → s.dev.tests.running = [] →
     descAt x ((s.dev.thr x).rg i.a) = some off → s.dev.storeBadAt x.core off 64 = false →
     let desc := mxDesc (getBytes (s.dev.core x.core).store off 64)
     (mxCheck x.core kind desc = E_OK → (∀ k ∈ m.queue, k.kind ≠ .mstream) →
       ∃ (d : Dev) (k : ArrInsn), answers c s d ∧ (d.arr x.core a).queue = m.queue ++ [k] ∧ k.kind = kind ∧ k.desc = desc ∧ k.started = false ∧
         k.code = E_OK ∧ k.thr = x.thr ∧ k.gd = i.d ∧ (d.thr x).st = .ready ∧ (d.thr x).pc = (s.dev.thr x).pc + 8 ∧
         (i.d ≠ 0 → (d.thr x).awaiting = (i.d, a, m.nextId) :: (s.dev.thr x).awaiting)) ∧
     (mxCheck x.core kind desc ≠ E_OK → desc.sync = 0 → i.d ≠ 0 →
       ∃ d : Dev, answers c s d ∧ (d.arr x.core a).queue = m.queue ∧ (d.thr x).st = .ready ∧
         (d.thr x).rg i.d = BitVec.ofNat 64 (mxCheck x.core kind desc).toNat)) ∧
  (∀ (x : Tid) (i : Insn) (s : State), s.dev.issues x [i.a] = true → rFmt i true true false false 1 = true →
     s.dev.arrFault x .mdrv i = none →
     let a := i.fn.toNat % 2
     let m := s.dev.arr x.core a
     m.st = .ready → m.queue.length < 4 → s.dev.windowOpen 2 (2 * x.core + a) = false → s.dev.tests.running = [] →
     ∃ (d : Dev) (k : ArrInsn), answers (.mdrv x i) s d ∧ (d.arr x.core a).queue = m.queue ++ [k] ∧ k.kind = .mdrv ∧ k.ctl = (s.dev.thr x).rg i.a ∧
       k.gd = i.d ∧ (d.thr x).st = .parkedArray ∧ (d.thr x).wait = .mdrv a m.nextId ∧ (d.thr x).pc = (s.dev.thr x).pc) ∧
  (∀ (x : Tid) (i : Insn) (s : State),
     let a := i.fn.toNat % 2
     (s.dev.issues x [i.a] = true → rFmt i true true false false 1 = true → s.dev.arrFault x .mload i = none →
       s.dev.tests.running = [] → 4 ≤ (s.dev.arr x.core a).queue.length →
       answers (.mload x i) s ((s.dev.issued x).modThr x fun t =>
         { t with st := .parkedArray, wait := .none, stash := some { opc := 0xC0, insn := i } })) ∧
     (∀ code, s.dev.issues x [i.a] = true → rFmt i true true false false 1 = true → s.dev.arrFault x .mload i = some code →
       answers (.mload x i) s ((s.dev.issued x).faultThr x code)) ∧
     (s.dev.live = true → x.ok = true → (s.dev.thr x).st = .parkedArray → s.dev.coreRuns x.core = true →
       (s.dev.thr x).stash = some { opc := 0xC0, insn := i } →
       answers (.arrayQueueSlotFree x) s (semArr .mload 0xC0 x i s.dev)))

/-- R197–R199, R249, R251: an MLOAD that starts begins to load its tile; with the shadow full it ends with
E_MX_SHADOW_BUSY. A load still in progress ahead of it has completed (`loadRest`); without one nothing is left to load.
R198, R249, R274: a cycle of the load in progress reads its pieces from the store as it stands in that cycle; after the
last one the shadow holds the tile and the weights-valid flag is set. R172: an uncorrectable word ends it. R197, R199,
R252: an MSTREAM that starts, once the load in progress has completed, makes loaded weights active; without weights, or
with a format or a size that does not match them, it ends with the code of the first check that fails. The model's
choices: log entry 45. -/
def Obligations.MloadAndMstreamStart : Prop :=
  ((∀ (c a : Nat) (s : State) (k : ArrInsn), s.dev.live = true → c < 32 → a < 2 → s.dev.coreBusy c = false →
     (s.dev.arr c a).queue.find? (!·.started) = some k → (s.dev.arr c a).mayStart k = true → k.kind = .mload →
     let d := s.dev.loadRest c a
     ((s.dev.arr c a).load = none → d = s.dev) ∧
     ((d.arr c a).shadow = none →
       answers (.arrayInstrStart c a) s
         ((d.modArr c a fun m => { m with loading := some { fmt := k.desc.fmt, k := k.desc.k, n := k.desc.n } }).modInsn c a k.id fun j =>
           { j with started := true })) ∧
     ((d.arr c a).shadow.isSome = true →
       answers (.arrayInstrStart c a) s (d.modInsn c a k.id fun k => { k.stop E_MX_SHADOW_BUSY with started := true }))) ∧
   (∀ (c a : Nat) (d : Dev) (k : ArrInsn) (w : Weights), (d.arr c a).load = some k → (d.arr c a).loading = some w →
     let base := k.desc.src.toNat - (0x020000000000 + c * 0x02000000)
     let ps := (loadCycles k.desc).getD k.fed []
     let w' := loadPieces (fun off n => getBytes (d.core c).store (base + off) n) k.desc w ps
     let last := (loadCycles k.desc).length ≤ k.fed + 1
     (ps.all (fun p => !d.storeBadAt c (base + (p.extent k.desc).1) (p.extent k.desc).2) = true →
       let e := d.loadCycle c a
       (e.arr c a).shadow = (if last then some w' else (d.arr c a).shadow) ∧ (e.arr c a).loading = (if last then none else some w') ∧
       (e.arr c a).wvalid = (if last then true else (d.arr c a).wvalid) ∧
       (e.arr c a).queue = (d.arr c a).queue.map (fun j => if j.id = k.id then
         { j with fed := j.fed + 1, rows := j.rows + (ps.map (·.rows k.desc)).sum, done := decide last } else j) ∧
       e.mem = d.mem ∧ ∀ y, e.thr y = d.thr y) ∧
     (ps.any (fun p => d.storeBadAt c (base + (p.extent k.desc).1) (p.extent k.desc).2) = true →
       let e := d.loadCycle c a
       (e.arr c a).shadow = (d.arr c a).shadow ∧ (e.arr c a).loading = none ∧ (e.arr c a).wvalid = (d.arr c a).wvalid ∧
       (e.arr c a).queue = (d.arr c a).queue.map fun j => if j.id = k.id then j.stop E_STORE_UNCORR else j))) ∧
  (∀ (c a : Nat) (s : State) (k : ArrInsn), s.dev.live = true → c < 32 → a < 2 → s.dev.coreBusy c = false →
     (s.dev.arr c a).queue.find? (!·.started) = some k → (s.dev.arr c a).mayStart k = true → k.kind = .mstream →
     let r := s.dev.loadRest c a
     let m := r.arr c a
     let w := m.shadow.getD m.active
     let ends := fun (code : Code) =>
       answers (.arrayInstrStart c a) s (r.modInsn c a k.id fun k => { k.stop code with started := true })
     (m.wvalid = false → ends E_ARRAY_NO_WEIGHTS) ∧
     (m.wvalid = true → mxPair w.fmt k.desc.fmt = false → ends E_MX_FORMAT) ∧
     (m.wvalid = true → mxPair w.fmt k.desc.fmt = true → (w.k < k.desc.k ∨ w.n < k.desc.n) → ends E_MX_LOADED) ∧
     (m.wvalid = true → mxPair w.fmt k.desc.fmt = true → k.desc.k ≤ w.k → k.desc.n ≤ w.n →
       answers (.arrayInstrStart c a) s
         ((r.modArr c a fun m => { m with active := w, shadow := none }).modInsn c a k.id fun k => { k with started := true })))

/-- R253, R254, R256, R257: the stream in progress feeds a row: its row sums are those of its elements and the active
weights, and they enter the pipeline with their drain row. R250: the slots of the scale plane of eight rows of a rate-2
stream are read with the first of them. R274: a row waits for the PASS rows that are written before it is read. R202,
R226: rows are fed in the first 25 − s cycles of a window of 25, s the power step in force when the window began; a step
that changes applies from the next window. R256: a row of two array cycles is fed in the second one. The model's
choices: log entry 45. -/
def Obligations.StreamRowsAndFeedCycles : Prop :=
  (∀ (c a : Nat) (s : State) (k : ArrInsn), s.dev.live = true → c < 32 → a < 2 → s.dev.coreBusy c = false →
     let m := s.dev.arr c a
     m.st = .ready → m.queue.find? (fun k => k.kind == .mstream && k.started && !k.done) = some k →
     let base := 0x020000000000 + c * 0x02000000
     let rowOff := k.desc.src.toNat + k.fed * k.desc.srcPitch.toNat - base
     let rowLen := mxBytes k.desc.fmt k.desc.k
     let slotOff := k.desc.scale.toNat + 32 * k.fed - base
     let n := if (mxScaled k.desc.fmt && k.desc.k != 0) = false then 0 else if mxRate2 k.desc.fmt = false then 1
       else if k.fed % 8 = 0 then min 8 (k.desc.m - k.fed) else 0
     let slots := if n = 0 then k.slots
       else (List.range n).map fun i => ((getBytes (s.dev.core c).store slotOff (32 * n)).drop (32 * i)).take 32
     let p := s.dev.powerStep (c / 8)
     let t := m.rowCycle p (mxRowCycles k.desc.fmt k.desc.out)
     m.feedAt ≤ t ∧
     (m.queue.any (fun j => j.desc.out != 0 && j.pipe.any fun f => decide (f.fedAt + 526 + 4 < t)) = true →
       answers (.arrayRowFeed c a) s s.dev) ∧
     (m.queue.any (fun j => j.desc.out != 0 && j.pipe.any fun f => decide (f.fedAt + 526 + 4 < t)) = false →
       s.dev.storeBadAt c rowOff rowLen = false → s.dev.storeBadAt c slotOff (32 * n) = false →
       ∃ d : Dev, answers (.arrayRowFeed c a) s
           ((d.modArr c a fun m => { m with feedAt := t + 1, window := some (t / 25, m.stepIn p (t / 25)) }).modInsn c a k.id fun j =>
             { j with
               fed := j.fed + 1
               pipe := j.pipe ++ [{ row := if k.desc.out = 0 then k.desc.drow + k.fed else k.fed, fedAt := t,
                                    sums := rowSums k.desc m.active (streamRow k.desc
                                      (getBytes (s.dev.core c).store rowOff rowLen) (slots.headD [])) }]
               lastFeed := t
               done := decide (k.desc.m ≤ j.fed + 1)
               slots := slots.drop 1 }) ∧
         d.arr c a = m ∧ d.mem = s.dev.mem ∧ (∀ y, d.thr y = s.dev.thr y))) ∧
  (∀ (m : MArray) (t p : Nat),
     (t % 25 < 25 - m.stepIn p (t / 25) → m.feedCycle t p = t) ∧
     (25 - m.stepIn p (t / 25) ≤ t % 25 → m.feedCycle t p = 25 * (t / 25 + 1)) ∧
     (∀ w q v, m.window = some (w, q) → m.stepIn p w = q ∧ (v ≠ w → m.stepIn p v = p)) ∧
     (∀ v, m.window = none → m.stepIn p v = p) ∧
     m.rowCycle p 1 = m.feedCycle m.feedAt p ∧ m.rowCycle p 2 = m.feedCycle (m.feedCycle m.feedAt p + 1) p)

/-- R200, R253: the oldest fed row of an MSTREAM in BANK reaches its drain row: the sums themselves, or added to what
the row holds where ACC is set; a row of a PASS is converted and stored, after the reads of rows fed before it (R274).
R253: what a drain row holds after `writeRow`: column n takes the sum, or its IEEE sum with what the column held. The
model's choices: log entry 45. -/
def Obligations.DrainRows : Prop :=
  (∀ (c a : Nat) (s : State) (k : ArrInsn) (f : FedRow) (rest : List FedRow), s.dev.live = true → c < 32 → a < 2 →
     s.dev.coreBusy c = false → (s.dev.arr c a).st = .ready →
     (s.dev.arr c a).queue.find? (fun k => k.kind == .mstream && !k.pipe.isEmpty) = some k → k.pipe = f :: rest →
     (k.desc.out = 0 → f.row < 1024 →
       let d := s.dev.modArr c a fun m => m.writeRow f.row k.desc.acc f.sums
       let cs := ((d.arr c a).rowOf f.row k.desc.n).map (·.toNat)
       answers (.drainRowWrite c a []) s ((d.modInsn c a k.id fun j =>
         { j with pipe := rest, rows := j.rows + 1, nan := j.nan || anyNan .fp32 cs, inf := j.inf || anyInf .fp32 cs }).wakeReaders
           c a)) ∧
     (k.desc.out ≠ 0 →
       let off := k.desc.dst.toNat + f.row * k.desc.dstPitch.toNat - (0x020000000000 + c * 0x02000000)
       let bytes := outRow k.desc.out f.sums
       let cs := f.sums.map (outElem k.desc.out)
       let first := ((s.dev.arr c a).nextFeed (s.dev.powerStep (c / 8))).any fun u => decide (u ≤ f.fedAt + 526 + 4)
       (first = true → answers (.drainRowWrite c a []) s s.dev) ∧
       (first = false → s.dev.storeWriteBad c off bytes.length (2 ^ bytes.length - 1) = false →
         answers (.drainRowWrite c a []) s
           ((s.dev.storeWrite c off bytes (2 ^ bytes.length - 1)).modInsn c a k.id fun j =>
             { j with pipe := rest, rows := j.rows + 1
                      nan := j.nan || anyNan (outTy k.desc.out) cs, inf := j.inf || anyInf (outTy k.desc.out) cs })))) ∧
  (∀ (m : MArray) (row : Nat) (acc : Bool) (sums : List (BitVec 32)) (n : Nat), sums.length ≤ 256 →
     let old := fun (r c : Nat) => look 0 m.bank (r * 256 + c)
     let new := fun (r c : Nat) => look 0 (m.writeRow row acc sums).bank (r * 256 + c)
     (∀ h : n < sums.length, new row n =
       if acc then BitVec.ofNat 32 (encodeNum .fp32 false ((decodeNum .fp32 (old row n).toNat).add (decodeNum .fp32 sums[n].toNat)))
       else sums[n]) ∧
     (∀ r c, c < 256 → (r ≠ row ∨ sums.length ≤ c) → new r c = old r c))

/-- R247, R268–R270: an instruction with nothing left to do leaves the queue and writes its status, a load in progress
once it has completed; an MRACC to which the port's grant comes sends its next operation, 16 columns of a drain row at
the target line of that row. R178, R179, R183, R218, R220: an array without progress for ARRAY_LIMIT is reset, its
instructions ending with E_ARRAY_WDOG; eight residue errors within 1 s retire it; a reset whose chain check passes makes
it ready again, its bank empty and its weights not valid. The model's choices: log entries 12, 29, 45. -/
def Obligations.ArrayCompletionWatchdogAndReset : Prop :=
  (∀ (c a : Nat) (s : State) (k : ArrInsn), s.dev.live = true → c < 32 → a < 2 →
     let m := s.dev.arr c a
     (m.queue.find? (·.finished) = some k →
       answers (.arrayInstrComplete c a) s (((s.dev.dropArr c a k.id).endArr c a k k.code).wakeReaders c a)) ∧
     (m.queue.any (·.finished) = false → m.st = .ready → s.dev.coreBusy c = false →
       let d := s.dev.loadRest c a
       (d.arr c a).queue.find? (·.finished) = some k →
       answers (.arrayInstrComplete c a) s (((d.dropArr c a k.id).endArr c a k k.code).wakeReaders c a)) ∧
     (∀ d, s.dev.asksArray c a = true → s.dev.portTurn c a = true →
       m.queue.find? (fun k => k.kind == .mracc && k.started && !k.done) = some k →
       let g := (k.desc.n + 15) / 16
       let row := k.desc.drow + k.fed / g
       let col := 16 * (k.fed % g)
       let n := min 16 (k.desc.n - col)
       (∀ w ∈ m.eccBad, w / 32 = row → ¬ (8 * (w % 32) < col + n ∧ col < 8 * (w % 32) + 8)) → n ≠ 0 → col + n ≤ 256 →
       let hga := k.desc.dst + BitVec.ofNat 64 (k.fed / g * k.desc.dstPitch.toNat + 256 * (k.fed % g))
       ((s.dev.modCore c fun q => { q with granted := a }).modArr c a fun m => m.bankTouch row col n).arraySend c a k.id false
           { s.dev.arrayPkt k .accumulate 2 hga 256 with acc := some (raccPayload m k.desc k.fed) } = some d →
       (k.fed + 1) % g ≠ 0 →
       answers (.mraccOperationSend c a) s (d.modInsn c a k.id fun j =>
         { j with fed := j.fed + 1, out := j.out + 1, done := decide (g * k.desc.m ≤ j.fed + 1) })) ∧
     (s.dev.asksArray c a = true → s.dev.portTurn c a = false → answers (.mraccOperationSend c a) s s.dev)) ∧
  (∀ (c a : Nat) (s : State), s.dev.live = true → c < 32 → a < 2 →
     let m := s.dev.arr c a
     (m.st = .ready → m.queue.any (·.started) = true → s.dev.coreBusy c = false → s.dev.tests.running = [] →
       answers (.arrayWdog c a) s ((s.dev.modArr c a fun m => { m with st := .reset }).emptyArr c a fun _ => E_ARRAY_WDOG)) ∧
     (8 ≤ (m.errTimes.filter fun t => decide (s.dev.clock < t + 1000)).length →
       answers (.arrayResidueRate c a) s (s.dev.retireArr c a E_ARRAY_RESIDUE_RATE)) ∧
     (m.st = .reset → m.failures = [] →
       ∃ d : Dev, answers (.arrayResetDone c a true) s d ∧ (d.arr c a).st = .ready ∧ (d.arr c a).bank = [] ∧ (d.arr c a).wvalid = false ∧
         (d.arr c a).map = m.map ∧ answers (.arrayResetDone c a false) s
           ((s.dev.modArr c a fun m => { m.cleared with failures := [] }).retireArr c a E_ARRAY_CHAIN)))

/-- R321–R323, R334: a request that the channel may serve now leaves its queue and is charged. READ answers its bytes
and poison to its requester, and to those whose far reads were merged into it (R56); WRITE stores the bytes its mask
names and no other; ATOMIC stores the new value and answers the prior one. The model's choices: log entry 28. -/
def Obligations.HbmRequestsAreServed : Prop :=
  ∀ (k p i : Nat) (s : State) (r : MemReq), s.dev.live = true → k < 32 → p < 31 → (s.dev.chan k p).queue[i]? = some r →
    s.dev.mayServe k p i r = true → s.dev.tests.running = [] →
    let ecc : EccFind := { corrected := [], uncorrectable := [] }
    let d := (s.dev.charge k p r).modChan k p fun c => { c with queue := dropAt c.queue i }
    let at0 := memKey k p r.off
    (r.kind = .read →
      answers (.read k p i ecc) s (((d.count (bankStack k) 0x41 r.units none r.part).respond r.src
        (getBytes s.dev.mem.data (memKey k p (r.off + r.lead)) r.len) (s.dev.poisonBitsAt k p (r.off + r.lead) r.len) E_OK).fold
          r.riders fun s x => s.readBack k p x.src x.off x.len)) ∧
    (r.kind = .write → (s.dev.chan k p).st ≠ .dead → (partWords r.off r.size r.mask).any (s.dev.poisoned k p ·) = false →
      ∃ d' : Dev, answers (.write k p i ecc) s (d'.respond r.src [] 0 E_OK) ∧
        ∀ a, getByte d'.mem.data a =
          if at0 ≤ a ∧ a < at0 + r.data.length ∧ r.mask.testBit (a - at0) = true then r.data.getD (a - at0) 0
          else getByte s.dev.mem.data a) ∧
    ((r.kind = .fetchAdd ∨ r.kind = .swap ∨ r.kind = .compareSwap) → s.dev.poisonBits k p r = 0 →
      let prior : Word := BitVec.ofNat 64 (ofBytes (getBytes s.dev.mem.data at0 8))
      let new := match r.kind with
        | .fetchAdd => prior + r.op1
        | .swap => r.op1
        | _ => if prior = r.op1 then r.op2 else prior
      ∃ d' : Dev, answers (.atomic k p i ecc) s (d'.answerAtomic r prior E_OK) ∧
        getBytes d'.mem.data at0 8 = toBytes 8 new.toNat ∧
        ∀ a, (a < at0 ∨ at0 + 8 ≤ a) → getByte d'.mem.data a = getByte s.dev.mem.data a)

/-- R496, R498: ACCUM adds each contribution to its word and answers E_OK; one whose line holds a poisoned word is
refused and changes no byte. R137: one that the AXA region table in force at its application refuses is refused with its
code. R496: one word of an ACCUM: its 16 bytes hold the sum modulo 2^128, its flags are ORed, and no other byte changes.
R494: the conversion of a contribution to a fixed-point integer at anchor A: NaN and infinities raise SPECIAL, a
magnitude of 2^(A + 14) or more raises RANGE, and every other value is truncated toward zero at 2^(A − 112). -/
def Obligations.AccumulationIsExact : Prop :=
  (∀ (k p i : Nat) (s : State) (r : MemReq), s.dev.live = true → k < 32 → p < 31 → (s.dev.chan k p).queue[i]? = some r →
     s.dev.mayServe k p i r = true → s.dev.tests.running = [] → r.kind = .accum →
     let ecc : EccFind := { corrected := [], uncorrectable := [] }
     let d := (s.dev.charge k p r).modChan k p fun c => { c with queue := dropAt c.queue i }
     (∀ q code, d.accumBad r = some (q, code) → answers (.accum k p i ecc) s (d.refuse q code)) ∧
     (d.accumBad r = none → s.dev.poisonBits k p r = 0 →
       answers (.accum k p i ecc) s
         (((((d.fold ((r.acc.map accWords).getD []) fun s w => s.accWord k p r.off w).modStk k fun b =>
           { b with accums := b.accums + 1 }).recordTag k r 0).count (bankStack k) 0x43 1 none r.part).respond r.src [] 0 E_OK)) ∧
     (d.accumBad r = none → s.dev.poisonBits k p r ≠ 0 → answers (.accum k p i ecc) s (d.respond r.src [] 0 E_MEM_POISON))) ∧
  (∀ (d : Dev) (k p off j : Nat) (v : BitVec 128) (f : BitVec 2),
     let d' := d.accWord k p off (j, v, f)
     let a := off + 16 * j
     ofBytes (d'.memRead k p a 16) = (ofBytes (d.memRead k p a 16) + v.toNat) % 2 ^ 128 ∧
     d'.axaFlags k p a = d.axaFlags k p a ||| f ∧
     (∀ b, (b < memKey k p a ∨ memKey k p a + 16 ≤ b) → getByte d'.mem.data b = getByte d.mem.data b) ∧
     (Memory.wf d.mem.data = true → Memory.wf d'.mem.data = true)) ∧
  (∀ (ty code : Nat) (anchor : Int), ty < 4 → -512 ≤ anchor → anchor < 512 →
     (contrib ty code = none → convert ty code anchor = (0, 2)) ∧
     (∀ neg m e, contrib ty code = some (neg, m, e) →
       let v : ℚ := (m : ℚ) * (2 : ℚ) ^ e
       ((2 : ℚ) ^ (anchor + 14) ≤ v → convert ty code anchor = (0, 1)) ∧
       (v < (2 : ℚ) ^ (anchor + 14) →
         let n : Int := ⌊v * (2 : ℚ) ^ (112 - anchor)⌋
         convert ty code anchor = (BitVec.ofInt 128 (if neg then -n else n), 0))))

/-- R501: what a set of contributions leaves in the words and their flags does not depend on their order of arrival. -/
def Obligations.AccumulationIsOrderIndependent : Prop :=
  ∀ (d : Dev) (k p off : Nat) (l l' : List (Nat × BitVec 128 × BitVec 2)), l.Perm l' →
    let after := fun (l : List (Nat × BitVec 128 × BitVec 2)) => d.fold l fun s w => s.accWord k p off w
    (∀ a, getByte (after l).mem.data a = getByte (after l').mem.data a) ∧
    ∀ a, (after l).axaFlags k p a = (after l').axaFlags k p a

/-- R501, R503, R504: combining never changes a result: applying the one SUMMED packet of an entry that absorbed packets
leaves the words and flags that applying the packets themselves leaves. -/
def Obligations.CombiningNeverChangesAResult : Prop :=
  ∀ (d : Dev) (k p off i dev dom : Nat) (route : BitVec 39) (p0 : Packet) (a0 : AccPayload) (l : List (Packet × AccPayload)),
    let entry := l.foldl (fun e x => e.absorb x.1 x.2) (Comb.start p0 a0)
    let sum := ((entry.summed i dev dom route p0).acc.map accWords).getD []
    let one := d.fold sum fun s w => s.accWord k p off w
    let each := d.fold (l.flatMap fun x => accWords x.2) fun s w => s.accWord k p off w
    (∀ a, getByte one.mem.data a = getByte each.mem.data a) ∧ ∀ a, one.axaFlags k p a = each.axaFlags k p a

/-- R326, R327: two different addresses of one interleave set lie at different places of the channels. -/
def Obligations.InterleaveIsOneToOne : Prop :=
  ∀ (d : Dev) (a b : Nat) (e : ISet × Nat) (t : Nat × Nat × Nat), d.setAt a = some e → d.setAt b = some e →
    d.chanOf a = some t → d.chanOf b = some t → a = b

/-- R321, R338–R341, R345: MGMT retrains, scrubs, migrates, sets the steep level or self-refresh of a stack; a
retraining turn takes the channel at which the list stands, unless a hold, a reset of its stack or a latency state P3 or
P4 (R649) defers it; a retrain that ends returns the channel to work, and the second in a row that fails kills it. R341,
R358: a hold of 1–65,535 ms begins with the write of MEM_RETRAIN and ends with it at 0 or when its time is over; a
deferred turn then runs. R335, R337, R342–R345, R357: a scrub pass counts what it corrects and poisons what it cannot; a
migration begins at the threshold or by MIG_CTL and ends on the standby, with the words that its copy found
uncorrectable poisoned; a first command watchdog retrains the channel, a second within 1 s kills it. R342–R344: a
migration takes the stack's free standby, and the switch gives the logical channel the standby's physical channel,
returns it to work and leaves the stack without one. The model's choices: log entries 9, 12, 28. -/
def Obligations.ChannelMaintenance : Prop :=
  (∀ (k p : Nat) (s : State), s.dev.live = true → k < 32 → p < 31 →
     (s.dev.chanThere k = true → (s.dev.stk k).inReset = false →
       ((s.dev.chan k p).st = .active →
         answers (.mgmt k (.retrain p)) s ((s.dev.modChan k p fun c => { c with st := .retraining }).mgmtAck k)) ∧
       answers (.mgmt k (.scrub p)) s ((s.dev.modStk k fun b => { b with scrubs := addNew b.scrubs p }).mgmtAck k) ∧
       (∀ l, answers (.mgmt k (.steep l)) s ((s.dev.modStk k fun b => { b with steep := min 15 l, steepAt := 10 * b.temp }).mgmtAck k)) ∧
       (∀ on, answers (.mgmt k (.selfRefresh on)) s ((s.dev.modStk k fun b => { b with selfRefresh := on }).mgmtAck k)) ∧
       answers (.mgmt k (.migrate p)) s ((s.dev.migrate k p).mgmtAck k)) ∧
     (s.dev.ready = true → 3 ≤ s.dev.pow.lat → answers .retrainTurn s s.dev) ∧
     (s.dev.ready = true → s.dev.pow.lat < 3 → s.dev.img.turns[s.dev.img.turnAt]? = some (k, p) →
       (s.dev.mem.held = true → answers .retrainTurn s (s.dev.modChan k p fun c => { c with deferred := true })) ∧
       (s.dev.mem.held = false → (s.dev.stk k).selfRefresh = false → (s.dev.stk k).inReset = true → answers .retrainTurn s s.dev) ∧
       (s.dev.mem.held = false → (s.dev.stk k).selfRefresh = false → (s.dev.stk k).inReset = false → (s.dev.chan k p).st = .active →
         ∃ d : Dev, answers .retrainTurn s d ∧ (d.chan k p).st = .retraining ∧
           d.img.turnAt = (if s.dev.img.turnAt + 1 < s.dev.img.turns.length then s.dev.img.turnAt + 1 else 0))) ∧
     ((s.dev.chan k p).st = .retraining →
       answers (.retrainDone k p true) s (s.dev.modChan k p fun c => { c with st := .active, retrainFails := 0 }) ∧
       ((s.dev.chan k p).retrainFails = 0 →
         answers (.retrainDone k p false) s (s.dev.modChan k p fun c => { c with st := .active, retrainFails := c.retrainFails + 1 })) ∧
       ((s.dev.chan k p).retrainFails ≠ 0 → answers (.retrainDone k p false) s (s.dev.killChan k p)))) ∧
  (∀ (port : Nat) (v : Word) (s : State), s.dev.live = true → port < 2 →
     (fldN v 0 16 ≠ 0 → answers (.memRetrainHold port v) s
       { s.dev with mem := { s.dev.mem with hold := BitVec.ofNat 16 v.toNat, held := true } }) ∧
     (s.dev.mem.held = true → (∀ kp, s.dev.img.turns[s.dev.img.turnAt]? = some kp → (s.dev.chan kp.1 kp.2).deferred = false) →
       answers .memRetrainHoldEnd s { s.dev with mem := { s.dev.mem with held := false } } ∧
       (fldN v 0 16 = 0 → answers (.memRetrainHold port v) s
         { s.dev with mem := { s.dev.mem with hold := 0, held := false } })) ∧
     (∀ k p, s.dev.mem.held = true → s.dev.img.turns[s.dev.img.turnAt]? = some (k, p) → (s.dev.chan k p).deferred = true →
       (s.dev.chan k p).st ≠ .migrating →
       answers .memRetrainHoldEnd s (({ s.dev with mem := { s.dev.mem with held := false } } : Dev).turn))) ∧
  (∀ (k p : Nat) (s : State), s.dev.live = true → k < 32 → p < 31 → s.dev.chanThere k = true →
     (∀ n, 0 < n → (s.dev.chan k p).st ≠ .dead →
       answers (.scrubPass k p n []) s ((s.dev.modChan k p fun c =>
         { c with ceTimes := List.replicate n s.dev.clock ++ c.ceTimes }).count (bankStack k) 0x47 n |>.scrubEnds k p)) ∧
     (∀ w, w < chanWords → (s.dev.chan k p).st ≠ .dead → s.dev.poisoned k p w = false →
       answers (.scrubPass k p 0 [w]) s (((s.dev.setPoison k p w true).logE E_MEM_UNCORR (32 * k + p)).scrubEnds k p)) ∧
     ((s.dev.chan k p).st ≠ .migrating → fldN (s.dev.migCtl k) 0 16 ≤ s.dev.ceHour k p →
       answers (.migrateThreshold k p) s (s.dev.migrate k p)) ∧
     (∀ port, port < 2 → s.dev.ready = true → s.dev.stackFitted k = true → (s.dev.stk k).migStart = none →
       (s.dev.stackPortOk port k = true →
         answers (.migStart port k p) s
           (((s.dev.setReg (0x30 + k) 0x20 (BitVec.ofNat 64 (fldN (s.dev.migCtl k) 0 16 + p * 2 ^ 16)) 0x200).modStk k fun b =>
             { b with migStart := some p }).migrate k p)) ∧
       (s.dev.stackPortOk port k = false → answers (.migStart port k p) s (s.dev.logE E_HOST_NOT_OWNER k))) ∧
     (∀ q n, (s.dev.stk k).migrating = some (q, n) → (s.dev.stk k).inReset = false →
       answers (.migrateDone ⟨k, []⟩) s (s.dev.toStandby k q) ∧
       (∀ w, w < chanWords → s.dev.poisoned k q w = false →
         answers (.migrateDone ⟨k, [w]⟩) s (((s.dev.setPoison k q w true).logE E_MEM_UNCORR (32 * k + q)).toStandby k q))) ∧
     ((s.dev.chan k p).queue ≠ [] → (s.dev.chan k p).st = .active → (s.dev.stk k).inReset = false →
       s.dev.windowOpen 3 (32 * k + p) = false →
       ((s.dev.chan k p).wdogAt = none →
         answers (.cmdWatchdog k p) s (((s.dev.logE E_MEM_CMD_TIMEOUT (32 * k + p)).modChan k p fun c =>
           { c with wdogAt := some s.dev.clock }).modChan k p fun c => { c with st := .retraining })) ∧
       (∀ t, (s.dev.chan k p).wdogAt = some t → s.dev.clock < t + 1000 →
         answers (.cmdWatchdog k p) s ((s.dev.logE E_MEM_CMD_TIMEOUT (32 * k + p)).killChan k p)))) ∧
  (∀ (d : Dev) (k p : Nat),
     ((d.stk k).standbyFree = true → (d.stk k).migrating = none → (d.chan k p).st ≠ .dead →
       ((d.migrate k p).chan k p).st = .migrating ∧ ((d.migrate k p).stk k).migrating = some (p, 0)) ∧
     ((d.stk k).standbyFree = false → (d.migrate k p).chan k p = d.chan k p) ∧
     ((d.toStandby k p).physOf k p = (d.stk k).standby ∧ ((d.toStandby k p).chan k p).st = .active ∧
       ((d.toStandby k p).stk k).standbyFree = false))

/-- R55, R58, R61, R67, R70, R73–R79: the start from power-good on: each step that completes leads to the next, or halts
the start with the code of what it found; a step over its time halts it. The model's choices: log entries 11, 12, 16,
17. -/
def Obligations.StartGoesThroughItsSteps : Prop :=
  ∀ (s : State),
    (∀ part rev, s.dev.boot.powered = false →
      ∃ d : Dev, answers (.powerGood part rev) s d ∧ d.boot.powered = true ∧ d.boot.step = 1 ∧ d.boot.epoch = 1 ∧ d.boot.part = part ∧
        d.boot.pkgRev = rev ∧ d.mem = {} ∧ d.cores = [] ∧ d.boot.accs = [] ∧ d.boot.log = [] ∧ d.rcv = {}) ∧
    (s.dev.live = true → s.dev.boot.halted = false → s.dev.rcv.hung = false → s.dev.boot.signing = none →
      let halts := fun (c : Instr) (code : Code) => ∃ d : Dev, answers c s d ∧ d.boot.halted = true ∧ d.boot.code = code ∧
        d.boot.step = s.dev.boot.step ∧ (d.rcv.log.map (·.code)).head? = some code
      (∀ l, s.dev.boot.step = 1 → answers (.startStepDone (.rom l)) s
        { s.dev with boot := { s.dev.boot with steppings := l, step := 2 } }) ∧
      (∀ a b, s.dev.boot.step = 2 →
        (a.verifies = true ∨ b.verifies = true →
          ∃ d : Dev, answers (.startStepDone (.firmware a b)) s d ∧ d.boot.step = 3 ∧ d.boot.fwSlot = !a.verifies ∧
            d.boot.firmware = some (if a.verifies then a else b)) ∧
        (a.verifies = false → b.verifies = false → halts (.startStepDone (.firmware a b)) E_BOOT_FW_INVALID)) ∧
      (∀ p q, s.dev.boot.step = 3 →
        (chooseRecord s.dev.boot.part p q = none → halts (.startStepDone (.record p q)) E_BOOT_RECORD_INVALID) ∧
        (∀ r second, chooseRecord s.dev.boot.part p q = some (r, second) →
          (recBound r = false → halts (.startStepDone (.record p q)) E_BOOT_RECORD_FOREIGN) ∧
          (recBound r = true → ∃ d : Dev, answers (.startStepDone (.record p q)) s d ∧ d.boot.step = 4 ∧
            d.boot.record = some r ∧
            d.boot.recCopy = second ∧ d.boot.keyOk = r.unwraps ∧ d.pow.modeNow = 2 ∧ d.pow.osc = r.record.oscTrim))) ∧
      (∀ bad fails code, s.dev.boot.step = 4 → compat s.dev.boot.steppings = .error code →
        halts (.startStepDone (.lanes bad fails)) code) ∧
      (∀ bad fails n, s.dev.boot.step = 4 → compat s.dev.boot.steppings = .ok n →
        bad.any (fun r => decide (r < 41) && s.dev.railThere r) = true → halts (.startStepDone (.lanes bad fails)) E_VR_RAIL) ∧
      (∀ bad fails n, s.dev.boot.step = 4 → compat s.dev.boot.steppings = .ok n →
        bad.any (fun r => decide (r < 41) && s.dev.railThere r) = false →
        ∃ d : Dev, answers (.startStepDone (.lanes bad fails)) s d ∧ d.boot.step = 5) ∧
      (s.dev.boot.step = 5 →
        answers (.startStepDone .release) s
          { s.dev with boot := { s.dev.boot with released := 0xF &&& ~~~s.dev.boot.isolated, step := 6 } } ∧
        ∀ die, die < 4 → answers (.dieReleaseTimeout die) s (s.dev.isolateDie die)) ∧
      (∀ b, s.dev.boot.step = 6 → ∃ d : Dev, answers (.startStepDone (.train b)) s d ∧ d.boot.step = 7) ∧
      (∀ c, s.dev.boot.step = 7 → ∃ d : Dev, answers (.startStepDone (.calibrate c)) s d ∧ d.boot.step = 8) ∧
      (s.dev.boot.step = 8 → ∃ d : Dev, answers (.startStepDone .links) s d ∧ d.boot.step = 9 ∧
        d.boot.imgWanted = (s.dev.rec?.map (·.fromHost)).getD false) ∧
      (s.dev.boot.step = 9 → s.dev.boot.imgWanted = false → s.dev.boot.delivered = none →
        (answers (.startStepDone (.image none)) s (s.dev.rejectImage (E_IMG_FORMAT, 0xFF, 0))) ∧
        (∀ f, answers (.startStepDone (.image (some f))) s (match s.dev.checkImage (readImage f) with
          | some v => s.dev.rejectImage v
          | none => s.dev.applyImage (readImage f) false))) ∧
      (∀ port i, s.dev.boot.step = 9 → s.dev.boot.delivered = some (port, i) →
        let s1 : Dev := { s.dev with boot := { s.dev.boot with delivered := none } }
        (∀ v, s1.checkImage i = some v → answers (.startStepDone .checked) s ((s1.rejectImage v).mboxEnd port v.1)) ∧
        (s1.checkImage i = none → answers (.startStepDone .checked) s ((s1.applyImage i true).mboxEnd port E_OK))) ∧
      (∀ d : Dev, d.boot.attnHeld = false → d.readyStep.boot.step = 10) ∧
      (0 < s.dev.boot.step → s.dev.boot.step < 10 → ¬(s.dev.boot.step = 9 ∧ s.dev.boot.imgWanted = true) → halts .bootStepTimeout E_BOOT_STEP_TIMEOUT))

/-- R65, R66, R696: configuration requests are answered with a retry until step 2 has ended; PERST_N drops its port's
link and masks every vector; the later of two released on a halted start begins step 1 again. R70, R117, R561, R562: GO
with operands in range, at a time when the start accepts the object, fetches it; other requests end with their code;
what has been fetched is checked, and applied or refused. The model's choices: log entries 11, 16, 43. -/
def Obligations.ConfigurationPerstAndMailbox : Prop :=
  (∀ (s : State) (port : Nat), port < 2 →
     (s.dev.live = true → 2 ≤ s.dev.boot.step → (s.dev.hport port).up = true → s.dev.perst port = false →
       let ok := decide (3 ≤ s.dev.boot.step) || s.dev.boot.halted
       answers (.configRequest ⟨port, none⟩) s (s.dev.out (.config port ok)) ∧
       (∀ b, ok = false → answers (.configRequest ⟨port, some b⟩) s (s.dev.out (.config port false))) ∧
       (∀ b, ok = true →
         answers (.configRequest ⟨port, some b⟩) s ((s.dev.setPower port b).out (.config port true)))) ∧
     (s.dev.pinsTaken = false →
       (∃ d : Dev, answers (.perstAssert port) s d ∧ d.perst port = true ∧ (d.hport port).up = false ∧ (d.hport port).unmasked = [] ∧
         d.hport (1 - port) = s.dev.hport (1 - port) ∧ d.boot.perstBoth = (s.dev.boot.perstBoth || s.dev.perst (1 - port))) ∧
       (s.dev.boot.perstBoth = false ∨ s.dev.perst (1 - port) = true →
         answers (.perstDeassert port) s (s.dev.setPerst port false)) ∧
       (s.dev.boot.perstBoth = true → s.dev.perst (1 - port) = false → s.dev.live = true → s.dev.boot.halted = true →
         ∃ d : Dev, answers (.perstDeassert port) s d ∧ d.boot.step = 1 ∧ d.boot.halted = false ∧ d.boot.epoch = s.dev.boot.epoch + 1 ∧
           d.boot.log = s.dev.boot.log ∧ d.mem.data = s.dev.mem.data ∧ d.rcv.capsule = s.dev.rcv.capsule))) ∧
  (∀ (s : State) (port : Nat), s.dev.live = true → port < 2 →
     let fetches := fun (c : Instr) (d : Dev) =>
       answers c s (d.out (.hostFetch port (s.dev.reg (mboxBlock port) 0) (fldN (s.dev.reg (mboxBlock port) 8) 0 32)))
     ((s.dev.hport port).mbox.busy = false → (s.dev.hport (1 - port)).mbox.busy = true →
       answers (.mboxBootFirmware port) s ((s.dev.modMbox port fun m => { m with kind := 1 }).mboxEnd port E_IMG_BUSY) ∧
       answers (.mboxWholeImage port) s ((s.dev.modMbox port fun m => { m with kind := 2 }).mboxEnd port E_IMG_BUSY)) ∧
     ((s.dev.hport port).mbox.busy = false → (s.dev.hport (1 - port)).mbox.busy = false →
       (s.dev.wantsFw port = true → s.dev.mboxArgs port 0x800000 = true →
         fetches (.mboxBootFirmware port) (s.dev.modMbox port fun m => { m with kind := 1, go := true, busy := true, code := E_OK })) ∧
       (s.dev.wantsImg = true → s.dev.mboxArgs port 0x2000000 = true →
         fetches (.mboxWholeImage port)
           { s.dev.modMbox port (fun m => { m with kind := 2, go := true, busy := true, code := E_OK }) with
             img := { s.dev.img with st := 1 } }) ∧
       (s.dev.wantsFw port = false →
         answers (.mboxBootFirmware port) s ((s.dev.modMbox port fun m => { m with kind := 1 }).mboxEnd port E_MBOX_BAD)) ∧
       (s.dev.wantsImg = false →
         answers (.mboxWholeImage port) s ((s.dev.modMbox port fun m => { m with kind := 2 }).mboxEnd port E_MBOX_BAD))) ∧
     ((s.dev.hport port).mbox.busy = true →
       (∀ f, (s.dev.hport port).mbox.kind = 1 → s.dev.wantsFw port = true →
         (f.verifies = false → answers (.mboxFetchDone port (.firmware f)) s (s.dev.mboxEnd port E_BOOT_FW_INVALID)) ∧
         (f.verifies = true → ∃ d : Dev, answers (.mboxFetchDone port (.firmware f)) s d ∧ d.boot.step = 3 ∧ d.boot.halted = false ∧
           d.boot.firmware = some f ∧ (d.hport port).mbox.code = E_OK)) ∧
       (∀ f, (s.dev.hport port).mbox.kind = 2 → s.dev.wantsImg = true →
         answers (.mboxFetchDone port (.image f)) s
           { s.dev with boot := { s.dev.boot with imgWanted := false, delivered := some (port, readImage f) } })))

/-- R15, R16, R19, R560, R563, R668, R678, R679, R704: what a write reaches: a plain register keeps the bits outside its
fields and outside the half a 32-bit write addresses; a core block answers the port that serves its partition; a
doorbell page of a port takes STAGE; an access of another size or alignment is logged. The model's choices: log entries
34, 48. -/
def Obligations.RegisterWrites : Prop :=
  ∀ (s : State) (port : Nat), s.dev.live = true → port < 2 →
    (∀ off size v field reset, off < 2 ^ 20 → (size = 4 ∨ size = 8) → off % size = 0 → hubPlain (off / 8 * 8) = some (field, reset) →
      let w := wbits off size v
      let old := s.dev.reg 0 (off / 8 * 8) reset
      answers (.csrWrite port 0 off size v) s
        (s.dev.setReg 0 (off / 8 * 8) ((old &&& ~~~(w.mask &&& field)) ||| (w.val &&& w.mask &&& field)) reset)) ∧
    (∀ c off v, s.dev.ready = true → c < 32 → off < 2 ^ 20 → off % 8 = 0 → s.dev.coreOn c = true →
      s.dev.corePortOk port c = false →
      answers (.csrWrite port (0x10 + c) off 8 v) s (s.dev.wakeEvent.logE E_HOST_NOT_OWNER c)) ∧
    (∀ q o size v, q < 4096 → (size = 4 ∨ size = 8) → o % size = 0 → o + size ≤ 0x40 → s.dev.doorOpen port q = true →
      answers (.csrWrite port (0x80 + q / 256) (4096 * (q % 256) + o) size v) s
        (s.dev.modQueue q fun k => { k with stage := BitVec.ofNat 512 (setBits k.stage.toNat (8 * o) (8 * size) v.toNat) })) ∧
    (∀ isWrite size,
      answers (.csrAccessBad port isWrite size) s
        ((s.dev.when (!isWrite) fun d => d.out (.barRead port (List.replicate size 0xFF))).logE E_CSR_ACCESS port)) ∧
    (s.dev.ready = true →
      (∀ bank j v kind n, bank < 83 → j < 32 → j < n → s.dev.bankShape bank = some (kind, n) →
        (s.dev.bankPortOk port bank = true → sourceOk kind (s.dev.boot.compatClass == 2) (fldN (v &&& selMask) 0 8) = true →
          answers (.evcSel port bank j v) s (s.dev.modCtr bank j fun c => { c with sel := v &&& selMask })) ∧
        (s.dev.bankPortOk port bank = false →
          answers (.evcSel port bank j v) s (s.dev.logE E_HOST_NOT_OWNER (bank - 5)))) ∧
      answers (.snapArm port) s { s.dev with evc := { s.dev.evc with arm := true } } ∧
      answers (.snapNow port) s s.dev.snap)

/-- R78, R80, R81, R83, R575: LOG_READ writes up to 64 entries from its index on and completes; QUOTE waits for its
turn, or is signed at once where no other is; extensions asked for meanwhile wait, and are made in their order once the
signature is there. The model's choices: log entries 7, 11. -/
def Obligations.QuotesAndTheLog : Prop :=
  ∀ (s : State), s.dev.live = true →
    (∀ q e h l, q < 4096 → s.dev.mgmtHead q 3 = some e → (s.dev.queue q).entries = h :: l →
      let out := (s.dev.boot.log.drop (ebytes e 32 4)).take 64
      let d := s.dev.markStarted q h.seq
      answers (.logRead q) s ((d.outBuf (d.actPart (.queue q)) (BitVec.ofNat 64 (eArg e)) (out.flatMap MeasEntry.bytes)).answer (.queue q)
        E_OK (BitVec.ofNat 64 out.length))) ∧
    (∀ q e h l, q < 4096 → s.dev.mgmtHead q 2 = some e → (s.dev.queue q).entries = h :: l →
      let d := s.dev.markStarted q h.seq
      let r : QuoteReq := { iss := .queue q, part := d.actPart (.queue q), nonce := BitVec.ofNat 256 (ebytes e 32 32),
                            buf := BitVec.ofNat 64 (eArg e) }
      (s.dev.boot.keyOk = false → answers (.quote q) s (d.answer (.queue q) E_KEY_UNWRAP)) ∧
      (s.dev.boot.keyOk = true → s.dev.boot.signing.isSome = true → s.dev.boot.quotes.length < 16 →
        answers (.quote q) s { d with boot := { d.boot with quotes := s.dev.boot.quotes ++ [r] } }) ∧
      (s.dev.boot.keyOk = true → s.dev.boot.signing.isSome = true → 16 ≤ s.dev.boot.quotes.length →
        answers (.quote q) s (d.answer (.queue q) E_QUOTE_BUSY)) ∧
      (s.dev.boot.keyOk = true → s.dev.boot.signing = none → s.dev.boot.quotes = [] →
        answers (.quote q) s { d with boot := { d.boot with signing := some (r, s.dev.boot.log.length) } })) ∧
    (∀ sig r n, s.dev.boot.signing = some (r, n) →
      let d := (s.dev.outBuf r.part r.buf (s.dev.quoteBody r n ++ beBytes 384 sig.toNat)).answer r.iss E_OK
      answers (.quoteSigned sig) s
        (({ d with boot := { d.boot with signing := none, extWait := [] } }.fold d.boot.extWait fun s m => s.extendNow m).nextQuote)) ∧
    (∀ (acc : Nat) (event : BitVec 8) (version : BitVec 32) (digest : BitVec 256), s.dev.boot.signing.isSome = true →
      (s.dev.extend acc event version digest).boot =
        { s.dev.boot with extWait := s.dev.boot.extWait ++ [({ acc, event, version, digest } : MeasEntry)] }) ∧
    (∀ (acc : Nat) (event : BitVec 8) (version : BitVec 32) (digest : BitVec 256), s.dev.boot.signing = none → s.dev.boot.log.length < 4096 →
      let t := s.dev.extend acc event version digest
      look 0 t.boot.accs acc = sha256 (beBytes 32 (look 0 s.dev.boot.accs acc).toNat ++ beBytes 32 digest.toNat) ∧
      (∀ a, a ≠ acc → look 0 t.boot.accs a = look 0 s.dev.boot.accs a) ∧
      t.boot.log = s.dev.boot.log ++ [({ acc, event, version, digest } : MeasEntry)])

/-- R87, R88, R93–R98, R575: a test of a unit that is there becomes pending, one request for each unit and kind; an
owner grants a window, which another partition may not; a test that runs completes with what it found, or stops with its
window. The model's choices: log entry 37. -/
def Obligations.TestRequestsAndGrants : Prop :=
  ∀ (s : State), s.dev.live = true →
    (∀ port v, port < 2 →
      let kind := fldN v 0 3
      let unit := fldN v 8 10
      (s.dev.ready = true → s.dev.testUnit kind unit = true → s.dev.testPending kind unit = false →
        answers (.testReq port v) s (({ s.dev with tests := { s.dev.tests with
          pending := s.dev.tests.pending ++ [{ kind, unit }] } } : Dev).testMessage kind unit)) ∧
      (s.dev.ready = true → s.dev.testUnit kind unit = true → s.dev.testPending kind unit = true → answers (.testReq port v) s s.dev) ∧
      (s.dev.testUnit kind unit = false → answers (.testReq port v) s (s.dev.logE E_TEST_DROPPED unit)) ∧
      ((s.dev.testOwners kind unit).any (s.dev.portOf · == port) = true → fldN v 32 16 ≠ 0 →
        answers (.testGrant port v) s { s.dev.wakeEvent with tests := { s.dev.tests with
          grants := s.dev.tests.grants.filter (fun g => !(g.1 == kind && g.2.1 == unit)) ++ [(kind, unit, fldN v 32 16)] } }) ∧
      ((s.dev.testOwners kind unit).any (s.dev.portOf · == port) = false →
        answers (.testGrant port v) s (s.dev.logE E_TEST_NOT_OWNER unit))) ∧
    (∀ q e h l, q < 4096 → (s.dev.queue q).entries = h :: l →
      let d := s.dev.markStarted q h.seq
      let iss : Issuer := .queue q
      let kind := ebytes e 32 1
      let unit := ebytes e 34 2
      1 ≤ kind → kind ≤ 5 →
      (s.dev.mgmtHead q 4 = some e → d.testUnit kind unit = true → (d.issHfm iss = true ∨ d.testIssuerOwns iss kind unit = true) →
        answers (.mgmtTestReq q) s ((d.testAsk kind unit).answer iss E_OK)) ∧
      (s.dev.mgmtHead q 5 = some e →
        (d.testIssuerOwns iss kind unit = true →
          answers (.mgmtTestGrant q) s ((d.grant kind unit (ebytes e 36 2)).answer iss E_OK)) ∧
        (d.testIssuerOwns iss kind unit = false →
          answers (.mgmtTestGrant q) s ((d.logE E_TEST_NOT_OWNER unit).answer iss E_TEST_NOT_OWNER)))) ∧
    (∀ kind unit, kind < 6 →
      (s.dev.testPending kind unit = true → s.dev.testRunning kind unit = false → s.dev.testUnit kind unit = true →
        s.dev.testHeld kind unit = false → s.dev.testIdle kind unit = true →
        answers (.testIdleStart kind unit) s (s.dev.startTest kind unit false)) ∧
      (s.dev.testGranted kind unit = true → answers (.testWindowEnd kind unit) s (s.dev.grantEnd kind unit)) ∧
      (∀ r, s.dev.testRunning kind unit = true → answers (.testComplete kind unit r) s (s.dev.testDone kind unit r)))

/-- R95, R97: a test request whose unit is not there is ignored and logged with E_TEST_DROPPED, whether a write of
HUB.TEST_REQ or a management command makes it; a grant of another partition than the unit's owner is ignored and logged
with E_TEST_NOT_OWNER. -/
def Obligations.AbsentTestUnitsAndForeignGrants : Prop :=
  ∀ (s : State), s.dev.live = true →
    (∀ port v, port < 2 →
      (s.dev.testUnit (fldN v 0 3) (fldN v 8 10) = false →
        answers (.testReq port v) s (s.dev.logE E_TEST_DROPPED (fldN v 8 10))) ∧
      ((s.dev.testOwners (fldN v 0 3) (fldN v 8 10)).any (s.dev.portOf · == port) = false →
        answers (.testGrant port v) s (s.dev.logE E_TEST_NOT_OWNER (fldN v 8 10)))) ∧
    (∀ q e d, q < 4096 → 1 ≤ ebytes e 32 1 → ebytes e 32 1 ≤ 5 →
      (s.dev.runsMgmt q 4 e d → d.testUnit (ebytes e 32 1) (ebytes e 34 2) = false →
        answers (.mgmtTestReq q) s ((d.logE E_TEST_DROPPED (ebytes e 34 2)).answer (.queue q) E_TEST_DROPPED)) ∧
      (s.dev.runsMgmt q 5 e d → d.testIssuerOwns (.queue q) (ebytes e 32 1) (ebytes e 34 2) = false →
        answers (.mgmtTestGrant q) s ((d.logE E_TEST_NOT_OWNER (ebytes e 34 2)).answer (.queue q) E_TEST_NOT_OWNER))) ∧
    (∀ k p c a l e f, p < 32 → a < 2 → f < 8 →
      s.dev.testUnit 3 (32 * k + 31) = false ∧
      (s.dev.stackFitted k = false → s.dev.testUnit 3 (32 * k + p) = false) ∧
      (s.dev.coreUsable c = false → s.dev.testUnit 1 c = false ∧ s.dev.testUnit 2 (2 * c + a) = false) ∧
      (linkOk l = false → s.dev.testUnit 4 l = false) ∧
      (s.dev.engFitted e = false → s.dev.testUnit 5 (8 * e + f) = false))

/-- R25, R26, R33, R36, R41, R51: a flit is taken up on an active bundle of a link that carries flits, where its sender
has a credit or sends it again: the receiver and the replay buffer change as `DLink.arrive` says, CRC failures and
replays are counted at the bundle, and a flit that fails its CRC is asked for again. A lane in use that recorded more
than 16 errors within 1 ms is swapped and the flits in flight are replayed; the bundle is active again once it has
retrained. The margin check in service is of class 2. The path of a CD–CD link changes once nothing crosses the old one.
R33, R34: the lane that replaces a failing one is the lowest that is neither in use nor excluded, and the mask keeps its
other lanes; the receiver of the bundle's direction holds its credits. R25, R365: of a flit that arrives whole, exactly
the flits that follow without a gap are delivered, once each and in order. R25: what a flit leaves of its link: taken up
before, nothing; not whole, it is to come again and stays in the replay buffer; whole and next in order, it is delivered
and leaves the buffer; a replay carries what the buffer holds. The model's choices: log entry 27. -/
def Obligations.D2dLinksInService : Prop :=
  (∀ (s : State) (l dir b : Nat), s.dev.live = true → linkOk l = true → dir < 2 → b < 28 →
     let k := s.dev.link l
     let u := s.dev.bundle l dir b
     (∀ seq ok errs flit, errs.all (· < 64) = true → s.dev.testRunning 4 l = false → s.dev.fab.auditing = [] →
       u.st ≠ .active ∨ s.dev.linkQuiet l = true ∨ k.maySend l dir seq = false →
       answers (.d2dFlitReceive l dir b seq ⟨ok, errs⟩ flit) s s.dev) ∧
     (∀ seq ok errs flit, errs.all (· < 64) = true → s.dev.testRunning 4 l = false →
       u.st = .active → s.dev.linkQuiet l = false → k.maySend l dir seq = true →
       ∃ d : Dev, answers (.d2dFlitReceive l dir b seq ⟨ok, errs⟩ flit) s d ∧
         { d.link l with bundles := k.bundles } = k.arrive dir seq ok flit ∧
         d.bundle l dir b = { u.countErrs s.dev.clock errs with
           crcErr := if ok then u.crcErr else sat16 u.crcErr
           replay := if k.taken dir seq || k.again dir seq then sat16 u.replay else u.replay } ∧
         d.outbox = s.dev.outbox ++ (if ok then [] else [.replay (.d2d l) dir seq])) ∧
     (∀ lane flying, lane < 68 →
       (u.mask.getLsbD lane = true → u.st = .active → u.laneFails s.dev.clock lane = true →
         answers (.laneSwap l dir b ⟨lane, flying⟩) s (((s.dev.swapLane l dir b lane).loseFlits l dir flying).restartAgree l)) ∧
       (s.dev.swapDue l dir b lane = true →
         answers (.laneSwap l dir b ⟨lane, flying⟩) s (((s.dev.swapLane l dir b lane).loseFlits l dir flying).restartAgree l)) ∧
       (s.dev.swapDue l dir b lane = false → answers (.laneSwap l dir b ⟨lane, flying⟩) s s.dev)) ∧
     (u.st = .swapping →
       answers (.laneSwapDone l dir b) s (s.dev.modBundle l dir b fun u => { u with st := .active, crcErr := 0, replay := 0 })) ∧
     (∀ failing flying, s.dev.boot.compatClass ≠ 2 → answers (.laneMarginLive l dir b ⟨failing, flying⟩) s s.dev) ∧
     (∀ failing flying, s.dev.boot.compatClass = 2 → u.st = .active → s.dev.linkQuiet l = false →
       let d := s.dev.fold (diesOf l) fun s n => s.count (bankDie n) 0x81
       let lanes := (List.range 68).filter fun i => failing.getLsbD i && u.mask.getLsbD i
       (lanes = [] → answers (.laneMarginLive l dir b ⟨failing, flying⟩) s d) ∧
       (lanes ≠ [] → answers (.laneMarginLive l dir b ⟨failing, flying⟩) s
         ((d.fold lanes fun s lane => s.marginSwap l dir b lane).loseFlits l dir flying))) ∧
     (l < 4 → s.dev.d2d.changing.contains l = false → ∀ up, k.down = !up → s.dev.d2d.viaHub.contains l = up →
       answers (.pathChange l up) s { s.dev with d2d := { s.dev.d2d with changing := s.dev.d2d.changing ++ [l] } }) ∧
     (s.dev.d2d.changing.contains l = true → s.dev.crossing l = false →
       answers (.pathChangeDone l) s { s.dev with d2d := { s.dev.d2d with
         changing := s.dev.d2d.changing.filter (· ≠ l)
         viaHub := if s.dev.d2d.viaHub.contains l then s.dev.d2d.viaHub.filter (· ≠ l) else s.dev.d2d.viaHub ++ [l] } })) ∧
  (∀ (d : Dev) (l dir b lane : Nat), lane < 68 → dir < 2 → b < 32 →
     let u := d.bundle l dir b
     let free := fun i => !u.mask.getLsbD i && !(d.badLanes l dir b).getLsbD i && i != lane
     let u' := (d.swapLane l dir b lane).bundle l dir b
     (∀ i, i < 68 → free i = true → (∀ j, j < i → free j = false) →
       u'.st = .swapping ∧ u'.excl = setBit u.excl lane ∧ ((d.swapLane l dir b lane).link l).credHeld dir = true ∧
         ∀ j, j < 68 → u'.mask.getLsbD j = (decide (j = i) || (u.mask.getLsbD j && j != lane)))) ∧
  (∀ (r : Rx) (seq : Nat) (flit : BitVec 1024),
     (seq < r.next → (r.receive seq true flit).next = r.next ∧ (r.receive seq true flit).delivered = r.delivered) ∧
     (r.next < seq → r.held.any (·.1 == r.next) = false →
       (r.receive seq true flit).next = r.next ∧ (r.receive seq true flit).delivered = r.delivered) ∧
     (seq = r.next → r.held.any (·.1 == r.next + 1) = false → (∀ e ∈ r.held, r.next < e.1) →
       (r.receive seq true flit).next = r.next + 1 ∧ (r.receive seq true flit).delivered = r.delivered ++ [flit]) ∧
     (r.receive seq false flit).delivered = r.delivered) ∧
  (∀ (k : DLink) (dir seq : Nat) (ok : Bool) (flit : BitVec 1024), dir < 2 →
     let k' := k.arrive dir seq ok flit
     (k.taken dir seq = true → k' = k) ∧
     (k.taken dir seq = false → ok = false →
       (k'.rx dir).delivered = (k.rx dir).delivered ∧ (k'.rx dir).nakked = addNew (k.rx dir).nakked seq ∧ k'.again dir seq = true) ∧
     (k.taken dir seq = false → ok = true → seq = (k.rx dir).next → (∀ e ∈ (k.rx dir).held, seq + 1 < e.1) →
       (k'.rx dir).delivered = (k.rx dir).delivered ++ [k.content dir seq flit] ∧ (k'.rx dir).next = seq + 1 ∧
       k'.again dir seq = false) ∧
     (k'.rx (1 - dir) = k.rx (1 - dir) ∧ k'.tx (1 - dir) = k.tx (1 - dir)))

/-- R37, R43–R46, R53, R54: a retrain asked for starts where none is running and both ends are out of reset, and waits
for the die otherwise; ends that report the same map run on it; ends that differ train on the merged map; ends that
still differ have the reporting dies reset, and the second time the device. A receiver returns its credits once the
replay buffer is empty. R37, R43, R53: a retrain that begins puts every bundle of its link in the lane test, clears what
was excluded in service, and holds the credits of both directions. The model's choices: log entries 27, 52, 54. -/
def Obligations.D2dRetrains : Prop :=
  (∀ (s : State) (l : Nat), s.dev.live = true → linkOk l = true →
     (∀ port, port < 2 → l = fldN (s.dev.hub 0x200) 0 8 →
       let d : Dev := { s.dev with d2d := { s.dev.d2d with retrainFor := addNew s.dev.d2d.retrainFor l } }
       (s.dev.d2dBusy = true → answers (.d2dRetrain port) s (s.dev.logE E_D2D_BUSY l)) ∧
       (s.dev.d2dBusy = false → s.dev.linkFitted l = false → answers (.d2dRetrain port) s s.dev) ∧
       (s.dev.d2dBusy = false → s.dev.linkFitted l = true → s.dev.endInReset l = false →
         answers (.d2dRetrain port) s (d.startRetrain l true)) ∧
       (s.dev.d2dBusy = false → s.dev.linkFitted l = true → s.dev.endInReset l = true →
         answers (.d2dRetrain port) s (d.modLink l fun k => { k with st := .deferred }))) ∧
     ((s.dev.link l).st = .deferred → s.dev.endInReset l = false → s.dev.d2dBusy = false →
       answers (.d2dRetrainDeferredStart l) s (s.dev.startRetrain l true)) ∧
     (∀ tests downA downB, (s.dev.link l).st = .testing ∨ (∃ n, (s.dev.link l).st = .agreeing n) →
       let r := s.dev.endReports l tests downA downB
       (agree l r.2.1 r.2.2 = true → answers (.d2dRetrainReport l tests ⟨downA, downB⟩) s (r.1.agreed l r.2.1)) ∧
       (agree l r.2.1 r.2.2 = false → (r.1.link l).escalated = true → answers (.d2dRetrainReport l tests ⟨downA, downB⟩) s
         ((r.1.logE E_D2D_WIDTH_MISMATCH l).beginDevice E_D2D_WIDTH_ESCALATE false)) ∧
       (agree l r.2.1 r.2.2 = false → (r.1.link l).escalated = false →
         answers (.d2dRetrainReport l tests ⟨downA, downB⟩) s (r.1.disagree l r.2.1 r.2.2))) ∧
     (∀ n, (s.dev.link l).st = .agreeing n →
       ((s.dev.link l).escalated = true →
         answers (.widthEscalate l) s ((s.dev.logE E_D2D_WIDTH_ESCALATE l).beginDevice E_D2D_WIDTH_ESCALATE false)) ∧
       ((s.dev.link l).escalated = false →
         let bad := fun (r : LinkReport) (die : Option Nat) => if agree l r (s.dev.link l).published then [] else [die]
         answers (.widthEscalate l) s
           (((s.dev.logE E_D2D_WIDTH_ESCALATE l).modLink l fun k => { k with escalated := true }).fold
             ((bad (s.dev.link l).repA (linkDies l).1 ++ bad (s.dev.link l).repB (linkDies l).2).filterMap id)
             fun s n => s.resetEndDie n (·.beginDie n E_D2D_WIDTH_ESCALATE false)))) ∧
     (∀ dir, dir < 2 →
       ((s.dev.link l).credHeld dir = true → (s.dev.link l).tx dir = [] →
         answers (.creditReturnAfterRetrain (.d2d l) dir) s
           ((s.dev.modLink l fun k => (k.hold dir false).setSpent dir 0).out (.quota (.d2d l) dir))) ∧
       ((s.dev.link l).credHeld dir = false ∨ (s.dev.link l).tx dir ≠ [] →
         answers (.creditReturnAfterRetrain (.d2d l) dir) s s.dev))) ∧
  (∀ (d : Dev) (l : Nat), linkOk l = true → d.testRunning 4 l = false →
     ((d.startRetrain l true).link l).st = .testing ∧ ((d.startRetrain l true).link l).held0 = true ∧
     ((d.startRetrain l true).link l).held1 = true ∧
     ∀ e ∈ bundleIds l, ((d.startRetrain l true).bundle l e.1 e.2).st = .training ∧
       ((d.startRetrain l true).bundle l e.1 e.2).excl = 0)

/-- R180–R185, R190, R191, R560: a core reset asked for by the port that serves the core, or by the hub, begins; it ends
once the core's arrays are back; a thread, array or core reset that is late is taken over by the reset of the unit above
it. The model's choices: log entries 12, 29, 40. -/
def Obligations.CoreResets : Prop :=
  ∀ (s : State) (x : Tid) (a : Nat), s.dev.live = true → x.ok = true → a < 2 →
    let c := x.core
    (∀ port, (s.dev.corePortOk port c = true → answers (.coreReset (.request port) c) s (s.dev.beginCore c E_OK)) ∧
      (s.dev.corePortOk port c = false → answers (.coreReset (.request port) c) s (s.dev.logE E_HOST_NOT_OWNER c))) ∧
    (∀ cause, answers (.coreReset (.hub cause) c) s (s.dev.beginCore c cause)) ∧
    ((s.dev.core c).resetting = true → s.dev.inReset 3 (c / 8) = false → s.dev.inReset 6 0 = false →
      (s.dev.arraysBack c = true → answers (.coreResetDone c) s (s.dev.coreFinish c)) ∧
      answers (.coreResetEscalate c) s ((s.dev.escalate E_CORE_RESET_ESCALATE c).beginDie (c / 8) E_CORE_RESET_ESCALATE false)) ∧
    ((s.dev.thr x).st = .resetting → answers (.threadResetEscalate x) s
      ((s.dev.escalate E_THREAD_RESET_ESCALATE (16 * c + x.thr)).beginCore c E_THREAD_RESET_ESCALATE)) ∧
    ((s.dev.arr c a).st = .reset → s.dev.coreBusy c = false → answers (.arrayResetEscalate c a) s
      ((s.dev.escalate Config.arrayEscalation (2 * c + a)).beginCore c Config.arrayEscalation)) ∧
    (s.dev.coreUsable c = true → s.dev.coreBusy c = false →
      ∃ d : Dev, answers (.coreReset (.hub E_OK) c) s d ∧ (d.core c).resetting = true ∧
        (d.core c).store = (s.dev.core c).store ∧ d.mem = s.dev.mem)

/-- R388, R584, R588, R590, R591, R593, R615: a reset that is asked for begins where its unit is there and not in a
reset already; a management controller that missed its polls has its unit reset; a reset ends once its unit is back; one
that is late has the device reset. The model's choices: log entries 12, 40. -/
def Obligations.UnitResets : Prop :=
  ∀ (s : State), s.dev.live = true →
    let asked := fun (domain unit : Nat) => s.dev.setReg 0 0xB08 (at_ 0 domain ||| at_ 8 unit)
    let going := fun (domain unit : Nat) => ({ asked domain unit with rcv := { s.dev.rcv with go := true } } : Dev)
    (∀ n port, n < 4 →
      (s.dev.dieReleased n = true → s.dev.inReset 3 n = false → s.dev.inReset 6 0 = false → s.dev.boot.halted = false →
        answers (.computeDieReset (.request port) n) s ((going 2 n).beginDie n E_OK true) ∧
        answers (.dieHeartbeat n) s ((s.dev.logE E_DIE_HEARTBEAT n).beginDie n E_DIE_HEARTBEAT false)) ∧
      (s.dev.inReset 3 n = true →
        answers (.computeDieReset (.request port) n) s ((asked 2 n).logE E_RESET_BUSY n) ∧
        (s.dev.dieBack n = true → answers (.computeDieResetDone n) s (s.dev.finishDie n)) ∧
        answers (.dieResetEscalate n) s
          (((s.dev.escalate E_DIE_RESET_ESCALATE n).endActive 3 n).beginDevice E_DIE_RESET_ESCALATE false)) ∧
      (s.dev.dieReleased n = false → s.dev.inReset 3 n = false →
        answers (.computeDieReset (.request port) n) s ((asked 2 n).logE E_RESET_REQ_BAD n)) ∧
      ∀ cause, answers (.computeDieReset (.hub cause) n) s (s.dev.beginDie n cause false)) ∧
    (∀ k port, k < 32 →
      (s.dev.stackThere k = true → s.dev.inReset 4 k = false → s.dev.inReset 6 0 = false → s.dev.boot.halted = false →
        answers (.stackReset (.request port) k) s ((going 3 k).beginStack k E_OK true)) ∧
      (s.dev.stackThere k = true → (s.dev.stk k).inReset = false →
        answers (.stackMgmtWdog k) s ((s.dev.logE E_STACK_MGMT_WDOG k).beginStack k E_STACK_MGMT_WDOG false)) ∧
      (s.dev.stackThere k = true → (s.dev.inReset 4 k = true ∨ s.dev.inReset 6 0 = true) →
        answers (.stackReset (.request port) k) s ((asked 3 k).logE E_RESET_BUSY k)) ∧
      (s.dev.stackThere k = false → answers (.stackReset (.request port) k) s ((asked 3 k).logE E_RESET_REQ_BAD k)) ∧
      (s.dev.inReset 4 k = true →
        ((s.dev.link (0x20 + k)).st = .running → answers (.stackResetDone k) s (s.dev.finishStack k)) ∧
        answers (.stackResetEscalate k) s
          (((s.dev.escalate E_STACK_RESET_ESCALATE k).endActive 4 k).beginDevice E_STACK_RESET_ESCALATE false)) ∧
      ∀ cause, answers (.stackReset (.hub cause) k) s (s.dev.beginStack k cause false)) ∧
    (∀ e port, e < 14 →
      (s.dev.engFitted e = true → s.dev.boot.engsLost.getLsbD e = false → s.dev.inReset 5 e = false → s.dev.inReset 6 0 = false →
        s.dev.boot.halted = false → answers (.linkReset (.request port) e) s ((going 4 e).beginLink e E_OK true)) ∧
      (s.dev.engFitted e = true → s.dev.boot.engsLost.getLsbD e = false → (s.dev.eng e).inReset = false →
        answers (.engMgmtWdog e) s ((s.dev.logE E_ENG_MGMT_WDOG e).beginLink e E_ENG_MGMT_WDOG false)) ∧
      (s.dev.engFitted e = true → s.dev.boot.engsLost.getLsbD e = false → (s.dev.inReset 5 e = true ∨ s.dev.inReset 6 0 = true) →
        answers (.linkReset (.request port) e) s ((asked 4 e).logE E_RESET_BUSY e)) ∧
      (s.dev.inReset 5 e = true →
        answers (.linkResetDone e) s (s.dev.finishLink e) ∧
        answers (.linkResetEscalate e) s
          (((s.dev.escalate E_LINK_RESET_ESCALATE e).endActive 5 e).beginDevice E_LINK_RESET_ESCALATE false)) ∧
      ∀ cause, answers (.linkReset (.hub cause) e) s (s.dev.beginLink e cause false))

/-- R67, R588, R589, R595, R598, R599, R617: a device reset begins, but in a halted start, and the fourth cause within
ten minutes drains the device; HBM and the crash capsule survive it while the cores, counters and contexts are cleared;
one that is late asks for a power cycle; the heartbeat counts until the hub hangs. The model's choices: log entries 12,
40. -/
def Obligations.DeviceResets : Prop :=
  ∀ (s : State), s.dev.live = true →
    (∀ port, s.dev.inReset 6 0 = false → s.dev.boot.halted = false → answers (.deviceReset (.request port)) s
      (({ s.dev.setReg 0 0xB08 (at_ 0 5 ||| at_ 8 0) with rcv := { s.dev.rcv with go := true } } : Dev).beginDevice E_OK true)) ∧
    (∀ cause, answers (.deviceReset (.hub cause)) s (s.dev.beginDevice cause false)) ∧
    (s.dev.boot.halted = true →
      (∀ port, answers (.deviceReset (.request port)) s ((s.dev.setReg 0 0xB08 (at_ 0 5 ||| at_ 8 0)).logE E_RESET_BUSY 0)) ∧
      ∀ cause, answers (.deviceReset (.hub cause)) s s.dev) ∧
    (∀ cause, s.dev.inReset 6 0 = false → s.dev.boot.halted = false → 3 ≤ s.dev.devResets → s.dev.rcv.phase = 0 →
      ∃ d : Dev, answers (.deviceReset (.hub cause)) s d ∧ d.rcv.phase = 3 ∧ d.rcv.drainCode = E_DEVICE_RESET_LOOP ∧
        d.rcv.active = s.dev.rcv.active ∧ d.mem = s.dev.mem ∧ d.cores = s.dev.cores) ∧
    (s.dev.inReset 6 0 = true → answers .deviceResetEscalate s
      (let d := s.dev.escalate E_DEVICE_RESET_ESCALATE 0
       { d with rcv := { d.rcv with hbHalt := true, go := false } })) ∧
    (answers .hubWdog s { s.dev with rcv := { s.dev.rcv with hung := true } }) ∧
    (s.dev.rcv.hung = false →
      answers .supvHbTick s { s.dev with rcv := { s.dev.rcv with hbCount := s.dev.rcv.hbCount + 1 } }) ∧
    (s.dev.rcv.hung = true → answers .supvHbTick s s.dev) ∧
    (let d := s.dev.restarted
     d.mem.data = s.dev.mem.data ∧ d.mem.poison = s.dev.mem.poison ∧ d.mem.flags = s.dev.mem.flags ∧
       d.rcv.capsule = s.dev.rcv.capsule ∧ d.boot.step = 4 ∧ d.boot.epoch = s.dev.boot.epoch + 1 ∧ d.cores = [] ∧ d.sync = [] ∧
       d.ra = {} ∧ d.coll = {} ∧ d.host.queues = [] ∧ d.rcv.log = [] ∧ d.tests.running = [] ∧ d.img.loaded = none)

/-- R440, R450, R452, R647: a request packet of another device or of this one, addressed here, takes the checks at the
ingress; one addressed elsewhere changes nothing. An accumulate packet goes through the combining of this hub first. The
model's choices: log entries 15, 20. -/
def Obligations.RequestsReachTheIngress : Prop :=
  ∀ (s : State) (p : Packet), s.dev.live = true → p.ok = true →
    let d := s.dev.arrived p
    (∀ c, (c, p.kind) ∈ [(Instr.load p, PKind.load), (.store p, .store), (.fetchAdd p, .fetchAdd), (.swap p, .swap),
        (.compareSwap p, .compareSwap), (.syncAdd p, .syncAdd), (.copyRead p, .copyRead), (.copyWrite p, .copyWrite)] →
      (s.dev.forMe p = true → answers c s (d.countAccept (d.acceptReq p))) ∧
      (s.dev.forMe p = false → answers c s s.dev)) ∧
    (p.kind = .accumulate →
      (s.dev.forMe p = true → (d.combine p (d.chanFlits p.addr.toNat)).2 = true →
        let t := (d.combine p (d.chanFlits p.addr.toNat)).1
        answers (.accumulate p) s (t.countAccept (t.acceptReq p))) ∧
      (s.dev.forMe p = true → (d.combine p (d.chanFlits p.addr.toNat)).2 = false →
        answers (.accumulate p) s (d.combine p (d.chanFlits p.addr.toNat)).1) ∧
      (s.dev.forMe p = false → answers (.accumulate p) s s.dev))

/-- R446, R450, R451, R462–R464: the checks of a request in their order: a job without a context is refused, a
generation ahead is refused, one behind is dropped and counted; an atomic that was applied already is answered with its
stored prior value and not applied again; an access outside the populated ranges, outside every region, under an old
region, another key or without permission is refused. The model's choices: log entries 20, 23. -/
def Obligations.TargetChecks : Prop :=
  ∀ (d : Dev) (p : Packet),
    (d.jobCtx p.job = none → d.acceptReq p = d.refuse p E_RA_NO_CTX) ∧
    (∀ n, d.jobCtx p.job = some n →
      let gen := (d.ctx n).gen
      (2048 ≤ (gen - p.gen).toNat → d.acceptReq p = d.refuse p E_RA_GEN_AHEAD) ∧
      (gen ≠ p.gen → (gen - p.gen).toNat < 2048 →
        d.acceptReq p = { d with ra := { d.ra with genDrops := sat16 d.ra.genDrops } }) ∧
      (gen = p.gen →
        (∀ e v, isAtomic p.kind = true → d.ra.dedup.find? (fun (e : Dedup) => e.isOf p) = some e → e.prior = some v →
          d.acceptReq p =
            ({ d with ra := { d.ra with hits := sat16 d.ra.hits } } : Dev).answerPkt p (toBytes 8 v.toNat) 0 E_OK) ∧
        (∀ code, isAtomic p.kind = true → d.ra.dedup.any (·.isOf p) = false → d.accessBad n p = some code →
          d.acceptReq p = d.refuse p code) ∧
        (isAtomic p.kind = true → d.ra.dedup.any (·.isOf p) = false → d.accessBad n p = none → 8192 ≤ d.ra.dedup.length →
          d.acceptReq p = ({ d with ra := { d.ra with full := sat16 d.ra.full } } : Dev).answerPkt p [] 0 E_RA_DEDUP_FULL) ∧
        (isAtomic p.kind = true → d.ra.dedup.any (·.isOf p) = false → d.accessBad n p = none → d.ra.dedup.length < 8192 →
          let l := d.ra.dedup ++ [({ srcDev := p.srcDev, ctx := p.ctx, seq := p.seq, job := p.job, prior := none, waiters := [] } : Dedup)]
          d.acceptReq p = ({ d with ra := { d.ra with dedup := l, peak := max d.ra.peak l.length } } : Dev).take (.remote p) p) ∧
        (isAtomic p.kind = false →
          (∀ code, d.accessBad n p = some code → d.acceptReq p = d.refuse p code) ∧
          (d.accessBad n p = none → d.acceptReq p = d.take (.remote (wholeMask p)) (wholeMask p))))) ∧
    (∀ n, (d.reachable p = false → d.accessBad n p = some E_RA_RANGE) ∧
      (d.reachable p = true →
        (d.regionOf p.addr.toNat (accessSize p) = none → d.accessBad n p = some E_RA_NO_REGION) ∧
        (∀ r, d.regionOf p.addr.toNat (accessSize p) = some r →
          ((r.ctx ≠ n ∨ r.gen ≠ (d.ctx n).gen) → d.accessBad n p = some E_RA_REGION_STALE) ∧
          (r.ctx = n → r.gen = (d.ctx n).gen →
            (r.key ≠ p.key → d.accessBad n p = some E_RA_KEY) ∧
            (r.key = p.key → permits r.perm p.kind = false → d.accessBad n p = some E_RA_PERM) ∧
            (r.key = p.key → permits r.perm p.kind = true → d.ctrOk r p.addr.toNat = false → d.accessBad n p = some E_RA_PART) ∧
            (r.key = p.key → permits r.perm p.kind = true → d.ctrOk r p.addr.toNat = true → p.kind ≠ .accumulate →
              d.accessBad n p = none)))))

/-- R452, R457–R462, R464, R465: an answer reaches the port entry it names; HOLD and RELEASE have their effects; an
attempt without an answer is made again up to four times, a posted one at most once. The model's choices: log entries
12, 20, 23. -/
def Obligations.AnswersAndTimeouts : Prop :=
  ∀ (s : State), s.dev.live = true →
    (∀ p, p.ok = true → s.dev.forMe p = true →
      (p.kind = .response → answers (.response p) s ((s.dev.arrived p).answered p E_OK)) ∧
      (∀ c e k, p.kind = .response → (s.dev.arrived p).answers p = .entry c e k → k.pkt.gen = (s.dev.ctx k.pkt.ctx).gen →
        isAtomic p.ofKind = false →
        answers (.response p) s ((s.dev.arrived p).modCore c fun m =>
          { m with replies := m.replies ++ [({ entry := e, data := p.data, poison := p.poison, code := E_OK } : Reply)] })) ∧
      (p.kind = .nack → answers (.negativeAcknowledgement p) s ((s.dev.arrived p).answered p p.code)) ∧
      (p.kind = .hold → answers (.hold p) s ((s.dev.arrived p).heldAnswer p)) ∧
      (p.kind = .release → ∃ d : Dev, answers (.release p) s d ∧
        d.ra.dedup = s.dev.ra.dedup.filter (fun e => !(e.isOf p && e.prior.isSome)) ∧ d.mem = s.dev.mem)) ∧
    (∀ k p i q, k < 32 → p < 31 → s.dev.heldReq k p i = some (.remote q) →
      answers (.holdRepeat k p i) s ((s.dev.count bankHub 0xC9).sendBack q .hold q.kind)) ∧
    (∀ srcDev ctx seq, answers (.dedupExpire srcDev ctx seq) s
      { s.dev with ra := { s.dev.ra with dedup := s.dev.ra.dedup.filter fun (e : Dedup) =>
          !(e.srcDev == srcDev && e.ctx == ctx && e.seq == seq && e.prior.isSome) } }) ∧
    (∀ c e p, c < 32 → e < 256 → s.dev.pent c e = some p → p.remote = true → p.sent = true →
      (s.dev.core c).replies.any (·.entry == e) = false → p.pkt.gen = (s.dev.ctx p.pkt.ctx).gen →
      let d : Dev := { s.dev with ra := { s.dev.ra with timeouts := sat16 s.dev.ra.timeouts } }
      (∀ dst, p.kind = .load dst → p.orphan = false →
        (p.attempts < 4 → answers (.attemptTimeout c e) s ((d.setPent c e (some { p with sent := false })).sendEntry c e)) ∧
        (4 ≤ p.attempts → answers (.attemptTimeout c e) s (d.takeUp c e [] 0 E_RA_TIMEOUT))) ∧
      (∀ gd, p.kind = .atomic gd → 4 ≤ p.attempts →
        answers (.attemptTimeout c e) s (d.takeUp c e [] 0 E_RA_INDETERMINATE)) ∧
      (p.kind = .posted → answers (.attemptTimeout c e) s (d.takeUp c e [] 0 E_RA_INDETERMINATE)))

/-- R441–R443, R471, R473, R528: contexts open on the lowest free number, are torn down and freed by the partition they
belong to; a teardown ends when nothing of the old generation is left, and one that does not end resets the cores that
ran the context. The model's choices: log entry 19. -/
def Obligations.ContextCommands : Prop :=
  ∀ (s : State) (q : Nat) (e : Entry) (d : Dev), s.dev.live = true → q < 4096 →
    let iss : Issuer := .queue q
    (s.dev.runsMgmt q 0x10 e d →
      let job := ebytes e 32 4
      let gen := ebytes e 36 2
      let part := ebytes e 38 1
      ((2 ^ 24 ≤ job ∨ 2 ^ 12 ≤ gen) → answers (.ctxOpen q) s (d.answer iss E_MGMT_OPERAND)) ∧
      (job < 2 ^ 24 → gen < 2 ^ 12 → (d.defined part = false ∨ d.mayName iss part = false) →
        answers (.ctxOpen q) s (d.answer iss E_RA_CTX_BAD)) ∧
      (∀ n, job < 2 ^ 24 → gen < 2 ^ 12 → d.defined part = true → d.mayName iss part = true →
        d.ctxOfJob (BitVec.ofNat 24 job) = some n →
        ((d.ctx n).st = .closed → (d.ctx n).gen.toNat = gen →
          answers (.ctxOpen q) s ((d.modCtx n fun c => { c with st := .opened, part := part }).answer iss E_OK (BitVec.ofNat 64 n))) ∧
        (((d.ctx n).st ≠ .closed ∨ (d.ctx n).gen.toNat ≠ gen) → answers (.ctxOpen q) s (d.answer iss E_RA_CTX_BAD))) ∧
      (job < 2 ^ 24 → gen < 2 ^ 12 → d.defined part = true → d.mayName iss part = true → d.ctxOfJob (BitVec.ofNat 24 job) = none →
        (d.freeCtx = none → answers (.ctxOpen q) s (d.answer iss E_RA_CTX_FULL)) ∧
        (∀ n, d.freeCtx = some n → answers (.ctxOpen q) s
          ((d.modCtx n fun c => { st := .opened, part, job := BitVec.ofNat 24 job, gen := BitVec.ofNat 12 gen, seq := c.seq }).answer
            iss E_OK (BitVec.ofNat 64 n))))) ∧
    (s.dev.runsMgmt q 0x11 e d →
      let n := ebytes e 32 2
      ((1024 ≤ n ∨ (d.ctx n).st ≠ .opened ∨ d.mayName iss (d.ctx n).part = false) →
        answers (.ctxTeardown q) s (d.answer iss E_RA_CTX_BAD)) ∧
      (n < 1024 → (d.ctx n).st = .opened → d.mayName iss (d.ctx n).part = true →
        answers (.ctxTeardown q) s ((d.modCtx n fun c => { c with waiting := c.waiting ++ [(iss, 0)] }).teardown n))) ∧
    (s.dev.runsMgmt q 0x12 e d →
      let job := ebytes e 32 4
      (2 ^ 24 ≤ job → answers (.jobTeardown q) s (d.answer iss E_MGMT_OPERAND)) ∧
      (job < 2 ^ 24 → d.ctxOfJob (BitVec.ofNat 24 job) = none → answers (.jobTeardown q) s (d.answer iss E_RA_NO_CTX)) ∧
      (∀ n, job < 2 ^ 24 → d.ctxOfJob (BitVec.ofNat 24 job) = some n → (d.ctx n).st = .opened →
        answers (.jobTeardown q) s ((d.modCtx n fun c => { c with waiting := c.waiting ++ [(iss, n)] }).teardown n))) ∧
    (s.dev.runsMgmt q 0x13 e d →
      let n := ebytes e 32 2
      (n < 1024 → (d.ctx n).st = .closed → d.mayName iss (d.ctx n).part = true →
        let t := d.fold d.coll.groups fun s g => if (g.2.map (·.ctx)) = some n then s.destroyGroup g.1 [] else s
        let u := t.fold t.ra.regions fun s r => if (r.2.map (·.ctx)) = some n then s.setRegion r.1 none else s
        answers (.ctxFree q) s ((u.modCtx n fun c => { seq := c.seq }).answer iss E_OK)) ∧
      ((1024 ≤ n ∨ (d.ctx n).st ≠ .closed ∨ d.mayName iss (d.ctx n).part = false) → answers (.ctxFree q) s (d.answer iss E_RA_CTX_BAD))) ∧
    (∀ n, n < 1024 → (s.dev.ctx n).st = .tearing →
      (s.dev.teardownReady n = true → answers (.teardownComplete n) s
        ((s.dev.modCtx n fun c => { c with st := .closed, waiting := [], ranOn := 0 }).fold (s.dev.ctx n).waiting fun s i =>
          s.answer i.1 E_OK (BitVec.ofNat 64 i.2))) ∧
      (s.dev.teardownReady n = false → answers (.teardownComplete n) s s.dev ∧
        answers (.teardownEscalate n) s
          ((s.dev.escalate E_RA_TEARDOWN_ESCALATE n).fold ((List.range 32).filter ((s.dev.ctx n).ranOn.getLsbD ·)) fun s c =>
            s.beginCore c E_RA_TEARDOWN_ESCALATE)))

/-- R446–R449: REGION_ADD takes a range of whole 2 MiB units of memory of the partition that overlaps no other region;
REMOVE and RENEW begin at once and complete when no access accepted under the old entry is left. The model's choices:
log entry 19. -/
def Obligations.RegionCommands : Prop :=
  ∀ (s : State) (q : Nat) (e : Entry) (d : Dev), s.dev.live = true → q < 4096 →
    let iss : Issuer := .queue q
    (s.dev.runsMgmt q 0x20 e d →
      let base := ebytes e 32 8
      let size := ebytes e 40 8
      let n := ebytes e 52 2
      let perm := ebytes e 54 1
      let part := d.regionPart iss (d.ctx n).part
      ((base % mib2 ≠ 0 ∨ size % mib2 ≠ 0 ∨ size = 0 ∨ 16 ≤ perm) → answers (.regionAdd q) s (d.answer iss E_MGMT_OPERAND)) ∧
      (base % mib2 = 0 → size % mib2 = 0 → size ≠ 0 → perm < 16 →
        ((1024 ≤ n ∨ d.ctxOpenFor n part = false ∨ d.rangeOwned part base size = false ∨
            d.ra.regions.any (fun r => r.2.any fun r => rangesMeet r.base r.size base size) = true) →
          answers (.regionAdd q) s (d.answer iss E_RA_REGION_BAD)) ∧
        (∀ i, n < 1024 → d.ctxOpenFor n part = true → d.rangeOwned part base size = true →
          d.ra.regions.any (fun r => r.2.any fun r => rangesMeet r.base r.size base size) = false →
          freeKey d.ra.regions 4096 = some i →
          answers (.regionAdd q) s ((d.setRegion i (some
            { base, size, key := BitVec.ofNat 32 (ebytes e 48 4), perm := BitVec.ofNat 4 perm, part, ctx := n, gen := (d.ctx n).gen })).answer
              iss E_OK (BitVec.ofNat 64 i))))) ∧
    (s.dev.runsMgmt q 0x21 e d →
      (∀ r, d.namedRegion (ebytes e 32 2) iss = some r →
        answers (.regionRemove q) s (d.beginRegion (ebytes e 32 2) r none iss)) ∧
      (d.namedRegion (ebytes e 32 2) iss = none → answers (.regionRemove q) s (d.answer iss E_RA_REGION_BAD))) ∧
    (s.dev.runsMgmt q 0x22 e d →
      (∀ r, d.namedRegion (ebytes e 32 2) iss = some r →
        answers (.regionRenew q) s (d.beginRegion (ebytes e 32 2) r
          (some { r with key := BitVec.ofNat 32 (ebytes e 36 4), gen := (d.ctx r.ctx).gen }) iss)) ∧
      (d.namedRegion (ebytes e 32 2) iss = none → answers (.regionRenew q) s (d.answer iss E_RA_REGION_BAD))) ∧
    (∀ c, s.dev.regionCmdOf q = some c →
      (s.dev.underOld c.2 = false → answers (.regionCommandDone q) s
        (({ s.dev with ra := { s.dev.ra with regionCmds := s.dev.ra.regionCmds.erase c } } : Dev).answer c.1 E_OK)) ∧
      (s.dev.underOld c.2 = true → answers (.regionCommandDone q) s s.dev))

/-- R386, R419, R524–R528, R574–R576: the commands of groups, of ports, of the avoid list and of event rings; a command
that another device sent runs as one of an HFM queue here. The model's choices: log entries 18, 24, 36. -/
def Obligations.OtherManagementCommands : Prop :=
  ∀ (s : State) (q : Nat) (e : Entry) (d : Dev), s.dev.live = true → q < 4096 →
    let iss : Issuer := .queue q
    (s.dev.runsMgmt q 0x30 e d →
      let g := groupOf d e
      (d.groupOk iss g = false → answers (.groupCreate q) s (d.answer iss E_COLL_GROUP_BAD)) ∧
      (d.groupOk iss g = true → d.rangeBusy g = true → answers (.groupCreate q) s (d.answer iss E_COLL_RANGE_BUSY)) ∧
      (d.groupOk iss g = true → d.rangeBusy g = false → 192 < d.reservedEntries g.core + g.credits →
        answers (.groupCreate q) s (d.answer iss E_COLL_CREDITS)) ∧
      (d.groupOk iss g = true → d.rangeBusy g = false → d.reservedEntries g.core + g.credits ≤ 192 →
        let t : Dev := { d with
          coll := { d.coll with freed := d.coll.freed.filter fun f => decide (d.clock < f.2.2 + 10) }
          sync := d.sync.filter fun c => !(decide (g.cbase ≤ c.1) && decide (c.1 < g.cbase + g.ccount)) }
        answers (.groupCreate q) s (((t.setGroup g.queue (some g)).writeGcb g 0 true).answer iss E_OK))) ∧
    (s.dev.runsMgmt q 0x31 e d →
      (d.namedGroup e iss = none → answers (.groupDestroy q) s (d.answer iss E_COLL_GROUP_BAD)) ∧
      (∀ g, d.namedGroup e iss = some g → answers (.groupDestroy q) s (d.destroyGroup g [iss]))) ∧
    (s.dev.runsMgmt q 0x32 e d →
      (d.namedGroup e iss = none → answers (.collAbort q) s (d.answer iss E_COLL_GROUP_BAD)) ∧
      (∀ g, d.namedGroup e iss = some g → answers (.collAbort q) s
        (let t := d.raiseGroup g E_COLL_COMMAND
         (Dev.abortLoop (t.coll.groups.length + 1) t).answer iss E_OK))) ∧
    (s.dev.runsMgmt q 0x40 e d → 6 ≤ ebytes e 40 1 → answers (.portExpect q) s (d.answer iss E_MGMT_OPERAND)) ∧
    (s.dev.runsMgmt q 0x40 e d → ebytes e 40 1 < 6 →
      answers (.portExpect q) s ((d.modFport (ebytes e 40 1) fun p => { p with expect := some (BitVec.ofNat 64 (ebytes e 32 8)) }).answer
        iss E_OK)) ∧
    (s.dev.runsMgmt q 0x41 e d →
      let x := (ebytes e 34 2, ebytes e 36 1)
      let done := fun (l : List (Nat × Nat)) =>
        answers (.fabAvoid q) s (({ d with fab := { d.fab with avoid := l } } : Dev).answer iss E_OK (BitVec.ofNat 64 l.length))
      (ebytes e 32 1 = 2 → done []) ∧
      (3 ≤ ebytes e 32 1 → answers (.fabAvoid q) s (d.answer iss E_MGMT_OPERAND)) ∧
      (x.2 < 4 → x.1 < 2 ^ 14 → d.inDomain x.1 = true →
        (ebytes e 32 1 = 1 → done (d.fab.avoid.filter (· ≠ x))) ∧
        (ebytes e 32 1 = 0 → x ∉ d.fab.avoid → d.fab.avoid.length < 64 → done (d.fab.avoid ++ [x])) ∧
        (ebytes e 32 1 = 0 → x ∉ d.fab.avoid → 64 ≤ d.fab.avoid.length →
          answers (.fabAvoid q) s (d.answer iss E_FAB_AVOID_FULL (BitVec.ofNat 64 d.fab.avoid.length))))) ∧
    (s.dev.runsMgmt q 0x50 e d → ebytes e 32 8 % 4096 ≠ 0 → answers (.evtRing q) s (d.answer iss E_MGMT_OPERAND)) ∧
    (s.dev.runsMgmt q 0x50 e d → ebytes e 32 8 % 4096 = 0 → (ebytes e 40 1 = 0 ∨ 12 ≤ ebytes e 40 1 ∧ ebytes e 40 1 ≤ 20) →
      answers (.evtRing q) s ((d.modRing (d.actPart iss) fun r =>
        { r with base := BitVec.ofNat 64 (ebytes e 32 8), log2 := ebytes e 40 1, prod := 0, cons := 0 }).answer iss E_OK)) ∧
    (∀ m : MgmtPacket, s.dev.img.loaded.isSome = true → s.dev.inReset 6 0 = false →
      (m.reply = none → answers (.managementPacket m) s (s.dev.wakeEvent.runForwarded m)) ∧
      (∀ code result q seq, m.reply = some (code, result) → s.dev.wakeEvent.forwardedEntry m = some (q, seq) →
        answers (.managementPacket m) s (s.dev.wakeEvent.complete q seq code result)))

/-- R477, R478, R480, R513–R516, R566, R569: the next entry of a copy queue starts on a free run, or ends at once with
the code of the rule it breaks; the run served next issues a piece; READOUT is one request of its channel; a copy whose
pieces stay unanswered is lost. The model's choices: log entries 12, 22. -/
def Obligations.CopyEngine : Prop :=
  ∀ (s : State), s.dev.live = true →
    (∀ q e n, q < 4096 → s.dev.qType q = 2 → s.dev.ready = true → s.dev.runsOf.countP (fun r => r.2.queue == q) < 4 →
      s.dev.nextStart q = some e → freeKey s.dev.copy.runs 512 = some n →
      let d := s.dev.markStarted q e.seq
      let r : CopyRun := { queue := q, seq := e.seq, readout := eKind e.e == 3, entry := e.e, ctx := eCtx e.e, part := (s.dev.qOwner q).getD 0,
                           issued := 0, finished := 0, out := [], code := E_OK, stopped := false, first := none, sum := 0, flagged := 0 }
      (d.copyBad r = none → answers (.copyEntryStart q) s (d.setRun n (some r))) ∧
      (∀ code, d.copyBad r = some code → answers (.copyEntryStart q) s (d.complete q e.seq code))) ∧
    (∀ q, q < 4096 → 4 ≤ s.dev.runsOf.countP (fun r => r.2.queue == q) → answers (.copyEntryStart q) s s.dev) ∧
    (∀ n r, n < 512 → s.dev.crun n = some r → s.dev.canIssue r = true →
      s.dev.runsOf.all (fun e => !s.dev.canIssue e.2 || decide (runTurn s.dev.copy.last n ≤ runTurn s.dev.copy.last e.1)) = true →
      let d : Dev := { s.dev with copy := { s.dev.copy with last := n } }
      (r.readout = true → answers (.copyPieceIssue n []) s
        ((d.modRun n fun k => { k with issued := r.issued + 1, out := k.out ++ [(r.slot, r.issued, true)] }).readLine n r r.issued)) ∧
      (∀ host, r.readout = false → r.fromHost = false → answers (.copyPieceIssue n host) s
        ((d.modRun n fun k => { k with issued := r.issued + r.pieceLen r.issued, out := k.out ++ [(r.slot, r.issued, true)] }).sendPiece n
          r.slot (d.piecePkt r n r.slot false (r.src + r.issued) (r.pieceLen r.issued)))) ∧
      (∀ host, r.readout = false → r.fromHost = true → host.length = r.pieceLen r.issued → answers (.copyPieceIssue n host) s
        (((d.modRun n fun k => { k with issued := r.issued + r.pieceLen r.issued, out := k.out ++ [(r.slot, r.issued, false)] }).out
          (.hostFetch (d.portOf r.part) (BitVec.ofNat 64 (r.src + r.issued)) (r.pieceLen r.issued))).putPiece n r.slot r r.issued host 0))) ∧
    (∀ n r, n < 512 → s.dev.crun n = some r → r.out.isEmpty = false → r.toHost = true → r.readout = false →
      answers (.bulkLost n) s ((s.dev.setRun n none).complete r.queue r.seq E_RA_BULK_LOST)) ∧
    (∀ k p i m, k < 32 → p < 31 → (s.dev.chan k p).queue[i]? = some m → m.kind = .readout → s.dev.mayServe k p i m = true →
      s.dev.tests.running = [] →
      let ecc : EccFind := { corrected := [], uncorrectable := [] }
      answers (.readout k p i ecc) s
        (((s.dev.charge k p m).modChan k p fun c => { c with queue := dropAt c.queue i }).doReadout k p ecc m))

/-- R563–R565, R584–R586: POST appends a copy of STAGE where the queue has a place, answers in STATUS.LAST and does
nothing at a port that does not serve the queue; the watchdog of a queue ends its oldest entry. The model's choices: log
entry 12. -/
def Obligations.DoorbellsAndTheirWatchdog : Prop :=
  ∀ (s : State) (port q : Nat), s.dev.live = true → port < 2 → q < 4096 →
    (s.dev.doorOpen port q = false → answers (.post port q) s s.dev) ∧
    (s.dev.doorOpen port q = true →
      let d := s.dev.count bankHub 0xCE 1 none (s.dev.qOwner q)
      ((s.dev.queue q).entries.length < 32 → answers (.post port q) s
        ((d.modQueue q fun k => k.setLast port E_OK).postEntry q (s.dev.queue q).stage)) ∧
      (32 ≤ (s.dev.queue q).entries.length → answers (.post port q) s
        (d.wakeEvent.modQueue q fun k => k.setLast port E_Q_FULL))) ∧
    (∀ e l, (s.dev.queue q).entries = e :: l →
      ((s.dev.qType q == 1 || s.dev.qType q == 2 || s.dev.qType q == 3) = true → fldN (s.dev.reg 0 0xB00 0x64) 0 16 ≠ 0 →
        s.dev.qHeld q = false → s.dev.inWindow ((s.dev.qOwner q).getD 8) = false →
        answers (.qProgressWdog q) s
          (((s.dev.logE E_Q_PROGRESS_WDOG q).event ((s.dev.qOwner q).getD 8) 10 E_Q_PROGRESS_WDOG q).endOldest q e)) ∧
      (fldN (s.dev.reg 0 0xB00 0x64) 0 16 = 0 → answers (.qProgressWdog q) s s.dev)) ∧
    (∀ (d : Dev) (e : Entry), d.qHeld q = true → d.pow.lat = 0 →
      let t := d.postEntry q e
      (t.queue q).entries = (d.queue q).entries ++ [{ seq := (d.queue q).seq, e, started := false }] ∧
        (t.queue q).seq = (d.queue q).seq + 1 ∧ ∀ r, r ≠ q → t.queue r = d.queue r)

/-- R65, R572, R573, R578–R580: a link that comes up sends what waited for it; one that goes down keeps records waiting;
a record lost is counted and logged once; a pending message goes out when its vector is unmasked; a function reset masks
every vector. The model's choices: log entries 12, 38, 39. -/
def Obligations.HostPorts : Prop :=
  ∀ (s : State) (port : Nat), s.dev.live = true → port < 2 →
    (answers (.pcieLinkDown port false) s
      (s.dev.modHport port fun h => { h with up := false, speed := 0, width := 0, l0p := 0, flit := false })) ∧
    (∀ speed width flit l0p, linkUpOk port speed width flit l0p = true → s.dev.perst port = false → s.dev.pinsTaken = false →
      ∃ d : Dev, answers (.pcieLinkUp port speed width ⟨flit, l0p⟩) s d ∧ (d.hport port).up = true ∧
        (d.hport port).speed = speed ∧ (d.hport port).width = width ∧ (d.hport port).l0p = l0p ∧ (d.hport port).flit = (flit || decide (speed = 6)) ∧
        ((s.dev.hport port).d3hot = false → (d.hport port).waiting = [] ∧
          d.outbox = s.dev.outbox ++ (s.dev.hport port).waiting)) ∧
    (s.dev.portOpen port = false →
      ((s.dev.hport port).waiting.countP isRecord = 0 → answers (.cplLost port) s s.dev) ∧
      ((s.dev.hport port).waiting.countP isRecord ≠ 0 → ∃ d : Dev, answers (.cplLost port) s d ∧
        (d.hport port).waiting = (s.dev.hport port).waiting.filter (fun o => !isRecord o) ∧
        (d.hport port).cplLost = sat16 (s.dev.hport port).cplLost ((s.dev.hport port).waiting.countP isRecord) ∧
        d.rcv.log.length = s.dev.rcv.log.length + (if (s.dev.hport port).lostLogged then 0 else 1))) ∧
    (∀ vec, vec < 2048 → (s.dev.hport port).unmasked.contains vec = false →
      let d := s.dev.modHport port fun h => { h with unmasked := h.unmasked ++ [vec], pendingVec := h.pendingVec.filter (· ≠ vec) }
      ((s.dev.hport port).pendingVec.contains vec = true → answers (.msixUnmask port vec) s (d.hostSend port (.msix port vec))) ∧
      ((s.dev.hport port).pendingVec.contains vec = false → answers (.msixUnmask port vec) s d)) ∧
    ((s.dev.hport port).up = true → s.dev.perst port = false → 3 ≤ s.dev.boot.step ∨ s.dev.boot.halted = true →
      ∃ d : Dev, answers (.flr port) s d ∧ (d.hport port).unmasked = [] ∧ (d.hport port).pendingVec = [] ∧
        (d.hport port).d3hot = false)

/-- R391, R392, R398, R399, R507: the attention drain goes through its five phases; before release it is cancelled by a
second press or by software. The model's choices: log entries 12, 31. -/
def Obligations.AttentionDrain : Prop :=
  ∀ (s : State), s.dev.live = true →
    (s.dev.pinsTaken = false →
      (s.dev.takesPress = false →
        (let d := s.dev.wakeEvent
         answers .attnPress s { d with boot := { d.boot with attnHeld := true } }) ∧
        answers .attnForced s { s.dev with boot := { s.dev.boot with attnHeld := true } }) ∧
      (s.dev.takesPress = true →
        (s.dev.rcv.phase = 0 → s.dev.pow.lat = 0 → answers .attnPress s
          (({ s.dev with rcv := { s.dev.rcv with
                phase := 1, forced := false, blocked := false, drainCode := E_OK, releaseBit := false, cancelBit := false,
                pressMs := s.dev.clock } } : Dev).pressEvent E_OK)) ∧
        (1 ≤ s.dev.rcv.phase → s.dev.rcv.phase < 3 → ∃ d : Dev, answers .attnPress s d ∧ d.rcv.phase = 0) ∧
        (s.dev.rcv.phase < 3 → ∃ d : Dev, answers .attnForced s d ∧ d.rcv.phase = 3 ∧ d.rcv.forced = true ∧
          d.rcv.drainCode = E_ATTN_FORCED))) ∧
    (s.dev.rcv.phase = 2 → answers .attnRelease s { s.dev with rcv := { s.dev.rcv with phase := 3, releaseBit := true } } ∧
      (s.dev.rcv.blocked = false → answers .attnBlocked s
        (({ s.dev with rcv := { s.dev.rcv with blocked := true, drainCode := E_ATTN_BLOCKED } } : Dev).logE E_ATTN_BLOCKED 0))) ∧
    (s.dev.rcv.phase ≠ 2 → answers .attnRelease s s.dev) ∧
    (s.dev.rcv.phase = 1 ∨ s.dev.rcv.phase = 2 →
      answers .attnCancel s { s.dev with rcv := { s.dev.rcv with phase := 0, cancelBit := true } }) ∧
    (s.dev.rcv.phase = 3 →
      (s.dev.working = true →
        (let d := (s.dev.logE E_ATTN_DRAIN 0).endWork E_ATTN_DRAIN
         answers .attnDrain s { d with rcv := { d.rcv with drainCode := E_ATTN_DRAIN } }) ∧
        answers .attnQuiesceDone s s.dev) ∧
      (s.dev.working = false → answers .attnDrain s s.dev) ∧
      (s.dev.working = false → s.dev.posting = false →
        answers .attnQuiesceDone s
          (let d := (s.dev.closeCombining.breakAll false).breakAll true
           let d := ({ d with rcv := { d.rcv with phase := 4 } } : Dev).breakWhere (fun _ => true) E_ATTN_DRAIN
           d.fold ((List.range 6).filter fun p => (d.fport p).st != .absent && (d.fport p).st != .unused) fun s p => s.withdrawOwn p))) ∧
    (s.dev.rcv.phase = 4 → s.dev.combWaiting = false → s.dev.fab.detuning = false →
      ∃ d : Dev, answers .attnSafe s d ∧ d.rcv.phase = 5 ∧ d.rcv.safe = true ∧ ∀ e, e < 14 → (d.eng e).txOff = true)

/-- R80, R132–R141: IMG_RELOAD begins where no other reload runs; its image is checked, then the partition drains; the
switch comes when nothing of the partition runs, and otherwise the reload ends at the drain limit with the old settings
in force. The model's choices: log entries 11, 18. -/
def Obligations.LiveReload : Prop :=
  ∀ (s : State), s.dev.live = true →
    (∀ q e d img, q < 4096 → s.dev.runsMgmt q 1 e d →
      let iss : Issuer := .queue q
      let n := d.reloadPartOf (readImage img) iss
      let ms := ebytes e 44 2
      (1000 < ms → answers (.imgReload q img) s (d.answer iss E_MGMT_OPERAND)) ∧
      (ms ≤ 1000 → d.img.reload.isSome = true → answers (.imgReload q img) s (d.answer iss E_IMG_BUSY)) ∧
      (ms ≤ 1000 → d.img.reload = none → 4096 ≤ d.boot.log.length → answers (.imgReload q img) s (d.answer iss E_MEAS_LOG_FULL)) ∧
      (ms ≤ 1000 → d.img.reload = none → d.boot.log.length < 4096 → answers (.imgReload q img) s
        (({ d with img := { d.img with
              reload := some { part := n, image := readImage img, iss, drainMs := if ms = 0 then 10 else ms, phase := .check, failed := none }
              reloadPart := n } } : Dev).out (.hostFetch (d.portOf n) (BitVec.ofNat 64 (ebytes e 32 8)) (ebytes e 40 4))))) ∧
    (∀ r w, s.dev.img.reload = some r → s.dev.img.loaded = some w →
      (r.phase = .check →
        (∀ v, s.dev.checkReload w r.image r.part = some v →
          answers .reloadCheckDone s (s.dev.endReload r v.1 (BitVec.ofNat 8 v.2.1) (BitVec.ofNat 24 v.2.2))) ∧
        (s.dev.checkReload w r.image r.part = none → answers .reloadCheckDone s
          (({ s.dev with img := { s.dev.img with reload := some { r with phase := .drain } } } : Dev).resetTests fun kind unit =>
            ({ s.dev with img := { s.dev.img with reload := some { r with phase := .drain } } } : Dev).testOwnedBy kind unit r.part))) ∧
      (r.phase = .drain →
        (s.dev.partRuns r.part = false → s.dev.logFull = false → answers .reloadSwitch s ((s.dev.switchTo w r).endReload r E_OK 0xFF 0)) ∧
        (s.dev.partRuns r.part = false → s.dev.logFull = true → answers .reloadSwitch s (s.dev.endReload r E_MEAS_LOG_FULL 0xFF 0)) ∧
        (s.dev.partRuns r.part = false → answers .reloadDrainExpired s s.dev) ∧
        (s.dev.partRuns r.part = true → answers .reloadDrainExpired s (s.dev.endReload r E_IMG_RELOAD_DRAIN 0xFF 0) ∧
          answers .reloadSwitch s s.dev)))

/-- R79, R350, R641, R642, R690–R694: SUPV_N and the rails; SMBus commands answer from the shadows, and READ_CSR from
the register at the offset; a JTAG instruction beyond boundary scan is measured once in a start. The model's choices:
log entry 42. -/
def Obligations.Sideband : Prop :=
  ∀ (s : State),
    (s.dev.boot.powered = true → s.dev.pinsTaken = false →
      answers .readHb s (s.dev.out (.smbus s.dev.side.shHb)) ∧
      answers .readBoot s (s.dev.out (.smbus s.dev.side.shBoot)) ∧
      answers .readTemp s (s.dev.out (.smbus s.dev.side.shTemp)) ∧
      (∀ off, answers (.setOffset off) s { s.dev with side := { s.dev.side with offset := off } }) ∧
      (s.dev.live = false → answers .readCsr s (s.dev.out (.smbus (BitVec.allOnes 64)))) ∧
      (s.dev.live = true → s.dev.side.offset.toNat < 0x80000 →
        answers .readCsr s (s.dev.out (.smbus (s.dev.hubReg s.dev.side.offset.toNat))))) ∧
    (s.dev.pinsTaken = false →
      (s.dev.side.supvLow = false → ∃ d : Dev, answers (.supvN true) s d ∧ d.side.supvLow = true ∧ d.mem = {} ∧ d.cores = [] ∧
        d.boot.step = 0 ∧ d.pow.shutdown = s.dev.pow.shutdown ∧ d.side.shBoot = s.dev.side.shBoot) ∧
      (s.dev.side.supvLow = true → s.dev.boot.powered = true → s.dev.pow.shutdown = false →
        ∃ d : Dev, answers (.supvN false) s d ∧ d.side.supvLow = false ∧ d.boot.step = 1 ∧ d.boot.epoch = 1 ∧ d.mem = {}) ∧
      (s.dev.side.supvLow = true → s.dev.pow.shutdown = true →
        answers (.supvN false) s { s.dev with side := { s.dev.side with supvLow := false } })) ∧
    (∃ d : Dev, answers .powerRemove s d ∧ d.boot.powered = false ∧ d.pow.shutdown = false ∧ d.mem = {} ∧ d.cores = [] ∧
      d.boot.perst0 = s.dev.boot.perst0) ∧
    (s.dev.boot.powered = true →
      answers (.jtagInstruction .idcode) s
        (({ s.dev with side := { s.dev.side with ir := .idcode } } : Dev).out (.tdo s.dev.idcode)) ∧
      answers (.jtagInstruction .bypass) s { s.dev with side := { s.dev.side with ir := .bypass } } ∧
      ∀ n, s.dev.live = true → s.dev.boot.jtagSeen = true →
        answers (.jtagInstruction (.other n)) s { s.dev with side := { s.dev.side with ir := .other n } })

/-- R365, R416, R421, R422, R425, R427–R429, R436: a packet that comes in takes its input buffer and goes on, on a
circuit only as the next expected one; one whose segment cannot be used is held and, 20 µs later, dropped with notice. A
flit is taken up once and in order; one that fails its check is asked for again. Credits return, an audit compares both
ends, a route query answers the route. The model's choices: log entries 12, 15, 52. -/
def Obligations.PacketsAndCredits : Prop :=
  ∀ (s : State), s.dev.live = true →
    (∀ p via seq, p.ok = true → inputOk via = true → s.dev.img.loaded.isSome = true →
      let q := { p with inp := some (via, p.vc, p.cls) }
      ((∀ c, via ≠ .circuit c) → isTrunk via = false → answers (.packetForward p ⟨via, seq⟩) s (s.dev.forward q)) ∧
      (isTrunk via = true → answers (.packetForward p ⟨via, seq⟩) s (s.dev.fromTrunk q)) ∧
      (∀ c, via = .circuit c →
        (seq = (s.dev.ckt c).expect → answers (.packetForward p ⟨via, seq⟩) s
          ((s.dev.modCkt c fun k => { k with expect := k.expect + 1 }).forward q)) ∧
        (seq ≠ (s.dev.ckt c).expect → answers (.packetForward p ⟨via, seq⟩) s s.dev))) ∧
    (∀ (i : Nat) (p : Packet), s.dev.fab.held[i]? = some p →
      let d : Dev := { s.dev with fab := { s.dev.fab with held := dropAt s.dev.fab.held i } }
      (s.dev.nextUsable p = true → answers (.segmentReturn i) s (d.send p) ∧ answers (.noRouteHold i) s s.dev) ∧
      (s.dev.nextUsable p = false → answers (.segmentReturn i) s s.dev ∧
        answers (.noRouteHold i) s (d.dropNoRoute p E_FAB_NO_ROUTE))) ∧
    (∀ port pair seq symbols ok flit, port < 6 →
      ((s.dev.fport port).st ≠ .up → answers (.portFlitReceive port seq ⟨pair, symbols⟩ ok flit) s s.dev) ∧
      (∀ e f, (portPairs port)[pair]? = some (e, f) → (s.dev.fport port).st = .up → s.dev.tests.running = [] →
        ∃ d : Dev, answers (.portFlitReceive port seq ⟨pair, symbols⟩ ok flit) s d ∧
          (d.fport port).rx = (s.dev.fport port).rx.receive seq ok flit ∧
          (d.fib e f).uncorr1 = (if ok then (s.dev.fib e f).uncorr1 else sat8 (s.dev.fib e f).uncorr1) ∧
          d.outbox = s.dev.outbox ++ (if ok then [] else [.replay (.port port) 0 seq]))) ∧
    (∀ link vc cls n, link.ok = true →
      (∀ c, link = .circuit c → answers (.linkCredit link vc cls n) s
        ((s.dev.giveBack link vc cls n).modCkt c fun k => { k with unacked := ackFlits n k.unacked })) ∧
      (∀ p, link = .port p → answers (.linkCredit link vc cls n) s
        ((s.dev.giveBack link vc cls n).modFport p fun t => { t with unacked := ackPackets n t.unacked })) ∧
      (∀ k, link = .d2d k →
        let a := if senderOne k then 0 else min n (s.dev.link k).spent0
        answers (.linkCredit link vc cls n) s
          (s.dev.modLink k fun d => { d with spent0 := d.spent0 - a, spent1 := d.spent1 - (n - a) }))) ∧
    (∀ p, p < 6 →
      ((s.dev.fport p).creditHeld = true → (s.dev.fport p).rx.quiet = true →
        answers (.creditReturnAfterRetrain (.port p) 0) s
          ((s.dev.modFport p fun t => { t with creditHeld := false }).out (.quota (.port p) 0))) ∧
      ((s.dev.fport p).nbrHeld = true → (s.dev.fport p).unacked = [] →
        answers (.creditReturnAfterRetrain (.port p) 1) s
          ((s.dev.modFport p fun t => { t with nbrHeld := false }).fullQuota (.port p))) ∧
      ((s.dev.fport p).creditHeld = false → answers (.creditReturnAfterRetrain (.port p) 0) s s.dev) ∧
      ((s.dev.fport p).nbrHeld = false → answers (.creditReturnAfterRetrain (.port p) 1) s s.dev)) ∧
    (∀ link peer, link.ok = true →
      (s.dev.linkServes link = true → s.dev.fab.auditing.contains link = false →
        s.dev.fab.audited.contains (link, s.dev.clock) = false →
        answers (.creditAudit link) s
          (({ s.dev with fab := { s.dev.fab with
              auditing := addNew s.dev.fab.auditing link
              audited := (link, s.dev.clock) :: s.dev.fab.audited.filter (·.1 ≠ link) } } : Dev).out
            (.audit link (s.dev.auditOwn link)))) ∧
      (s.dev.fab.audited.contains (link, s.dev.clock) = true → answers (.creditAudit link) s s.dev) ∧
      (s.dev.fab.auditing.contains link = true →
        let d : Dev := { s.dev with fab := { s.dev.fab with auditing := s.dev.fab.auditing.filter (· ≠ link), audits := s.dev.fab.audits + 1 } }
        ((s.dev.auditOwn link).all (fun e => peer.contains e) = true → answers (.audit link peer) s d) ∧
        ((s.dev.auditOwn link).all (fun e => peer.contains e) = false → answers (.audit link peer) s
          (let d : Dev := { d with fab := { d.fab with mismatches := sat16 d.fab.mismatches, auditKind := auditKind link, auditIndex := auditIndex link } }
           (((d.logE E_FAB_CREDIT_AUDIT (linkKey link)).eventAll 8 E_FAB_CREDIT_AUDIT (linkKey link)).auditRetrain link))))) ∧
    (∀ port v, port < 2 → answers (.routeQuery port v) s
      { s.dev with fab := { s.dev.fab with query := fld v 0 14, result := s.dev.routeResult (fldN v 0 14) } })

/-- R414–R417, R432, R503, R506, R507: a circuit breaks at a BREAK notice or when its heartbeats stop, and comes back
once its light does and nothing is unacknowledged; a combining entry is flushed when its time is over and freed when its
answer does not come. The model's choices: log entries 12, 25. -/
def Obligations.CircuitsAndCombiningTimers : Prop :=
  ∀ (s : State) (n e : Nat), s.dev.live = true → n < 16 → e < 16384 →
    answers (.breakNotice n) s (s.dev.breakCkt n E_FAB_CKT_BREAK) ∧
    ((s.dev.ckt n).st = .up → answers (.circuitHeartbeatWdog n) s (s.dev.breakCkt n E_FAB_CKT_BREAK)) ∧
    ((s.dev.ckt n).st = .training → answers (.circuitHeartbeatWdog n) s s.dev) ∧
    (s.dev.fab.detuning = true → ∃ d : Dev, answers .detune s d ∧ d.fab.detuning = false ∧ d.fab.ckts = s.dev.fab.ckts) ∧
    (s.dev.cktLit n = true →
      ((s.dev.ckt n).st = .training → answers (.circuitRestore n) s (s.dev.modCkt n fun k => { k with st := .up })) ∧
      ((s.dev.ckt n).st = .broken →
        (n < 8 → answers (.circuitRestore n) s (s.dev.modCkt n fun k => { k with st := .returning })) ∧
        (8 ≤ n → answers (.circuitRestore n) s ((s.dev.modCkt n fun k => { k with st := .up }).logE E_FAB_CKT_RESTORE n)))) ∧
    (s.dev.cktLit n = false → answers (.circuitRestore n) s s.dev) ∧
    ((s.dev.ckt n).st = .returning → (s.dev.ckt n).unacked = [] →
      answers (.circuitReturn n) s ((s.dev.modCkt n fun k => { k with st := .up }).logE E_FAB_CKT_RESTORE n)) ∧
    ((s.dev.ckt n).unacked ≠ [] → answers (.circuitReturn n) s s.dev) ∧
    answers (.combiningFlush e) s (s.dev.flush e) ∧
    (∀ c, s.dev.comb e = some c → c.awaiting = true → s.dev.rcv.flushing = false →
      answers (.combiningStale e) s
        (let d := (s.dev.setComb e none).logE E_AXA_COMB_STALE e
         { d with axa := { d.axa with stale := sat8 d.axa.stale } })) ∧
    (s.dev.axa.closed = true → answers .combiningFlushWaitEnd s s.dev.dropStale.resetGo)

/-- R366–R370, R374–R376: an input more than 1.5 dB, more than 3 dB below its calibrated level is LOW, is LOST, and is
well again within 1.5 dB of it, after a calibration where it was LOST; a notice marks the fibres it names and ends the
qualification window that it explains; a failing wavelength moves to the lowest free spare of its fibre. R371, R375: the
wavelength that takes a failing neighbour slot over carried nothing and has not failed; the failing one carries no slot
any more. The model's choices: log entries 12, 25. -/
def Obligations.LaserSupplyAndWavelengths : Prop :=
  (∀ (s : State) (e f i : Nat) (pwr : Int), s.dev.live = true → e < 14 → f < 8 → i < 2 → s.dev.engThere e = true →
     let g := s.dev.eng e
     (g.input i = .ok → pwr < g.level i - 15 → answers (.laserLow e i pwr) s
       ((s.dev.modEng e fun g => { g.setInput i .low (g.against i pwr) with cause := E_ENG_LASER_LOW }).logE E_ENG_LASER_LOW e)) ∧
     (g.level i - 15 ≤ pwr → answers (.laserLow e i pwr) s s.dev) ∧
     (g.input i ≠ .lost → pwr < g.level i - 30 → answers (.laserLost e i pwr) s (s.dev.laserLost e i pwr)) ∧
     (g.level i - 30 ≤ pwr → answers (.laserLost e i pwr) s s.dev) ∧
     (g.input i = .lost → answers (.laserLost e i pwr) s s.dev ∧
       (g.level i - 15 ≤ pwr →
         answers (.laserRecover e i pwr) s (s.dev.modEng e fun g => g.setInput i .recalibrating (g.against i pwr)))) ∧
     (g.input i = .low → g.level i - 15 ≤ pwr →
       answers (.laserRecover e i pwr) s (s.dev.modEng e fun g => g.setInput i .ok (g.against i pwr))) ∧
     (pwr < g.level i - 15 → answers (.laserRecover e i pwr) s s.dev) ∧
     (g.input i = .recalibrating → answers (.laserRecalDone e i) s (s.dev.recalDone e i)) ∧
     (∀ fibres, ∃ d : Dev, answers (.laserNotice e fibres) s d ∧
       (∀ k, k < 8 → (d.fib e k).rxLost = (fibres.getLsbD k || (s.dev.fib e k).rxLost)) ∧
       (d.eng e).window = (g.window && d.unexplained e)) ∧
     (g.inReset = false → ((s.dev.fib e f).spares 0).isEmpty = false →
       answers (.continuousCalibration e f) s (s.dev.modFib e f fun b => { b with probes := b.probes + 1 })) ∧
     (∀ l : LambdaRef, l.ok = true → s.dev.engThere l.eng = true →
       ((s.dev.fib l.eng l.fib).neighbour l.dir l.lam = true → answers (.lambdaSwap l) s
         ((s.dev.stopTest 5 (8 * l.eng + l.fib)).swapSlot l)) ∧
       ((s.dev.fib l.eng l.fib).neighbour l.dir l.lam = false → answers (.lambdaSwap l) s s.dev) ∧
       answers (.throughFail l) s (s.dev.throughFail l))) ∧
  (∀ (d : Dev) (l : LambdaRef), l.ok = true →
     let f := d.fib l.eng l.fib
     let f' := (d.swapSlot l).fib l.eng l.fib
     f.neighbour l.dir l.lam = true →
       (f'.active l.dir).getLsbD l.lam = false ∧ (f'.failed l.dir).getLsbD l.lam = true ∧
       (∀ n t, f.spares l.dir = n :: t →
         (f'.active l.dir).getLsbD n = true ∧ (f.active l.dir).getLsbD n = false ∧ (f.failed l.dir).getLsbD n = false ∧
         (∀ m, m < n → (f.active l.dir).getLsbD m = true ∨ (f.through l.dir).getLsbD m = true ∨ (f.failed l.dir).getLsbD m = true)) ∧
       (f.spares l.dir = [] → ∀ m, m ≠ l.lam → (f'.active l.dir).getLsbD m = (f.active l.dir).getLsbD m))

/-- R368, R378–R389, R397: fibre pairs train, IDENT is taken and sent again, a neighbour that is missing or silent is
reported, and the port obeys its control bits. The model's choices: log entries 12, 25, 26. -/
def Obligations.PortsTrainAndDiscover : Prop :=
  ∀ (s : State) (e f p : Nat), s.dev.live = true → e < 14 → f < 8 → p < 6 →
    (∀ failed, s.dev.canTrain e = true →
      (s.dev.fib e f).training = true ∨ ((s.dev.fib e f).rxLost = true ∧ (s.dev.fib e f).txLost = false) →
      answers (.fibrePairTrained e f failed) s (s.dev.pairTrained e f failed)) ∧
    (∀ m, (s.dev.hears e = true → answers (.ident e f m) s (s.dev.heard e f m)) ∧
      (s.dev.hears e = false → answers (.ident e f m) s s.dev)) ∧
    ((s.dev.fport p).st ≠ .up → answers (.identResend p) s (s.dev.sendIdents p)) ∧
    ((s.dev.fport p).st = .up → answers (.identResend p) s s.dev) ∧
    ((s.dev.fport p).heldBySw = false →
      ((s.dev.fport p).st = .noNeighbour ∨ (s.dev.fport p).st = .linkFault ∨ (s.dev.fport p).st = .withdrawn → s.dev.rcv.phase < 4 →
        answers (.trainingRetry p) s (s.dev.trainPort p))) ∧
    ((s.dev.fport p).nbr = none → (s.dev.fport p).st = .training → s.dev.img.loaded.isSome = true →
      (s.dev.portUnused p = true → answers (.portMissing p) s (s.dev.modFport p fun t => { t with st := .unused })) ∧
      (s.dev.portUnused p = false → answers (.portMissing p) s
        ((s.dev.modFport p fun t => { t with st := .noNeighbour, cause := E_PORT_MISSING }).logE E_PORT_MISSING p))) ∧
    (s.dev.canTrain e = true → answers (.heartbeatWdog e f) s (s.dev.heartbeatLost e f)) ∧
    ((s.dev.eng e).window = true → answers (.qualificationWindowEnd e) s
      (((s.dev.modEng e fun g => { g with window := false, linkFault := true, cause := E_PORT_LINK_FAULT }).replayPort (portOfEng e)).portFault
        (portOfEng e))) ∧
    (s.dev.canTrain e = true → (s.dev.fport (portOfEng e)).st = .quarantined →
      answers (.signalRegain e) s (s.dev.rediscover (portOfEng e))) ∧
    (s.dev.canTrain e = true → (s.dev.fib e f).up = true → (s.dev.fib e f).txLost = false →
      answers (.idleControlFlit e f) s
        (((s.dev.count (bankEng e) 0x65).modFib e f fun b => { b with idles := b.idles + 1 }).out (.idleFlit e f))) ∧
    (∀ engines, answers (.withdraw p engines) s (s.dev.withdrawn p engines)) ∧
    (s.dev.portSel = some p →
      (∀ on, answers (.portLocate on) s (s.dev.modFport p fun t => { t with locate := on })) ∧
      ((s.dev.fport p).heldBySw = false →
        ((enginesOf p).any (fun e => (s.dev.eng e).laserLost) = false → answers .portRetrain s (s.dev.retrainPort p)) ∧
        ((enginesOf p).any (fun e => (s.dev.eng e).laserLost) = true →
          answers .portRetrain s (s.dev.modFport p fun t => { t with retrainBit := true, retrainDeferred := true })) ∧
        answers .portRediscover s ((s.dev.modFport p fun t => { t with rediscoverBit := true }).rediscover p) ∧
        answers .portWithdraw s ((s.dev.withdrawOwn p).modFport p fun t => { t with heldBySw := true, retrainBit := false, restoreBit := false })) ∧
      ((s.dev.fport p).heldBySw = true →
        answers .portRetrain s s.dev ∧ answers .portRediscover s s.dev ∧ answers .portWithdraw s s.dev) ∧
      ((s.dev.fport p).st = .withdrawn → s.dev.rcv.phase < 4 → answers .portRestore s
        (((s.dev.modFport p fun t => { t with heldBySw := false, restoreBit := true, st := .training }).trainPort p).trainEnd p)))

/-- R623–R625, R634, R645–R649, R652, R656, R689: modes change one at a time, a write during a change waits, code 3 is
refused; latency-tolerance states are entered by an idle device and left at a wake event; a silent regulator and a lost
reference are reported. The model's choices: log entries 30, 32. -/
def Obligations.ModesAndLatencyStates : Prop :=
  ∀ (s : State), s.dev.live = true →
    (∀ port, port < 2 → answers (.modeChange port 3) s (s.dev.logE E_PWR_MODE_BAD 0)) ∧
    (∀ port m, port < 2 → m ≠ 3 → s.dev.ready = true →
      (s.dev.pow.change.isSome = true →
        answers (.modeChange port m) s { s.dev with pow := { s.dev.pow with mode := m, later := some m } }) ∧
      (s.dev.pow.change = none → s.dev.pow.modeNow ≠ m → ∃ d : Dev, answers (.modeChange port m) s d ∧
        d.pow.change = some m ∧ d.pow.mode = m ∧ d.pow.modeNow = s.dev.pow.modeNow)) ∧
    (∀ m, s.dev.pow.change = some m → s.dev.dipInForce = false → s.dev.pow.later = none →
      ∃ d : Dev, answers .modeChangeDone s d ∧ d.pow.modeNow = m ∧ d.pow.change = none) ∧
    (s.dev.dipInForce = true → answers .modeChangeDone s s.dev) ∧
    (∀ r, r < 8 → ∃ d : Dev, answers (.vrNoAck r) s d ∧ (d.rail (regRail r)).noAck = true) ∧
    (∀ port v, port < 2 → s.dev.pow.lat = 0 → answers (.latTol port v) s
      { s.dev with pow := if port = 0 then { s.dev.pow with lt0 := fld v 0 20 } else { s.dev.pow with lt1 := fld v 20 20 } }) ∧
    (∀ c, c < 32 → s.dev.ready = true → s.dev.coreUsable c = true → s.dev.coreBusy c = false → 1 ≤ s.dev.latTarget →
      s.dev.coreIdle c = true → answers (.coreP1Entry c) s (s.dev.modCore c fun k => { k with p1 := true })) ∧
    (s.dev.ready = true → s.dev.inReset 6 0 = false → s.dev.latTarget = 2 → s.dev.pow.lat ≠ 2 → s.dev.pow.waking = false →
      s.dev.deviceIdle = true → answers .latencyStateEntry s { s.dev with pow := { s.dev.pow with lat := 2 } }) ∧
    (s.dev.deviceIdle = false → answers .latencyStateEntry s s.dev) ∧
    (s.dev.pow.lat = 2 → s.dev.pow.waking = true → answers .latencyStateExit s
      { s.dev with pow := { s.dev.pow with lat := 0, waking := false }
                   cores := s.dev.cores.map fun c => (c.1, { c.2 with p1 := false }) }) ∧
    (s.dev.pow.fabRef = true → answers .clkRefLost s
      (({ s.dev with pow := { s.dev.pow with fabRef := false, holdover := true, holdMs := 0 } } : Dev).logE E_CLK_REF_LOST 0)) ∧
    answers .clkRefReturn s { s.dev with pow := { s.dev.pow with fabRef := true, holdover := false } }

/-- R628–R633: the power step and the forced mode, the fast limit of a compute die, and what a rail that dips does: a
floor at its warning level, a reset at its reset level, the poison of a stack that stays below it. The model's choices:
log entries 12, 30. -/
def Obligations.PowerLimitAndDips : Prop :=
  ∀ (s : State), s.dev.live = true →
    (10 ≤ s.dev.pow.lowRounds →
      answers .pstepLower s { s.dev with pow := { s.dev.pow with pstep := s.dev.pow.pstep - 1, lowRounds := 0 } }) ∧
    (s.dev.pow.lowRounds < 10 → answers .pstepLower s s.dev) ∧
    (100 ≤ s.dev.pow.overRounds → s.dev.pow.forced = false → s.dev.pow.forceLogged = false → s.dev.pow.modeNow ≠ 2 →
      ∃ d : Dev, answers .pwrModeForced s d ∧ d.pow.forced = true ∧ (∀ n, n < 4 → d.dieMode n = 2)) ∧
    (1000 ≤ s.dev.pow.easyRounds → s.dev.pow.forced = true →
      ∃ d : Dev, answers .pwrForceEnd s d ∧ d.pow.forced = false) ∧
    (∀ n amps, n < 4 →
      (amps ≤ modeAmps (s.dev.dieMode n) → answers (.pwrFastLimit ⟨n, amps⟩) s s.dev) ∧
      (modeAmps (s.dev.dieMode n) < amps → answers (.pwrFastLimit ⟨n, amps⟩) s
        ((s.dev.modDieT n fun d => { d with curFloor := min 15 (s.dev.powerStep n + 4) }).logE E_PWR_FAST_LIMIT n))) ∧
    (∀ r mv, r < 41 →
      (95 * s.dev.railSet r ≤ 100 * mv → answers (.dipWarn ⟨r, mv⟩) s s.dev) ∧
      (s.dev.railThere r = true → 100 * mv < 95 * s.dev.railSet r →
        (railStack r = none → answers (.dipWarn ⟨r, mv⟩) s (s.dev.modRail r fun x =>
          { x with dips := min 0xFFF (x.dips + 1), dipped := true, toLog := true })) ∧
        (∀ k, railStack r = some k →
          ∃ d : Dev, answers (.dipWarn ⟨r, mv⟩) s d ∧ (d.rail r).dipped = true ∧ (d.stk k).level = 15)) ∧
      (s.dev.railThere r = true → 100 * mv < 90 * s.dev.railSet r →
        (∀ k, railStack r = some k → answers (.dipReset ⟨r, mv⟩) s (s.dev.beginStack k E_PWR_DIP_RESET false)) ∧
        (r < 4 → answers (.dipReset ⟨r, mv⟩) s (s.dev.beginDie r E_PWR_DIP_RESET false)) ∧
        (r = 5 → answers (.dipReset ⟨r, mv⟩) s (s.dev.fold (List.range 4) fun s n => s.beginDie n E_PWR_DIP_RESET false)) ∧
        (r = 38 ∨ r = 39 → answers (.dipReset ⟨r, mv⟩) s (s.dev.fold (List.range 14) fun s e => s.beginLink e E_PWR_DIP_RESET false)) ∧
        (r = 4 ∨ r = 40 → answers (.dipReset ⟨r, mv⟩) s (s.dev.beginDevice E_PWR_DIP_RESET false))) ∧
      (90 * s.dev.railSet r ≤ 100 * mv → answers (.dipReset ⟨r, mv⟩) s s.dev) ∧
      (railStack r = none → 96 * s.dev.railSet r < 100 * mv → answers (.dipFloorRelease ⟨r, mv⟩) s (s.dev.modRail r fun x => { x with dipped := false })) ∧
      (∀ k, railStack r = some k → s.dev.railThere r = true → 96 * s.dev.railSet r < 100 * mv →
        ∃ d : Dev, answers (.dipFloorRelease ⟨r, mv⟩) s d ∧ (d.rail r).dipped = false ∧
        (d.stk k).dipSteep = false)) ∧
    (∀ k mv, k < 32 →
      (s.dev.stackFitted k = true → 100 * mv < 90 * s.dev.railSet (k + 6) →
        answers (.pwrStackLost ⟨k, mv⟩) s ((s.dev.fold (List.range 31) fun s p => s.poisonChan k p).logE E_PWR_STACK_LOST k)) ∧
      (s.dev.stackFitted k = false → answers (.pwrStackLost ⟨k, mv⟩) s s.dev))

/-- R635–R642: the housekeeping round, the thermal steps and forced modes of a compute die, excluded sensors, regions
that differ, and the latched shutdown. R347: the steep level of a stack is 0 up to 85 °C, rises with the temperature and
is 15 from 95 °C on. R653, R654: a correction table at a temperature: the end values beyond it, the entries at its
points, and values between neighbouring entries between them. The model's choices: log entries 12, 49, 56. -/
def Obligations.ThermalCommands : Prop :=
  (∀ (s : State), s.dev.live = true →
     (∀ r, answers (.housekeepingRound r) s (s.dev.round r)) ∧
     (∀ n, n < 4 →
       (10 ≤ (s.dev.dieT n).cool → (s.dev.dieT n).blind = false →
         answers (.tstepLower n) s (s.dev.modDieT n fun d => { d with cool := 0, tstep := d.tstep - 1 })) ∧
       ((s.dev.dieT n).cool < 10 → answers (.tstepLower n) s s.dev) ∧
       (100 ≤ (s.dev.dieT n).hot → (s.dev.dieT n).forced = false →
         ∃ d : Dev, answers (.thermModeForced n) s d ∧ d.dieMode n = 2 ∧ d.pow.modeNow = s.dev.pow.modeNow) ∧
       (1000 ≤ (s.dev.dieT n).cold → (s.dev.dieT n).forced = true →
         ∃ d : Dev, answers (.thermForceEnd n) s d ∧ (d.dieT n).forced = false)) ∧
     (∀ (u : TUnit) (i : Nat), u.ok = true → i < u.sensors →
       (s.dev.sensorRounds u i < 3 → answers (.thermSensor u i) s s.dev) ∧
       (3 ≤ s.dev.sensorRounds u i → s.dev.pow.excluded.contains (u, i) = false →
         ∃ d : Dev, answers (.thermSensor u i) s d ∧ d.pow.excluded = s.dev.pow.excluded ++ [(u, i)])) ∧
     (∀ hot cold : TUnit, hot.ok = true → cold.ok = true → s.dev.pow.deltaOn.contains (hot, cold) = false →
       (s.dev.pow.deltas.any fun e => e.1 == hot && e.2.1 == cold && decide (3 ≤ e.2.2)) = true →
       answers (.clkDeltaT hot cold) s
         ((({ s.dev with pow := { s.dev.pow with deltaOn := s.dev.pow.deltaOn ++ [(hot, cold)] } } : Dev).logE E_CLK_DELTA_T
           (unitNum hot)).deltaStep hot)) ∧
     (∀ (u : TUnit) (t : Int), u.ok = true →
       (shutdownAt u ≤ t → ∃ d : Dev, answers (.thermalShutdown ⟨u, t⟩) s d ∧ d.pow.shutdown = true ∧ d.side.thermtrip = true ∧
         ∀ e, e < 14 → (d.eng e).txOff = true) ∧
       (t < shutdownAt u → answers (.thermalShutdown ⟨u, t⟩) s s.dev))) ∧
  (∀ t u : Int, (t ≤ 850 → steepOf t = 0) ∧ (850 < t → 1 ≤ steepOf t) ∧ (950 ≤ t → steepOf t = 15) ∧ steepOf t ≤ 15 ∧
     (t ≤ u → steepOf t ≤ steepOf u)) ∧
  (∀ (l : List Int), l.length = 17 →
     (∀ t, t ≤ -100 → tableAt l t = l.getD 0 0) ∧ (∀ t, 1500 ≤ t → tableAt l t = l.getD 16 0) ∧
     (∀ n : Nat, n < 17 → tableAt l (100 * (n : Int) - 100) = l.getD n 0) ∧
     (∀ (n : Nat) (t : Int), n < 16 → 100 * (n : Int) - 100 ≤ t → t ≤ 100 * (n : Int) →
       (l.getD n 0 ≤ l.getD (n + 1) 0 → l.getD n 0 ≤ tableAt l t ∧ tableAt l t ≤ l.getD (n + 1) 0) ∧
       (l.getD (n + 1) 0 ≤ l.getD n 0 → l.getD (n + 1) 0 ≤ tableAt l t ∧ tableAt l t ≤ l.getD n 0)))

/-- A step takes the command at the front of the queue and runs it with the queue's rest; with no command waiting, every
clock advances by one cycle, and the cycle counter of a core whose clock runs by one, while those of all other cores
stand (R284, R672; log entry 8). The model's choices: log entries 8, 51. -/
def Obligations.StepTakesTheFront : Prop :=
  ∀ (s : State),
    (∀ c rest, s.pending = c :: rest → step s = exec c { s with pending := rest }) ∧
    (s.pending = [] → ∃ t, step s = .next t ∧ t.pending = [] ∧
      ∀ c, c < 32 → s.dev.live = true → s.dev.pow.lat < 2 →
        (s.dev.coreClocked c = true → (t.dev.core c).cycle = (s.dev.core c).cycle + 1) ∧
        (s.dev.coreClocked c = false → (t.dev.core c).cycle = (s.dev.core c).cycle))

/-- The model's totality (log entry 4): every command answers a next state and leaves the queue as it is; one with
ill-formed operands changes nothing. R690, R692: on a package that does not run, only the supply, the pins and the
sideband act. The model's choices: log entry 4. -/
def Obligations.EveryCommandAnswers : Prop :=
  ∀ (c : Instr) (s : State),
    (∃ t, exec c s = .next t ∧ t.pending = s.pending) ∧
    (c.wf = false → exec c s = .next s) ∧
    (actsWithoutPower c = false → s.dev.live = false → exec c s = .next s)

/-- R301: no thread waits for a counter that has reached its target: every step keeps this. -/
def Obligations.EveryStepKeepsThreadsSettled : Prop :=
  ∀ (s t : State), s.settled → step s = .next t → t.settled

/-- The state before power-good: nothing waits, memory is canonical, no thread runs; the registers read the reset values
that their rules give, and all others zero. The model's choices: log entries 2, 10. -/
def Obligations.ResetState : Prop :=
  State.reset.settled ∧ State.reset.memWf ∧ State.reset.pending = [] ∧ State.reset.dev.quiet = true ∧
  (∀ x : Tid, (State.reset.dev.thr x).st = .empty) ∧ (∀ i, State.reset.dev.ctr i = 0) ∧
  (State.reset.dev.hubReg 0x700 = 0x14 ∧ State.reset.dev.hubReg 0x800 = 0x4001 ∧ State.reset.dev.hubReg 0xB00 = 0x64 ∧
    State.reset.dev.hubReg 0x528 = 0x3C0000) ∧
  (∀ off ∈ [0x80, 0x100, 0x108, 0x110, 0x120, 0x130, 0x310, 0x400, 0x508, 0x520, 0x618, 0x630, 0x638, 0x708, 0x710, 0x728, 0x748, 0x808,
      0x920, 0xA08, 0xA18, 0xB08, 0xB10, 0xB18, 0xB20, 0xC10, 0xC18], State.reset.dev.hubReg off = 0)

/-- R276–R280: the word of an instruction decodes to the instruction, at every value of its fields; and a word whose
opcode is listed is the word of what it decodes to. R276, R280: words written out field by field from the encoding
decode to the instructions they stand for. -/
def Obligations.DecodeAndEncodeAgree : Prop :=
  ((∀ (c : Instr) (opc : BitVec 8) (x : Tid) (i : Insn), coreFields c = some (opc, x, i) →
     ∃ w, encode c = some w ∧ decodeCore x w = c) ∧
   (∀ (x : Tid) (w : Word), (coreFields (decodeCore x w)).isSome = true → encode (decodeCore x w) = some w) ∧
   (∀ (c d : Instr) (w : Word), encode c = some w → encode d = some w → (coreFields c).map (·.2.1) = (coreFields d).map (·.2.1) → c = d)) ∧
  (∀ x : Tid,
     decodeCore x 0x00000000_00000000 = .nop x ⟨0, 0, 0, 0, 0, 0⟩ ∧
     decodeCore x 0x00000000_000C4302 = .add x ⟨3, 2, 3, 0, 0, 0⟩ ∧
     decodeCore x 0xFFFFFFFF_00004310 = .addi x ⟨3, 2, 0, 0, 0, 0xFFFFFFFF⟩ ∧
     decodeCore x 0x00000010_30008140 = .ld x ⟨1, 4, 0, 0, 3, 0x10⟩ ∧
     decodeCore x 0x00000000_100020C0 = .mload x ⟨0, 1, 0, 0, 1, 0⟩ ∧
     decodeCore x 0x00000000_0000000F = .illegalInstruction x 0xF)

/-- What settles at the end of a command changes nothing but the shadows of the sideband where nothing waits; and an
instruction whose effect is a change of its own thread leaves everything else as it is: the other threads, every array,
every byte of the core stores and of HBM, the counters, and the rest of the device. R149, R172, R287: a store to a core
store writes the bytes that its mask names and no other byte of any core store, of HBM or of a register; a register
write leaves the other registers of its kind as they are. -/
def Obligations.RegisterAndStoreFrames : Prop :=
  ((∀ d : Dev, d.quiet = true → d.finish = d.shadows) ∧
   ∀ (c : Instr) (x : Tid) (f : Thread → Thread) (s t : State), s.dev.quiet = true → x.ok = true → (f (s.dev.thr x)).st = .ready →
     answers c s ((s.dev.issued x).modThr x f) → exec c s = .next t →
     t.pending = s.pending ∧ t.dev.thr x = f (s.dev.thr x) ∧ (∀ y, y ≠ x → t.dev.thr y = s.dev.thr y) ∧
     (∀ k a, t.dev.arr k a = s.dev.arr k a) ∧ (∀ k off, getByte (t.dev.core k).store off = getByte (s.dev.core k).store off) ∧
     (∀ a, getByte t.dev.mem.data a = getByte s.dev.mem.data a) ∧ t.dev.mem = s.dev.mem ∧ t.dev.sync = s.dev.sync ∧ t.dev.fab = s.dev.fab ∧
     t.dev.ra = s.dev.ra ∧ t.dev.copy = s.dev.copy ∧ t.dev.axa = s.dev.axa ∧ t.dev.host = s.dev.host ∧ t.dev.pow = s.dev.pow ∧
     t.dev.rcv = s.dev.rcv ∧ t.dev.csr = s.dev.csr ∧ t.dev.outbox = s.dev.outbox ∧ t.dev.img = s.dev.img ∧ t.dev.boot = s.dev.boot) ∧
  ((∀ (d : Dev) (c off mask : Nat) (bytes : List Byte),
     let t := d.storeWrite c off bytes mask
     (∀ k a, getByte (t.core k).store a =
       if k = c ∧ off ≤ a ∧ a < off + bytes.length ∧ mask.testBit (a - off) = true then bytes.getD (a - off) 0
       else getByte (d.core k).store a) ∧
     (∀ y, t.thr y = d.thr y) ∧ t.mem = d.mem ∧ t.sync = d.sync ∧ t.fab = d.fab ∧ t.csr = d.csr ∧ ∀ k a, t.arr k a = d.arr k a) ∧
   ∀ (t : Thread) (r : BitVec 5) (q : BitVec 3) (w : Word) (v : VReg) (p : PReg),
     (t.wg 0 w).g = t.g ∧ t.rg 0 = 0 ∧ (r ≠ 0 → (t.wg r w).rg r = w) ∧ (∀ k, k ≠ r → (t.wg r w).rg k = t.rg k) ∧
     (t.wg r w).v = t.v ∧ (t.wg r w).p = t.p ∧ (t.wv r v).rv r = v ∧ (∀ k, k ≠ r → (t.wv r v).rv k = t.rv k) ∧ (t.wv r v).g = t.g ∧
     (t.wv r v).p = t.p ∧ (t.wp 0 p).p = t.p ∧ t.rp 0 = BitVec.allOnes 512 ∧ (q ≠ 0 → (t.wp q p).rp q = p) ∧
     (∀ k, k ≠ q → (t.wp q p).rp k = t.rp k))
end

