-- ==== Sys2Proof/Laws/State.lean ====
section
/-! SUPPORT. What each named update of the state leaves alone: one lemma per field per update, so that no proof unfolds a
record update. -/

set_option Elab.async false

namespace Sys2Proof.Machine

variable (s : Dev)

/-! ### `Dev.setCore` changes `cores` only -/

@[simp] theorem Dev.setCore_clock (c : Nat) (v : Core) : (s.setCore c v).clock = s.clock := rfl
@[simp] theorem Dev.setCore_boot (c : Nat) (v : Core) : (s.setCore c v).boot = s.boot := rfl
@[simp] theorem Dev.setCore_tests (c : Nat) (v : Core) : (s.setCore c v).tests = s.tests := rfl
@[simp] theorem Dev.setCore_img (c : Nat) (v : Core) : (s.setCore c v).img = s.img := rfl
@[simp] theorem Dev.setCore_d2d (c : Nat) (v : Core) : (s.setCore c v).d2d = s.d2d := rfl
@[simp] theorem Dev.setCore_sched (c : Nat) (v : Core) : (s.setCore c v).sched = s.sched := rfl
@[simp] theorem Dev.setCore_sync (c : Nat) (v : Core) : (s.setCore c v).sync = s.sync := rfl
@[simp] theorem Dev.setCore_mem (c : Nat) (v : Core) : (s.setCore c v).mem = s.mem := rfl
@[simp] theorem Dev.setCore_fab (c : Nat) (v : Core) : (s.setCore c v).fab = s.fab := rfl
@[simp] theorem Dev.setCore_ra (c : Nat) (v : Core) : (s.setCore c v).ra = s.ra := rfl
@[simp] theorem Dev.setCore_copy (c : Nat) (v : Core) : (s.setCore c v).copy = s.copy := rfl
@[simp] theorem Dev.setCore_axa (c : Nat) (v : Core) : (s.setCore c v).axa = s.axa := rfl
@[simp] theorem Dev.setCore_coll (c : Nat) (v : Core) : (s.setCore c v).coll = s.coll := rfl
@[simp] theorem Dev.setCore_host (c : Nat) (v : Core) : (s.setCore c v).host = s.host := rfl
@[simp] theorem Dev.setCore_pow (c : Nat) (v : Core) : (s.setCore c v).pow = s.pow := rfl
@[simp] theorem Dev.setCore_rcv (c : Nat) (v : Core) : (s.setCore c v).rcv = s.rcv := rfl
@[simp] theorem Dev.setCore_evc (c : Nat) (v : Core) : (s.setCore c v).evc = s.evc := rfl
@[simp] theorem Dev.setCore_side (c : Nat) (v : Core) : (s.setCore c v).side = s.side := rfl
@[simp] theorem Dev.setCore_csr (c : Nat) (v : Core) : (s.setCore c v).csr = s.csr := rfl
@[simp] theorem Dev.setCore_outbox (c : Nat) (v : Core) : (s.setCore c v).outbox = s.outbox := rfl
@[simp] theorem Dev.setCore_free (c : Nat) (v : Core) : (s.setCore c v).free = s.free := rfl

/-! ### `Dev.modCore` changes `cores` only -/

@[simp] theorem Dev.modCore_clock (c : Nat) (f : Core → Core) : (s.modCore c f).clock = s.clock := rfl
@[simp] theorem Dev.modCore_boot (c : Nat) (f : Core → Core) : (s.modCore c f).boot = s.boot := rfl
@[simp] theorem Dev.modCore_tests (c : Nat) (f : Core → Core) : (s.modCore c f).tests = s.tests := rfl
@[simp] theorem Dev.modCore_img (c : Nat) (f : Core → Core) : (s.modCore c f).img = s.img := rfl
@[simp] theorem Dev.modCore_d2d (c : Nat) (f : Core → Core) : (s.modCore c f).d2d = s.d2d := rfl
@[simp] theorem Dev.modCore_sched (c : Nat) (f : Core → Core) : (s.modCore c f).sched = s.sched := rfl
@[simp] theorem Dev.modCore_sync (c : Nat) (f : Core → Core) : (s.modCore c f).sync = s.sync := rfl
@[simp] theorem Dev.modCore_mem (c : Nat) (f : Core → Core) : (s.modCore c f).mem = s.mem := rfl
@[simp] theorem Dev.modCore_fab (c : Nat) (f : Core → Core) : (s.modCore c f).fab = s.fab := rfl
@[simp] theorem Dev.modCore_ra (c : Nat) (f : Core → Core) : (s.modCore c f).ra = s.ra := rfl
@[simp] theorem Dev.modCore_copy (c : Nat) (f : Core → Core) : (s.modCore c f).copy = s.copy := rfl
@[simp] theorem Dev.modCore_axa (c : Nat) (f : Core → Core) : (s.modCore c f).axa = s.axa := rfl
@[simp] theorem Dev.modCore_coll (c : Nat) (f : Core → Core) : (s.modCore c f).coll = s.coll := rfl
@[simp] theorem Dev.modCore_host (c : Nat) (f : Core → Core) : (s.modCore c f).host = s.host := rfl
@[simp] theorem Dev.modCore_pow (c : Nat) (f : Core → Core) : (s.modCore c f).pow = s.pow := rfl
@[simp] theorem Dev.modCore_rcv (c : Nat) (f : Core → Core) : (s.modCore c f).rcv = s.rcv := rfl
@[simp] theorem Dev.modCore_evc (c : Nat) (f : Core → Core) : (s.modCore c f).evc = s.evc := rfl
@[simp] theorem Dev.modCore_side (c : Nat) (f : Core → Core) : (s.modCore c f).side = s.side := rfl
@[simp] theorem Dev.modCore_csr (c : Nat) (f : Core → Core) : (s.modCore c f).csr = s.csr := rfl
@[simp] theorem Dev.modCore_outbox (c : Nat) (f : Core → Core) : (s.modCore c f).outbox = s.outbox := rfl
@[simp] theorem Dev.modCore_free (c : Nat) (f : Core → Core) : (s.modCore c f).free = s.free := rfl

/-! ### `Dev.setThr` changes `cores` only -/

@[simp] theorem Dev.setThr_clock (x : Tid) (t : Thread) : (s.setThr x t).clock = s.clock := rfl
@[simp] theorem Dev.setThr_boot (x : Tid) (t : Thread) : (s.setThr x t).boot = s.boot := rfl
@[simp] theorem Dev.setThr_tests (x : Tid) (t : Thread) : (s.setThr x t).tests = s.tests := rfl
@[simp] theorem Dev.setThr_img (x : Tid) (t : Thread) : (s.setThr x t).img = s.img := rfl
@[simp] theorem Dev.setThr_d2d (x : Tid) (t : Thread) : (s.setThr x t).d2d = s.d2d := rfl
@[simp] theorem Dev.setThr_sched (x : Tid) (t : Thread) : (s.setThr x t).sched = s.sched := rfl
@[simp] theorem Dev.setThr_sync (x : Tid) (t : Thread) : (s.setThr x t).sync = s.sync := rfl
@[simp] theorem Dev.setThr_mem (x : Tid) (t : Thread) : (s.setThr x t).mem = s.mem := rfl
@[simp] theorem Dev.setThr_fab (x : Tid) (t : Thread) : (s.setThr x t).fab = s.fab := rfl
@[simp] theorem Dev.setThr_ra (x : Tid) (t : Thread) : (s.setThr x t).ra = s.ra := rfl
@[simp] theorem Dev.setThr_copy (x : Tid) (t : Thread) : (s.setThr x t).copy = s.copy := rfl
@[simp] theorem Dev.setThr_axa (x : Tid) (t : Thread) : (s.setThr x t).axa = s.axa := rfl
@[simp] theorem Dev.setThr_coll (x : Tid) (t : Thread) : (s.setThr x t).coll = s.coll := rfl
@[simp] theorem Dev.setThr_host (x : Tid) (t : Thread) : (s.setThr x t).host = s.host := rfl
@[simp] theorem Dev.setThr_pow (x : Tid) (t : Thread) : (s.setThr x t).pow = s.pow := rfl
@[simp] theorem Dev.setThr_rcv (x : Tid) (t : Thread) : (s.setThr x t).rcv = s.rcv := rfl
@[simp] theorem Dev.setThr_evc (x : Tid) (t : Thread) : (s.setThr x t).evc = s.evc := rfl
@[simp] theorem Dev.setThr_side (x : Tid) (t : Thread) : (s.setThr x t).side = s.side := rfl
@[simp] theorem Dev.setThr_csr (x : Tid) (t : Thread) : (s.setThr x t).csr = s.csr := rfl
@[simp] theorem Dev.setThr_outbox (x : Tid) (t : Thread) : (s.setThr x t).outbox = s.outbox := rfl
@[simp] theorem Dev.setThr_free (x : Tid) (t : Thread) : (s.setThr x t).free = s.free := rfl

/-! ### `Dev.modThr` changes `cores` only -/

@[simp] theorem Dev.modThr_clock (x : Tid) (f : Thread → Thread) : (s.modThr x f).clock = s.clock := rfl
@[simp] theorem Dev.modThr_boot (x : Tid) (f : Thread → Thread) : (s.modThr x f).boot = s.boot := rfl
@[simp] theorem Dev.modThr_tests (x : Tid) (f : Thread → Thread) : (s.modThr x f).tests = s.tests := rfl
@[simp] theorem Dev.modThr_img (x : Tid) (f : Thread → Thread) : (s.modThr x f).img = s.img := rfl
@[simp] theorem Dev.modThr_d2d (x : Tid) (f : Thread → Thread) : (s.modThr x f).d2d = s.d2d := rfl
@[simp] theorem Dev.modThr_sched (x : Tid) (f : Thread → Thread) : (s.modThr x f).sched = s.sched := rfl
@[simp] theorem Dev.modThr_sync (x : Tid) (f : Thread → Thread) : (s.modThr x f).sync = s.sync := rfl
@[simp] theorem Dev.modThr_mem (x : Tid) (f : Thread → Thread) : (s.modThr x f).mem = s.mem := rfl
@[simp] theorem Dev.modThr_fab (x : Tid) (f : Thread → Thread) : (s.modThr x f).fab = s.fab := rfl
@[simp] theorem Dev.modThr_ra (x : Tid) (f : Thread → Thread) : (s.modThr x f).ra = s.ra := rfl
@[simp] theorem Dev.modThr_copy (x : Tid) (f : Thread → Thread) : (s.modThr x f).copy = s.copy := rfl
@[simp] theorem Dev.modThr_axa (x : Tid) (f : Thread → Thread) : (s.modThr x f).axa = s.axa := rfl
@[simp] theorem Dev.modThr_coll (x : Tid) (f : Thread → Thread) : (s.modThr x f).coll = s.coll := rfl
@[simp] theorem Dev.modThr_host (x : Tid) (f : Thread → Thread) : (s.modThr x f).host = s.host := rfl
@[simp] theorem Dev.modThr_pow (x : Tid) (f : Thread → Thread) : (s.modThr x f).pow = s.pow := rfl
@[simp] theorem Dev.modThr_rcv (x : Tid) (f : Thread → Thread) : (s.modThr x f).rcv = s.rcv := rfl
@[simp] theorem Dev.modThr_evc (x : Tid) (f : Thread → Thread) : (s.modThr x f).evc = s.evc := rfl
@[simp] theorem Dev.modThr_side (x : Tid) (f : Thread → Thread) : (s.modThr x f).side = s.side := rfl
@[simp] theorem Dev.modThr_csr (x : Tid) (f : Thread → Thread) : (s.modThr x f).csr = s.csr := rfl
@[simp] theorem Dev.modThr_outbox (x : Tid) (f : Thread → Thread) : (s.modThr x f).outbox = s.outbox := rfl
@[simp] theorem Dev.modThr_free (x : Tid) (f : Thread → Thread) : (s.modThr x f).free = s.free := rfl

/-! ### `Dev.setArr` changes `cores` only -/

@[simp] theorem Dev.setArr_clock (c a : Nat) (v : MArray) : (s.setArr c a v).clock = s.clock := rfl
@[simp] theorem Dev.setArr_boot (c a : Nat) (v : MArray) : (s.setArr c a v).boot = s.boot := rfl
@[simp] theorem Dev.setArr_tests (c a : Nat) (v : MArray) : (s.setArr c a v).tests = s.tests := rfl
@[simp] theorem Dev.setArr_img (c a : Nat) (v : MArray) : (s.setArr c a v).img = s.img := rfl
@[simp] theorem Dev.setArr_d2d (c a : Nat) (v : MArray) : (s.setArr c a v).d2d = s.d2d := rfl
@[simp] theorem Dev.setArr_sched (c a : Nat) (v : MArray) : (s.setArr c a v).sched = s.sched := rfl
@[simp] theorem Dev.setArr_sync (c a : Nat) (v : MArray) : (s.setArr c a v).sync = s.sync := rfl
@[simp] theorem Dev.setArr_mem (c a : Nat) (v : MArray) : (s.setArr c a v).mem = s.mem := rfl
@[simp] theorem Dev.setArr_fab (c a : Nat) (v : MArray) : (s.setArr c a v).fab = s.fab := rfl
@[simp] theorem Dev.setArr_ra (c a : Nat) (v : MArray) : (s.setArr c a v).ra = s.ra := rfl
@[simp] theorem Dev.setArr_copy (c a : Nat) (v : MArray) : (s.setArr c a v).copy = s.copy := rfl
@[simp] theorem Dev.setArr_axa (c a : Nat) (v : MArray) : (s.setArr c a v).axa = s.axa := rfl
@[simp] theorem Dev.setArr_coll (c a : Nat) (v : MArray) : (s.setArr c a v).coll = s.coll := rfl
@[simp] theorem Dev.setArr_host (c a : Nat) (v : MArray) : (s.setArr c a v).host = s.host := rfl
@[simp] theorem Dev.setArr_pow (c a : Nat) (v : MArray) : (s.setArr c a v).pow = s.pow := rfl
@[simp] theorem Dev.setArr_rcv (c a : Nat) (v : MArray) : (s.setArr c a v).rcv = s.rcv := rfl
@[simp] theorem Dev.setArr_evc (c a : Nat) (v : MArray) : (s.setArr c a v).evc = s.evc := rfl
@[simp] theorem Dev.setArr_side (c a : Nat) (v : MArray) : (s.setArr c a v).side = s.side := rfl
@[simp] theorem Dev.setArr_csr (c a : Nat) (v : MArray) : (s.setArr c a v).csr = s.csr := rfl
@[simp] theorem Dev.setArr_outbox (c a : Nat) (v : MArray) : (s.setArr c a v).outbox = s.outbox := rfl
@[simp] theorem Dev.setArr_free (c a : Nat) (v : MArray) : (s.setArr c a v).free = s.free := rfl

/-! ### `Dev.modArr` changes `cores` only -/

@[simp] theorem Dev.modArr_clock (c a : Nat) (f : MArray → MArray) : (s.modArr c a f).clock = s.clock := rfl
@[simp] theorem Dev.modArr_boot (c a : Nat) (f : MArray → MArray) : (s.modArr c a f).boot = s.boot := rfl
@[simp] theorem Dev.modArr_tests (c a : Nat) (f : MArray → MArray) : (s.modArr c a f).tests = s.tests := rfl
@[simp] theorem Dev.modArr_img (c a : Nat) (f : MArray → MArray) : (s.modArr c a f).img = s.img := rfl
@[simp] theorem Dev.modArr_d2d (c a : Nat) (f : MArray → MArray) : (s.modArr c a f).d2d = s.d2d := rfl
@[simp] theorem Dev.modArr_sched (c a : Nat) (f : MArray → MArray) : (s.modArr c a f).sched = s.sched := rfl
@[simp] theorem Dev.modArr_sync (c a : Nat) (f : MArray → MArray) : (s.modArr c a f).sync = s.sync := rfl
@[simp] theorem Dev.modArr_mem (c a : Nat) (f : MArray → MArray) : (s.modArr c a f).mem = s.mem := rfl
@[simp] theorem Dev.modArr_fab (c a : Nat) (f : MArray → MArray) : (s.modArr c a f).fab = s.fab := rfl
@[simp] theorem Dev.modArr_ra (c a : Nat) (f : MArray → MArray) : (s.modArr c a f).ra = s.ra := rfl
@[simp] theorem Dev.modArr_copy (c a : Nat) (f : MArray → MArray) : (s.modArr c a f).copy = s.copy := rfl
@[simp] theorem Dev.modArr_axa (c a : Nat) (f : MArray → MArray) : (s.modArr c a f).axa = s.axa := rfl
@[simp] theorem Dev.modArr_coll (c a : Nat) (f : MArray → MArray) : (s.modArr c a f).coll = s.coll := rfl
@[simp] theorem Dev.modArr_host (c a : Nat) (f : MArray → MArray) : (s.modArr c a f).host = s.host := rfl
@[simp] theorem Dev.modArr_pow (c a : Nat) (f : MArray → MArray) : (s.modArr c a f).pow = s.pow := rfl
@[simp] theorem Dev.modArr_rcv (c a : Nat) (f : MArray → MArray) : (s.modArr c a f).rcv = s.rcv := rfl
@[simp] theorem Dev.modArr_evc (c a : Nat) (f : MArray → MArray) : (s.modArr c a f).evc = s.evc := rfl
@[simp] theorem Dev.modArr_side (c a : Nat) (f : MArray → MArray) : (s.modArr c a f).side = s.side := rfl
@[simp] theorem Dev.modArr_csr (c a : Nat) (f : MArray → MArray) : (s.modArr c a f).csr = s.csr := rfl
@[simp] theorem Dev.modArr_outbox (c a : Nat) (f : MArray → MArray) : (s.modArr c a f).outbox = s.outbox := rfl
@[simp] theorem Dev.modArr_free (c a : Nat) (f : MArray → MArray) : (s.modArr c a f).free = s.free := rfl

/-! ### `Dev.modStk` changes `mem` only -/

@[simp] theorem Dev.modStk_clock (k : Nat) (f : Stack → Stack) : (s.modStk k f).clock = s.clock := rfl
@[simp] theorem Dev.modStk_boot (k : Nat) (f : Stack → Stack) : (s.modStk k f).boot = s.boot := rfl
@[simp] theorem Dev.modStk_tests (k : Nat) (f : Stack → Stack) : (s.modStk k f).tests = s.tests := rfl
@[simp] theorem Dev.modStk_img (k : Nat) (f : Stack → Stack) : (s.modStk k f).img = s.img := rfl
@[simp] theorem Dev.modStk_d2d (k : Nat) (f : Stack → Stack) : (s.modStk k f).d2d = s.d2d := rfl
@[simp] theorem Dev.modStk_cores (k : Nat) (f : Stack → Stack) : (s.modStk k f).cores = s.cores := rfl
@[simp] theorem Dev.modStk_sched (k : Nat) (f : Stack → Stack) : (s.modStk k f).sched = s.sched := rfl
@[simp] theorem Dev.modStk_sync (k : Nat) (f : Stack → Stack) : (s.modStk k f).sync = s.sync := rfl
@[simp] theorem Dev.modStk_fab (k : Nat) (f : Stack → Stack) : (s.modStk k f).fab = s.fab := rfl
@[simp] theorem Dev.modStk_ra (k : Nat) (f : Stack → Stack) : (s.modStk k f).ra = s.ra := rfl
@[simp] theorem Dev.modStk_copy (k : Nat) (f : Stack → Stack) : (s.modStk k f).copy = s.copy := rfl
@[simp] theorem Dev.modStk_axa (k : Nat) (f : Stack → Stack) : (s.modStk k f).axa = s.axa := rfl
@[simp] theorem Dev.modStk_coll (k : Nat) (f : Stack → Stack) : (s.modStk k f).coll = s.coll := rfl
@[simp] theorem Dev.modStk_host (k : Nat) (f : Stack → Stack) : (s.modStk k f).host = s.host := rfl
@[simp] theorem Dev.modStk_pow (k : Nat) (f : Stack → Stack) : (s.modStk k f).pow = s.pow := rfl
@[simp] theorem Dev.modStk_rcv (k : Nat) (f : Stack → Stack) : (s.modStk k f).rcv = s.rcv := rfl
@[simp] theorem Dev.modStk_evc (k : Nat) (f : Stack → Stack) : (s.modStk k f).evc = s.evc := rfl
@[simp] theorem Dev.modStk_side (k : Nat) (f : Stack → Stack) : (s.modStk k f).side = s.side := rfl
@[simp] theorem Dev.modStk_csr (k : Nat) (f : Stack → Stack) : (s.modStk k f).csr = s.csr := rfl
@[simp] theorem Dev.modStk_outbox (k : Nat) (f : Stack → Stack) : (s.modStk k f).outbox = s.outbox := rfl
@[simp] theorem Dev.modStk_free (k : Nat) (f : Stack → Stack) : (s.modStk k f).free = s.free := rfl
@[simp] theorem Dev.modStk_mem_data (k : Nat) (f : Stack → Stack) : (s.modStk k f).mem.data = s.mem.data := rfl
@[simp] theorem Dev.modStk_mem_poison (k : Nat) (f : Stack → Stack) : (s.modStk k f).mem.poison = s.mem.poison := rfl
@[simp] theorem Dev.modStk_mem_flags (k : Nat) (f : Stack → Stack) : (s.modStk k f).mem.flags = s.mem.flags := rfl
@[simp] theorem Dev.modStk_mem_hold (k : Nat) (f : Stack → Stack) : (s.modStk k f).mem.hold = s.mem.hold := rfl
@[simp] theorem Dev.modStk_mem_held (k : Nat) (f : Stack → Stack) : (s.modStk k f).mem.held = s.mem.held := rfl
@[simp] theorem Dev.modStk_mem_nextTag (k : Nat) (f : Stack → Stack) : (s.modStk k f).mem.nextTag = s.mem.nextTag := rfl

/-! ### `Dev.modChan` changes `mem` only -/

@[simp] theorem Dev.modChan_clock (k p : Nat) (f : Chan → Chan) : (s.modChan k p f).clock = s.clock := rfl
@[simp] theorem Dev.modChan_boot (k p : Nat) (f : Chan → Chan) : (s.modChan k p f).boot = s.boot := rfl
@[simp] theorem Dev.modChan_tests (k p : Nat) (f : Chan → Chan) : (s.modChan k p f).tests = s.tests := rfl
@[simp] theorem Dev.modChan_img (k p : Nat) (f : Chan → Chan) : (s.modChan k p f).img = s.img := rfl
@[simp] theorem Dev.modChan_d2d (k p : Nat) (f : Chan → Chan) : (s.modChan k p f).d2d = s.d2d := rfl
@[simp] theorem Dev.modChan_cores (k p : Nat) (f : Chan → Chan) : (s.modChan k p f).cores = s.cores := rfl
@[simp] theorem Dev.modChan_sched (k p : Nat) (f : Chan → Chan) : (s.modChan k p f).sched = s.sched := rfl
@[simp] theorem Dev.modChan_sync (k p : Nat) (f : Chan → Chan) : (s.modChan k p f).sync = s.sync := rfl
@[simp] theorem Dev.modChan_fab (k p : Nat) (f : Chan → Chan) : (s.modChan k p f).fab = s.fab := rfl
@[simp] theorem Dev.modChan_ra (k p : Nat) (f : Chan → Chan) : (s.modChan k p f).ra = s.ra := rfl
@[simp] theorem Dev.modChan_copy (k p : Nat) (f : Chan → Chan) : (s.modChan k p f).copy = s.copy := rfl
@[simp] theorem Dev.modChan_axa (k p : Nat) (f : Chan → Chan) : (s.modChan k p f).axa = s.axa := rfl
@[simp] theorem Dev.modChan_coll (k p : Nat) (f : Chan → Chan) : (s.modChan k p f).coll = s.coll := rfl
@[simp] theorem Dev.modChan_host (k p : Nat) (f : Chan → Chan) : (s.modChan k p f).host = s.host := rfl
@[simp] theorem Dev.modChan_pow (k p : Nat) (f : Chan → Chan) : (s.modChan k p f).pow = s.pow := rfl
@[simp] theorem Dev.modChan_rcv (k p : Nat) (f : Chan → Chan) : (s.modChan k p f).rcv = s.rcv := rfl
@[simp] theorem Dev.modChan_evc (k p : Nat) (f : Chan → Chan) : (s.modChan k p f).evc = s.evc := rfl
@[simp] theorem Dev.modChan_side (k p : Nat) (f : Chan → Chan) : (s.modChan k p f).side = s.side := rfl
@[simp] theorem Dev.modChan_csr (k p : Nat) (f : Chan → Chan) : (s.modChan k p f).csr = s.csr := rfl
@[simp] theorem Dev.modChan_outbox (k p : Nat) (f : Chan → Chan) : (s.modChan k p f).outbox = s.outbox := rfl
@[simp] theorem Dev.modChan_free (k p : Nat) (f : Chan → Chan) : (s.modChan k p f).free = s.free := rfl
@[simp] theorem Dev.modChan_mem_data (k p : Nat) (f : Chan → Chan) : (s.modChan k p f).mem.data = s.mem.data := rfl
@[simp] theorem Dev.modChan_mem_poison (k p : Nat) (f : Chan → Chan) : (s.modChan k p f).mem.poison = s.mem.poison := rfl
@[simp] theorem Dev.modChan_mem_flags (k p : Nat) (f : Chan → Chan) : (s.modChan k p f).mem.flags = s.mem.flags := rfl
@[simp] theorem Dev.modChan_mem_hold (k p : Nat) (f : Chan → Chan) : (s.modChan k p f).mem.hold = s.mem.hold := rfl
@[simp] theorem Dev.modChan_mem_held (k p : Nat) (f : Chan → Chan) : (s.modChan k p f).mem.held = s.mem.held := rfl
@[simp] theorem Dev.modChan_mem_nextTag (k p : Nat) (f : Chan → Chan) : (s.modChan k p f).mem.nextTag = s.mem.nextTag := rfl

/-! ### `Dev.modBucket` changes `mem` only -/

@[simp] theorem Dev.modBucket_clock (k n : Nat) (f : Bucket → Bucket) : (s.modBucket k n f).clock = s.clock := rfl
@[simp] theorem Dev.modBucket_boot (k n : Nat) (f : Bucket → Bucket) : (s.modBucket k n f).boot = s.boot := rfl
@[simp] theorem Dev.modBucket_tests (k n : Nat) (f : Bucket → Bucket) : (s.modBucket k n f).tests = s.tests := rfl
@[simp] theorem Dev.modBucket_img (k n : Nat) (f : Bucket → Bucket) : (s.modBucket k n f).img = s.img := rfl
@[simp] theorem Dev.modBucket_d2d (k n : Nat) (f : Bucket → Bucket) : (s.modBucket k n f).d2d = s.d2d := rfl
@[simp] theorem Dev.modBucket_cores (k n : Nat) (f : Bucket → Bucket) : (s.modBucket k n f).cores = s.cores := rfl
@[simp] theorem Dev.modBucket_sched (k n : Nat) (f : Bucket → Bucket) : (s.modBucket k n f).sched = s.sched := rfl
@[simp] theorem Dev.modBucket_sync (k n : Nat) (f : Bucket → Bucket) : (s.modBucket k n f).sync = s.sync := rfl
@[simp] theorem Dev.modBucket_fab (k n : Nat) (f : Bucket → Bucket) : (s.modBucket k n f).fab = s.fab := rfl
@[simp] theorem Dev.modBucket_ra (k n : Nat) (f : Bucket → Bucket) : (s.modBucket k n f).ra = s.ra := rfl
@[simp] theorem Dev.modBucket_copy (k n : Nat) (f : Bucket → Bucket) : (s.modBucket k n f).copy = s.copy := rfl
@[simp] theorem Dev.modBucket_axa (k n : Nat) (f : Bucket → Bucket) : (s.modBucket k n f).axa = s.axa := rfl
@[simp] theorem Dev.modBucket_coll (k n : Nat) (f : Bucket → Bucket) : (s.modBucket k n f).coll = s.coll := rfl
@[simp] theorem Dev.modBucket_host (k n : Nat) (f : Bucket → Bucket) : (s.modBucket k n f).host = s.host := rfl
@[simp] theorem Dev.modBucket_pow (k n : Nat) (f : Bucket → Bucket) : (s.modBucket k n f).pow = s.pow := rfl
@[simp] theorem Dev.modBucket_rcv (k n : Nat) (f : Bucket → Bucket) : (s.modBucket k n f).rcv = s.rcv := rfl
@[simp] theorem Dev.modBucket_evc (k n : Nat) (f : Bucket → Bucket) : (s.modBucket k n f).evc = s.evc := rfl
@[simp] theorem Dev.modBucket_side (k n : Nat) (f : Bucket → Bucket) : (s.modBucket k n f).side = s.side := rfl
@[simp] theorem Dev.modBucket_csr (k n : Nat) (f : Bucket → Bucket) : (s.modBucket k n f).csr = s.csr := rfl
@[simp] theorem Dev.modBucket_outbox (k n : Nat) (f : Bucket → Bucket) : (s.modBucket k n f).outbox = s.outbox := rfl
@[simp] theorem Dev.modBucket_free (k n : Nat) (f : Bucket → Bucket) : (s.modBucket k n f).free = s.free := rfl
@[simp] theorem Dev.modBucket_mem_data (k n : Nat) (f : Bucket → Bucket) : (s.modBucket k n f).mem.data = s.mem.data := rfl
@[simp] theorem Dev.modBucket_mem_poison (k n : Nat) (f : Bucket → Bucket) : (s.modBucket k n f).mem.poison = s.mem.poison := rfl
@[simp] theorem Dev.modBucket_mem_flags (k n : Nat) (f : Bucket → Bucket) : (s.modBucket k n f).mem.flags = s.mem.flags := rfl
@[simp] theorem Dev.modBucket_mem_hold (k n : Nat) (f : Bucket → Bucket) : (s.modBucket k n f).mem.hold = s.mem.hold := rfl
@[simp] theorem Dev.modBucket_mem_held (k n : Nat) (f : Bucket → Bucket) : (s.modBucket k n f).mem.held = s.mem.held := rfl
@[simp] theorem Dev.modBucket_mem_nextTag (k n : Nat) (f : Bucket → Bucket) : (s.modBucket k n f).mem.nextTag = s.mem.nextTag := rfl

/-! ### `Dev.modEng` changes `fab` only -/

@[simp] theorem Dev.modEng_clock (e : Nat) (f : Engine → Engine) : (s.modEng e f).clock = s.clock := rfl
@[simp] theorem Dev.modEng_boot (e : Nat) (f : Engine → Engine) : (s.modEng e f).boot = s.boot := rfl
@[simp] theorem Dev.modEng_tests (e : Nat) (f : Engine → Engine) : (s.modEng e f).tests = s.tests := rfl
@[simp] theorem Dev.modEng_img (e : Nat) (f : Engine → Engine) : (s.modEng e f).img = s.img := rfl
@[simp] theorem Dev.modEng_d2d (e : Nat) (f : Engine → Engine) : (s.modEng e f).d2d = s.d2d := rfl
@[simp] theorem Dev.modEng_cores (e : Nat) (f : Engine → Engine) : (s.modEng e f).cores = s.cores := rfl
@[simp] theorem Dev.modEng_sched (e : Nat) (f : Engine → Engine) : (s.modEng e f).sched = s.sched := rfl
@[simp] theorem Dev.modEng_sync (e : Nat) (f : Engine → Engine) : (s.modEng e f).sync = s.sync := rfl
@[simp] theorem Dev.modEng_mem (e : Nat) (f : Engine → Engine) : (s.modEng e f).mem = s.mem := rfl
@[simp] theorem Dev.modEng_ra (e : Nat) (f : Engine → Engine) : (s.modEng e f).ra = s.ra := rfl
@[simp] theorem Dev.modEng_copy (e : Nat) (f : Engine → Engine) : (s.modEng e f).copy = s.copy := rfl
@[simp] theorem Dev.modEng_axa (e : Nat) (f : Engine → Engine) : (s.modEng e f).axa = s.axa := rfl
@[simp] theorem Dev.modEng_coll (e : Nat) (f : Engine → Engine) : (s.modEng e f).coll = s.coll := rfl
@[simp] theorem Dev.modEng_host (e : Nat) (f : Engine → Engine) : (s.modEng e f).host = s.host := rfl
@[simp] theorem Dev.modEng_pow (e : Nat) (f : Engine → Engine) : (s.modEng e f).pow = s.pow := rfl
@[simp] theorem Dev.modEng_rcv (e : Nat) (f : Engine → Engine) : (s.modEng e f).rcv = s.rcv := rfl
@[simp] theorem Dev.modEng_evc (e : Nat) (f : Engine → Engine) : (s.modEng e f).evc = s.evc := rfl
@[simp] theorem Dev.modEng_side (e : Nat) (f : Engine → Engine) : (s.modEng e f).side = s.side := rfl
@[simp] theorem Dev.modEng_csr (e : Nat) (f : Engine → Engine) : (s.modEng e f).csr = s.csr := rfl
@[simp] theorem Dev.modEng_outbox (e : Nat) (f : Engine → Engine) : (s.modEng e f).outbox = s.outbox := rfl
@[simp] theorem Dev.modEng_free (e : Nat) (f : Engine → Engine) : (s.modEng e f).free = s.free := rfl
@[simp] theorem Dev.modEng_fab_ports (e : Nat) (f : Engine → Engine) : (s.modEng e f).fab.ports = s.fab.ports := rfl
@[simp] theorem Dev.modEng_fab_ckts (e : Nat) (f : Engine → Engine) : (s.modEng e f).fab.ckts = s.fab.ckts := rfl
@[simp] theorem Dev.modEng_fab_avoid (e : Nat) (f : Engine → Engine) : (s.modEng e f).fab.avoid = s.fab.avoid := rfl
@[simp] theorem Dev.modEng_fab_credits (e : Nat) (f : Engine → Engine) : (s.modEng e f).fab.credits = s.fab.credits := rfl
@[simp] theorem Dev.modEng_fab_held (e : Nat) (f : Engine → Engine) : (s.modEng e f).fab.held = s.fab.held := rfl
@[simp] theorem Dev.modEng_fab_waiting (e : Nat) (f : Engine → Engine) : (s.modEng e f).fab.waiting = s.fab.waiting := rfl
@[simp] theorem Dev.modEng_fab_noRoute (e : Nat) (f : Engine → Engine) : (s.modEng e f).fab.noRoute = s.fab.noRoute := rfl
@[simp] theorem Dev.modEng_fab_audits (e : Nat) (f : Engine → Engine) : (s.modEng e f).fab.audits = s.fab.audits := rfl
@[simp] theorem Dev.modEng_fab_mismatches (e : Nat) (f : Engine → Engine) : (s.modEng e f).fab.mismatches = s.fab.mismatches := rfl
@[simp] theorem Dev.modEng_fab_auditing (e : Nat) (f : Engine → Engine) : (s.modEng e f).fab.auditing = s.fab.auditing := rfl
@[simp] theorem Dev.modEng_fab_audited (e : Nat) (f : Engine → Engine) : (s.modEng e f).fab.audited = s.fab.audited := rfl
@[simp] theorem Dev.modEng_fab_query (e : Nat) (f : Engine → Engine) : (s.modEng e f).fab.query = s.fab.query := rfl
@[simp] theorem Dev.modEng_fab_result (e : Nat) (f : Engine → Engine) : (s.modEng e f).fab.result = s.fab.result := rfl
@[simp] theorem Dev.modEng_fab_detuning (e : Nat) (f : Engine → Engine) : (s.modEng e f).fab.detuning = s.fab.detuning := rfl
@[simp] theorem Dev.modEng_fab_routes (e : Nat) (f : Engine → Engine) : (s.modEng e f).fab.routes = s.fab.routes := rfl

/-! ### `Dev.modFib` changes `fab` only -/

@[simp] theorem Dev.modFib_clock (e i : Nat) (f : Fibre → Fibre) : (s.modFib e i f).clock = s.clock := rfl
@[simp] theorem Dev.modFib_boot (e i : Nat) (f : Fibre → Fibre) : (s.modFib e i f).boot = s.boot := rfl
@[simp] theorem Dev.modFib_tests (e i : Nat) (f : Fibre → Fibre) : (s.modFib e i f).tests = s.tests := rfl
@[simp] theorem Dev.modFib_img (e i : Nat) (f : Fibre → Fibre) : (s.modFib e i f).img = s.img := rfl
@[simp] theorem Dev.modFib_d2d (e i : Nat) (f : Fibre → Fibre) : (s.modFib e i f).d2d = s.d2d := rfl
@[simp] theorem Dev.modFib_cores (e i : Nat) (f : Fibre → Fibre) : (s.modFib e i f).cores = s.cores := rfl
@[simp] theorem Dev.modFib_sched (e i : Nat) (f : Fibre → Fibre) : (s.modFib e i f).sched = s.sched := rfl
@[simp] theorem Dev.modFib_sync (e i : Nat) (f : Fibre → Fibre) : (s.modFib e i f).sync = s.sync := rfl
@[simp] theorem Dev.modFib_mem (e i : Nat) (f : Fibre → Fibre) : (s.modFib e i f).mem = s.mem := rfl
@[simp] theorem Dev.modFib_ra (e i : Nat) (f : Fibre → Fibre) : (s.modFib e i f).ra = s.ra := rfl
@[simp] theorem Dev.modFib_copy (e i : Nat) (f : Fibre → Fibre) : (s.modFib e i f).copy = s.copy := rfl
@[simp] theorem Dev.modFib_axa (e i : Nat) (f : Fibre → Fibre) : (s.modFib e i f).axa = s.axa := rfl
@[simp] theorem Dev.modFib_coll (e i : Nat) (f : Fibre → Fibre) : (s.modFib e i f).coll = s.coll := rfl
@[simp] theorem Dev.modFib_host (e i : Nat) (f : Fibre → Fibre) : (s.modFib e i f).host = s.host := rfl
@[simp] theorem Dev.modFib_pow (e i : Nat) (f : Fibre → Fibre) : (s.modFib e i f).pow = s.pow := rfl
@[simp] theorem Dev.modFib_rcv (e i : Nat) (f : Fibre → Fibre) : (s.modFib e i f).rcv = s.rcv := rfl
@[simp] theorem Dev.modFib_evc (e i : Nat) (f : Fibre → Fibre) : (s.modFib e i f).evc = s.evc := rfl
@[simp] theorem Dev.modFib_side (e i : Nat) (f : Fibre → Fibre) : (s.modFib e i f).side = s.side := rfl
@[simp] theorem Dev.modFib_csr (e i : Nat) (f : Fibre → Fibre) : (s.modFib e i f).csr = s.csr := rfl
@[simp] theorem Dev.modFib_outbox (e i : Nat) (f : Fibre → Fibre) : (s.modFib e i f).outbox = s.outbox := rfl
@[simp] theorem Dev.modFib_free (e i : Nat) (f : Fibre → Fibre) : (s.modFib e i f).free = s.free := rfl

/-! ### `Dev.modFport` changes `fab` only -/

@[simp] theorem Dev.modFport_clock (p : Nat) (f : FPort → FPort) : (s.modFport p f).clock = s.clock := rfl
@[simp] theorem Dev.modFport_boot (p : Nat) (f : FPort → FPort) : (s.modFport p f).boot = s.boot := rfl
@[simp] theorem Dev.modFport_tests (p : Nat) (f : FPort → FPort) : (s.modFport p f).tests = s.tests := rfl
@[simp] theorem Dev.modFport_img (p : Nat) (f : FPort → FPort) : (s.modFport p f).img = s.img := rfl
@[simp] theorem Dev.modFport_d2d (p : Nat) (f : FPort → FPort) : (s.modFport p f).d2d = s.d2d := rfl
@[simp] theorem Dev.modFport_cores (p : Nat) (f : FPort → FPort) : (s.modFport p f).cores = s.cores := rfl
@[simp] theorem Dev.modFport_sched (p : Nat) (f : FPort → FPort) : (s.modFport p f).sched = s.sched := rfl
@[simp] theorem Dev.modFport_sync (p : Nat) (f : FPort → FPort) : (s.modFport p f).sync = s.sync := rfl
@[simp] theorem Dev.modFport_mem (p : Nat) (f : FPort → FPort) : (s.modFport p f).mem = s.mem := rfl
@[simp] theorem Dev.modFport_ra (p : Nat) (f : FPort → FPort) : (s.modFport p f).ra = s.ra := rfl
@[simp] theorem Dev.modFport_copy (p : Nat) (f : FPort → FPort) : (s.modFport p f).copy = s.copy := rfl
@[simp] theorem Dev.modFport_axa (p : Nat) (f : FPort → FPort) : (s.modFport p f).axa = s.axa := rfl
@[simp] theorem Dev.modFport_coll (p : Nat) (f : FPort → FPort) : (s.modFport p f).coll = s.coll := rfl
@[simp] theorem Dev.modFport_host (p : Nat) (f : FPort → FPort) : (s.modFport p f).host = s.host := rfl
@[simp] theorem Dev.modFport_pow (p : Nat) (f : FPort → FPort) : (s.modFport p f).pow = s.pow := rfl
@[simp] theorem Dev.modFport_rcv (p : Nat) (f : FPort → FPort) : (s.modFport p f).rcv = s.rcv := rfl
@[simp] theorem Dev.modFport_evc (p : Nat) (f : FPort → FPort) : (s.modFport p f).evc = s.evc := rfl
@[simp] theorem Dev.modFport_side (p : Nat) (f : FPort → FPort) : (s.modFport p f).side = s.side := rfl
@[simp] theorem Dev.modFport_csr (p : Nat) (f : FPort → FPort) : (s.modFport p f).csr = s.csr := rfl
@[simp] theorem Dev.modFport_outbox (p : Nat) (f : FPort → FPort) : (s.modFport p f).outbox = s.outbox := rfl
@[simp] theorem Dev.modFport_free (p : Nat) (f : FPort → FPort) : (s.modFport p f).free = s.free := rfl
@[simp] theorem Dev.modFport_fab_engs (p : Nat) (f : FPort → FPort) : (s.modFport p f).fab.engs = s.fab.engs := rfl
@[simp] theorem Dev.modFport_fab_ckts (p : Nat) (f : FPort → FPort) : (s.modFport p f).fab.ckts = s.fab.ckts := rfl
@[simp] theorem Dev.modFport_fab_avoid (p : Nat) (f : FPort → FPort) : (s.modFport p f).fab.avoid = s.fab.avoid := rfl
@[simp] theorem Dev.modFport_fab_credits (p : Nat) (f : FPort → FPort) : (s.modFport p f).fab.credits = s.fab.credits := rfl
@[simp] theorem Dev.modFport_fab_held (p : Nat) (f : FPort → FPort) : (s.modFport p f).fab.held = s.fab.held := rfl
@[simp] theorem Dev.modFport_fab_waiting (p : Nat) (f : FPort → FPort) : (s.modFport p f).fab.waiting = s.fab.waiting := rfl
@[simp] theorem Dev.modFport_fab_noRoute (p : Nat) (f : FPort → FPort) : (s.modFport p f).fab.noRoute = s.fab.noRoute := rfl
@[simp] theorem Dev.modFport_fab_audits (p : Nat) (f : FPort → FPort) : (s.modFport p f).fab.audits = s.fab.audits := rfl
@[simp] theorem Dev.modFport_fab_mismatches (p : Nat) (f : FPort → FPort) : (s.modFport p f).fab.mismatches = s.fab.mismatches := rfl
@[simp] theorem Dev.modFport_fab_auditing (p : Nat) (f : FPort → FPort) : (s.modFport p f).fab.auditing = s.fab.auditing := rfl
@[simp] theorem Dev.modFport_fab_audited (p : Nat) (f : FPort → FPort) : (s.modFport p f).fab.audited = s.fab.audited := rfl
@[simp] theorem Dev.modFport_fab_query (p : Nat) (f : FPort → FPort) : (s.modFport p f).fab.query = s.fab.query := rfl
@[simp] theorem Dev.modFport_fab_result (p : Nat) (f : FPort → FPort) : (s.modFport p f).fab.result = s.fab.result := rfl
@[simp] theorem Dev.modFport_fab_detuning (p : Nat) (f : FPort → FPort) : (s.modFport p f).fab.detuning = s.fab.detuning := rfl
@[simp] theorem Dev.modFport_fab_routes (p : Nat) (f : FPort → FPort) : (s.modFport p f).fab.routes = s.fab.routes := rfl

/-! ### `Dev.modCkt` changes `fab` only -/

@[simp] theorem Dev.modCkt_clock (c : Nat) (f : Circuit → Circuit) : (s.modCkt c f).clock = s.clock := rfl
@[simp] theorem Dev.modCkt_boot (c : Nat) (f : Circuit → Circuit) : (s.modCkt c f).boot = s.boot := rfl
@[simp] theorem Dev.modCkt_tests (c : Nat) (f : Circuit → Circuit) : (s.modCkt c f).tests = s.tests := rfl
@[simp] theorem Dev.modCkt_img (c : Nat) (f : Circuit → Circuit) : (s.modCkt c f).img = s.img := rfl
@[simp] theorem Dev.modCkt_d2d (c : Nat) (f : Circuit → Circuit) : (s.modCkt c f).d2d = s.d2d := rfl
@[simp] theorem Dev.modCkt_cores (c : Nat) (f : Circuit → Circuit) : (s.modCkt c f).cores = s.cores := rfl
@[simp] theorem Dev.modCkt_sched (c : Nat) (f : Circuit → Circuit) : (s.modCkt c f).sched = s.sched := rfl
@[simp] theorem Dev.modCkt_sync (c : Nat) (f : Circuit → Circuit) : (s.modCkt c f).sync = s.sync := rfl
@[simp] theorem Dev.modCkt_mem (c : Nat) (f : Circuit → Circuit) : (s.modCkt c f).mem = s.mem := rfl
@[simp] theorem Dev.modCkt_ra (c : Nat) (f : Circuit → Circuit) : (s.modCkt c f).ra = s.ra := rfl
@[simp] theorem Dev.modCkt_copy (c : Nat) (f : Circuit → Circuit) : (s.modCkt c f).copy = s.copy := rfl
@[simp] theorem Dev.modCkt_axa (c : Nat) (f : Circuit → Circuit) : (s.modCkt c f).axa = s.axa := rfl
@[simp] theorem Dev.modCkt_coll (c : Nat) (f : Circuit → Circuit) : (s.modCkt c f).coll = s.coll := rfl
@[simp] theorem Dev.modCkt_host (c : Nat) (f : Circuit → Circuit) : (s.modCkt c f).host = s.host := rfl
@[simp] theorem Dev.modCkt_pow (c : Nat) (f : Circuit → Circuit) : (s.modCkt c f).pow = s.pow := rfl
@[simp] theorem Dev.modCkt_rcv (c : Nat) (f : Circuit → Circuit) : (s.modCkt c f).rcv = s.rcv := rfl
@[simp] theorem Dev.modCkt_evc (c : Nat) (f : Circuit → Circuit) : (s.modCkt c f).evc = s.evc := rfl
@[simp] theorem Dev.modCkt_side (c : Nat) (f : Circuit → Circuit) : (s.modCkt c f).side = s.side := rfl
@[simp] theorem Dev.modCkt_csr (c : Nat) (f : Circuit → Circuit) : (s.modCkt c f).csr = s.csr := rfl
@[simp] theorem Dev.modCkt_outbox (c : Nat) (f : Circuit → Circuit) : (s.modCkt c f).outbox = s.outbox := rfl
@[simp] theorem Dev.modCkt_free (c : Nat) (f : Circuit → Circuit) : (s.modCkt c f).free = s.free := rfl
@[simp] theorem Dev.modCkt_fab_engs (c : Nat) (f : Circuit → Circuit) : (s.modCkt c f).fab.engs = s.fab.engs := rfl
@[simp] theorem Dev.modCkt_fab_ports (c : Nat) (f : Circuit → Circuit) : (s.modCkt c f).fab.ports = s.fab.ports := rfl
@[simp] theorem Dev.modCkt_fab_avoid (c : Nat) (f : Circuit → Circuit) : (s.modCkt c f).fab.avoid = s.fab.avoid := rfl
@[simp] theorem Dev.modCkt_fab_credits (c : Nat) (f : Circuit → Circuit) : (s.modCkt c f).fab.credits = s.fab.credits := rfl
@[simp] theorem Dev.modCkt_fab_held (c : Nat) (f : Circuit → Circuit) : (s.modCkt c f).fab.held = s.fab.held := rfl
@[simp] theorem Dev.modCkt_fab_waiting (c : Nat) (f : Circuit → Circuit) : (s.modCkt c f).fab.waiting = s.fab.waiting := rfl
@[simp] theorem Dev.modCkt_fab_noRoute (c : Nat) (f : Circuit → Circuit) : (s.modCkt c f).fab.noRoute = s.fab.noRoute := rfl
@[simp] theorem Dev.modCkt_fab_audits (c : Nat) (f : Circuit → Circuit) : (s.modCkt c f).fab.audits = s.fab.audits := rfl
@[simp] theorem Dev.modCkt_fab_mismatches (c : Nat) (f : Circuit → Circuit) : (s.modCkt c f).fab.mismatches = s.fab.mismatches := rfl
@[simp] theorem Dev.modCkt_fab_auditing (c : Nat) (f : Circuit → Circuit) : (s.modCkt c f).fab.auditing = s.fab.auditing := rfl
@[simp] theorem Dev.modCkt_fab_audited (c : Nat) (f : Circuit → Circuit) : (s.modCkt c f).fab.audited = s.fab.audited := rfl
@[simp] theorem Dev.modCkt_fab_query (c : Nat) (f : Circuit → Circuit) : (s.modCkt c f).fab.query = s.fab.query := rfl
@[simp] theorem Dev.modCkt_fab_result (c : Nat) (f : Circuit → Circuit) : (s.modCkt c f).fab.result = s.fab.result := rfl
@[simp] theorem Dev.modCkt_fab_detuning (c : Nat) (f : Circuit → Circuit) : (s.modCkt c f).fab.detuning = s.fab.detuning := rfl
@[simp] theorem Dev.modCkt_fab_routes (c : Nat) (f : Circuit → Circuit) : (s.modCkt c f).fab.routes = s.fab.routes := rfl

/-! ### `Dev.modCtx` changes `ra` only -/

@[simp] theorem Dev.modCtx_clock (n : Nat) (f : Ctx → Ctx) : (s.modCtx n f).clock = s.clock := rfl
@[simp] theorem Dev.modCtx_boot (n : Nat) (f : Ctx → Ctx) : (s.modCtx n f).boot = s.boot := rfl
@[simp] theorem Dev.modCtx_tests (n : Nat) (f : Ctx → Ctx) : (s.modCtx n f).tests = s.tests := rfl
@[simp] theorem Dev.modCtx_img (n : Nat) (f : Ctx → Ctx) : (s.modCtx n f).img = s.img := rfl
@[simp] theorem Dev.modCtx_d2d (n : Nat) (f : Ctx → Ctx) : (s.modCtx n f).d2d = s.d2d := rfl
@[simp] theorem Dev.modCtx_cores (n : Nat) (f : Ctx → Ctx) : (s.modCtx n f).cores = s.cores := rfl
@[simp] theorem Dev.modCtx_sched (n : Nat) (f : Ctx → Ctx) : (s.modCtx n f).sched = s.sched := rfl
@[simp] theorem Dev.modCtx_sync (n : Nat) (f : Ctx → Ctx) : (s.modCtx n f).sync = s.sync := rfl
@[simp] theorem Dev.modCtx_mem (n : Nat) (f : Ctx → Ctx) : (s.modCtx n f).mem = s.mem := rfl
@[simp] theorem Dev.modCtx_fab (n : Nat) (f : Ctx → Ctx) : (s.modCtx n f).fab = s.fab := rfl
@[simp] theorem Dev.modCtx_copy (n : Nat) (f : Ctx → Ctx) : (s.modCtx n f).copy = s.copy := rfl
@[simp] theorem Dev.modCtx_axa (n : Nat) (f : Ctx → Ctx) : (s.modCtx n f).axa = s.axa := rfl
@[simp] theorem Dev.modCtx_coll (n : Nat) (f : Ctx → Ctx) : (s.modCtx n f).coll = s.coll := rfl
@[simp] theorem Dev.modCtx_host (n : Nat) (f : Ctx → Ctx) : (s.modCtx n f).host = s.host := rfl
@[simp] theorem Dev.modCtx_pow (n : Nat) (f : Ctx → Ctx) : (s.modCtx n f).pow = s.pow := rfl
@[simp] theorem Dev.modCtx_rcv (n : Nat) (f : Ctx → Ctx) : (s.modCtx n f).rcv = s.rcv := rfl
@[simp] theorem Dev.modCtx_evc (n : Nat) (f : Ctx → Ctx) : (s.modCtx n f).evc = s.evc := rfl
@[simp] theorem Dev.modCtx_side (n : Nat) (f : Ctx → Ctx) : (s.modCtx n f).side = s.side := rfl
@[simp] theorem Dev.modCtx_csr (n : Nat) (f : Ctx → Ctx) : (s.modCtx n f).csr = s.csr := rfl
@[simp] theorem Dev.modCtx_outbox (n : Nat) (f : Ctx → Ctx) : (s.modCtx n f).outbox = s.outbox := rfl
@[simp] theorem Dev.modCtx_free (n : Nat) (f : Ctx → Ctx) : (s.modCtx n f).free = s.free := rfl
@[simp] theorem Dev.modCtx_ra_regions (n : Nat) (f : Ctx → Ctx) : (s.modCtx n f).ra.regions = s.ra.regions := rfl
@[simp] theorem Dev.modCtx_ra_dedup (n : Nat) (f : Ctx → Ctx) : (s.modCtx n f).ra.dedup = s.ra.dedup := rfl
@[simp] theorem Dev.modCtx_ra_peak (n : Nat) (f : Ctx → Ctx) : (s.modCtx n f).ra.peak = s.ra.peak := rfl
@[simp] theorem Dev.modCtx_ra_full (n : Nat) (f : Ctx → Ctx) : (s.modCtx n f).ra.full = s.ra.full := rfl
@[simp] theorem Dev.modCtx_ra_hits (n : Nat) (f : Ctx → Ctx) : (s.modCtx n f).ra.hits = s.ra.hits := rfl
@[simp] theorem Dev.modCtx_ra_genDrops (n : Nat) (f : Ctx → Ctx) : (s.modCtx n f).ra.genDrops = s.ra.genDrops := rfl
@[simp] theorem Dev.modCtx_ra_nacks (n : Nat) (f : Ctx → Ctx) : (s.modCtx n f).ra.nacks = s.ra.nacks := rfl
@[simp] theorem Dev.modCtx_ra_timeouts (n : Nat) (f : Ctx → Ctx) : (s.modCtx n f).ra.timeouts = s.ra.timeouts := rfl
@[simp] theorem Dev.modCtx_ra_indet (n : Nat) (f : Ctx → Ctx) : (s.modCtx n f).ra.indet = s.ra.indet := rfl
@[simp] theorem Dev.modCtx_ra_ingress (n : Nat) (f : Ctx → Ctx) : (s.modCtx n f).ra.ingress = s.ra.ingress := rfl
@[simp] theorem Dev.modCtx_ra_regionCmds (n : Nat) (f : Ctx → Ctx) : (s.modCtx n f).ra.regionCmds = s.ra.regionCmds := rfl
@[simp] theorem Dev.modCtx_ra_lost (n : Nat) (f : Ctx → Ctx) : (s.modCtx n f).ra.lost = s.ra.lost := rfl

/-! ### `Dev.setRegion` changes `ra` only -/

@[simp] theorem Dev.setRegion_clock (n : Nat) (r : Option Region) : (s.setRegion n r).clock = s.clock := rfl
@[simp] theorem Dev.setRegion_boot (n : Nat) (r : Option Region) : (s.setRegion n r).boot = s.boot := rfl
@[simp] theorem Dev.setRegion_tests (n : Nat) (r : Option Region) : (s.setRegion n r).tests = s.tests := rfl
@[simp] theorem Dev.setRegion_img (n : Nat) (r : Option Region) : (s.setRegion n r).img = s.img := rfl
@[simp] theorem Dev.setRegion_d2d (n : Nat) (r : Option Region) : (s.setRegion n r).d2d = s.d2d := rfl
@[simp] theorem Dev.setRegion_cores (n : Nat) (r : Option Region) : (s.setRegion n r).cores = s.cores := rfl
@[simp] theorem Dev.setRegion_sched (n : Nat) (r : Option Region) : (s.setRegion n r).sched = s.sched := rfl
@[simp] theorem Dev.setRegion_sync (n : Nat) (r : Option Region) : (s.setRegion n r).sync = s.sync := rfl
@[simp] theorem Dev.setRegion_mem (n : Nat) (r : Option Region) : (s.setRegion n r).mem = s.mem := rfl
@[simp] theorem Dev.setRegion_fab (n : Nat) (r : Option Region) : (s.setRegion n r).fab = s.fab := rfl
@[simp] theorem Dev.setRegion_copy (n : Nat) (r : Option Region) : (s.setRegion n r).copy = s.copy := rfl
@[simp] theorem Dev.setRegion_axa (n : Nat) (r : Option Region) : (s.setRegion n r).axa = s.axa := rfl
@[simp] theorem Dev.setRegion_coll (n : Nat) (r : Option Region) : (s.setRegion n r).coll = s.coll := rfl
@[simp] theorem Dev.setRegion_host (n : Nat) (r : Option Region) : (s.setRegion n r).host = s.host := rfl
@[simp] theorem Dev.setRegion_pow (n : Nat) (r : Option Region) : (s.setRegion n r).pow = s.pow := rfl
@[simp] theorem Dev.setRegion_rcv (n : Nat) (r : Option Region) : (s.setRegion n r).rcv = s.rcv := rfl
@[simp] theorem Dev.setRegion_evc (n : Nat) (r : Option Region) : (s.setRegion n r).evc = s.evc := rfl
@[simp] theorem Dev.setRegion_side (n : Nat) (r : Option Region) : (s.setRegion n r).side = s.side := rfl
@[simp] theorem Dev.setRegion_csr (n : Nat) (r : Option Region) : (s.setRegion n r).csr = s.csr := rfl
@[simp] theorem Dev.setRegion_outbox (n : Nat) (r : Option Region) : (s.setRegion n r).outbox = s.outbox := rfl
@[simp] theorem Dev.setRegion_free (n : Nat) (r : Option Region) : (s.setRegion n r).free = s.free := rfl
@[simp] theorem Dev.setRegion_ra_ctxs (n : Nat) (r : Option Region) : (s.setRegion n r).ra.ctxs = s.ra.ctxs := rfl
@[simp] theorem Dev.setRegion_ra_dedup (n : Nat) (r : Option Region) : (s.setRegion n r).ra.dedup = s.ra.dedup := rfl
@[simp] theorem Dev.setRegion_ra_peak (n : Nat) (r : Option Region) : (s.setRegion n r).ra.peak = s.ra.peak := rfl
@[simp] theorem Dev.setRegion_ra_full (n : Nat) (r : Option Region) : (s.setRegion n r).ra.full = s.ra.full := rfl
@[simp] theorem Dev.setRegion_ra_hits (n : Nat) (r : Option Region) : (s.setRegion n r).ra.hits = s.ra.hits := rfl
@[simp] theorem Dev.setRegion_ra_genDrops (n : Nat) (r : Option Region) : (s.setRegion n r).ra.genDrops = s.ra.genDrops := rfl
@[simp] theorem Dev.setRegion_ra_nacks (n : Nat) (r : Option Region) : (s.setRegion n r).ra.nacks = s.ra.nacks := rfl
@[simp] theorem Dev.setRegion_ra_timeouts (n : Nat) (r : Option Region) : (s.setRegion n r).ra.timeouts = s.ra.timeouts := rfl
@[simp] theorem Dev.setRegion_ra_indet (n : Nat) (r : Option Region) : (s.setRegion n r).ra.indet = s.ra.indet := rfl
@[simp] theorem Dev.setRegion_ra_ingress (n : Nat) (r : Option Region) : (s.setRegion n r).ra.ingress = s.ra.ingress := rfl
@[simp] theorem Dev.setRegion_ra_regionCmds (n : Nat) (r : Option Region) : (s.setRegion n r).ra.regionCmds = s.ra.regionCmds := rfl
@[simp] theorem Dev.setRegion_ra_lost (n : Nat) (r : Option Region) : (s.setRegion n r).ra.lost = s.ra.lost := rfl

/-! ### `Dev.setRun` changes `copy` only -/

@[simp] theorem Dev.setRun_clock (n : Nat) (r : Option CopyRun) : (s.setRun n r).clock = s.clock := rfl
@[simp] theorem Dev.setRun_boot (n : Nat) (r : Option CopyRun) : (s.setRun n r).boot = s.boot := rfl
@[simp] theorem Dev.setRun_tests (n : Nat) (r : Option CopyRun) : (s.setRun n r).tests = s.tests := rfl
@[simp] theorem Dev.setRun_img (n : Nat) (r : Option CopyRun) : (s.setRun n r).img = s.img := rfl
@[simp] theorem Dev.setRun_d2d (n : Nat) (r : Option CopyRun) : (s.setRun n r).d2d = s.d2d := rfl
@[simp] theorem Dev.setRun_cores (n : Nat) (r : Option CopyRun) : (s.setRun n r).cores = s.cores := rfl
@[simp] theorem Dev.setRun_sched (n : Nat) (r : Option CopyRun) : (s.setRun n r).sched = s.sched := rfl
@[simp] theorem Dev.setRun_sync (n : Nat) (r : Option CopyRun) : (s.setRun n r).sync = s.sync := rfl
@[simp] theorem Dev.setRun_mem (n : Nat) (r : Option CopyRun) : (s.setRun n r).mem = s.mem := rfl
@[simp] theorem Dev.setRun_fab (n : Nat) (r : Option CopyRun) : (s.setRun n r).fab = s.fab := rfl
@[simp] theorem Dev.setRun_ra (n : Nat) (r : Option CopyRun) : (s.setRun n r).ra = s.ra := rfl
@[simp] theorem Dev.setRun_axa (n : Nat) (r : Option CopyRun) : (s.setRun n r).axa = s.axa := rfl
@[simp] theorem Dev.setRun_coll (n : Nat) (r : Option CopyRun) : (s.setRun n r).coll = s.coll := rfl
@[simp] theorem Dev.setRun_host (n : Nat) (r : Option CopyRun) : (s.setRun n r).host = s.host := rfl
@[simp] theorem Dev.setRun_pow (n : Nat) (r : Option CopyRun) : (s.setRun n r).pow = s.pow := rfl
@[simp] theorem Dev.setRun_rcv (n : Nat) (r : Option CopyRun) : (s.setRun n r).rcv = s.rcv := rfl
@[simp] theorem Dev.setRun_evc (n : Nat) (r : Option CopyRun) : (s.setRun n r).evc = s.evc := rfl
@[simp] theorem Dev.setRun_side (n : Nat) (r : Option CopyRun) : (s.setRun n r).side = s.side := rfl
@[simp] theorem Dev.setRun_csr (n : Nat) (r : Option CopyRun) : (s.setRun n r).csr = s.csr := rfl
@[simp] theorem Dev.setRun_outbox (n : Nat) (r : Option CopyRun) : (s.setRun n r).outbox = s.outbox := rfl
@[simp] theorem Dev.setRun_free (n : Nat) (r : Option CopyRun) : (s.setRun n r).free = s.free := rfl
@[simp] theorem Dev.setRun_copy_last (n : Nat) (r : Option CopyRun) : (s.setRun n r).copy.last = s.copy.last := rfl

/-! ### `Dev.setComb` changes `axa` only -/

@[simp] theorem Dev.setComb_clock (n : Nat) (r : Option Comb) : (s.setComb n r).clock = s.clock := rfl
@[simp] theorem Dev.setComb_boot (n : Nat) (r : Option Comb) : (s.setComb n r).boot = s.boot := rfl
@[simp] theorem Dev.setComb_tests (n : Nat) (r : Option Comb) : (s.setComb n r).tests = s.tests := rfl
@[simp] theorem Dev.setComb_img (n : Nat) (r : Option Comb) : (s.setComb n r).img = s.img := rfl
@[simp] theorem Dev.setComb_d2d (n : Nat) (r : Option Comb) : (s.setComb n r).d2d = s.d2d := rfl
@[simp] theorem Dev.setComb_cores (n : Nat) (r : Option Comb) : (s.setComb n r).cores = s.cores := rfl
@[simp] theorem Dev.setComb_sched (n : Nat) (r : Option Comb) : (s.setComb n r).sched = s.sched := rfl
@[simp] theorem Dev.setComb_sync (n : Nat) (r : Option Comb) : (s.setComb n r).sync = s.sync := rfl
@[simp] theorem Dev.setComb_mem (n : Nat) (r : Option Comb) : (s.setComb n r).mem = s.mem := rfl
@[simp] theorem Dev.setComb_fab (n : Nat) (r : Option Comb) : (s.setComb n r).fab = s.fab := rfl
@[simp] theorem Dev.setComb_ra (n : Nat) (r : Option Comb) : (s.setComb n r).ra = s.ra := rfl
@[simp] theorem Dev.setComb_copy (n : Nat) (r : Option Comb) : (s.setComb n r).copy = s.copy := rfl
@[simp] theorem Dev.setComb_coll (n : Nat) (r : Option Comb) : (s.setComb n r).coll = s.coll := rfl
@[simp] theorem Dev.setComb_host (n : Nat) (r : Option Comb) : (s.setComb n r).host = s.host := rfl
@[simp] theorem Dev.setComb_pow (n : Nat) (r : Option Comb) : (s.setComb n r).pow = s.pow := rfl
@[simp] theorem Dev.setComb_rcv (n : Nat) (r : Option Comb) : (s.setComb n r).rcv = s.rcv := rfl
@[simp] theorem Dev.setComb_evc (n : Nat) (r : Option Comb) : (s.setComb n r).evc = s.evc := rfl
@[simp] theorem Dev.setComb_side (n : Nat) (r : Option Comb) : (s.setComb n r).side = s.side := rfl
@[simp] theorem Dev.setComb_csr (n : Nat) (r : Option Comb) : (s.setComb n r).csr = s.csr := rfl
@[simp] theorem Dev.setComb_outbox (n : Nat) (r : Option Comb) : (s.setComb n r).outbox = s.outbox := rfl
@[simp] theorem Dev.setComb_free (n : Nat) (r : Option Comb) : (s.setComb n r).free = s.free := rfl
@[simp] theorem Dev.setComb_axa_absorbed (n : Nat) (r : Option Comb) : (s.setComb n r).axa.absorbed = s.axa.absorbed := rfl
@[simp] theorem Dev.setComb_axa_stale (n : Nat) (r : Option Comb) : (s.setComb n r).axa.stale = s.axa.stale := rfl
@[simp] theorem Dev.setComb_axa_closed (n : Nat) (r : Option Comb) : (s.setComb n r).axa.closed = s.axa.closed := rfl

/-! ### `Dev.setGroup` changes `coll` only -/

@[simp] theorem Dev.setGroup_clock (q : Nat) (g : Option Group) : (s.setGroup q g).clock = s.clock := rfl
@[simp] theorem Dev.setGroup_boot (q : Nat) (g : Option Group) : (s.setGroup q g).boot = s.boot := rfl
@[simp] theorem Dev.setGroup_tests (q : Nat) (g : Option Group) : (s.setGroup q g).tests = s.tests := rfl
@[simp] theorem Dev.setGroup_img (q : Nat) (g : Option Group) : (s.setGroup q g).img = s.img := rfl
@[simp] theorem Dev.setGroup_d2d (q : Nat) (g : Option Group) : (s.setGroup q g).d2d = s.d2d := rfl
@[simp] theorem Dev.setGroup_cores (q : Nat) (g : Option Group) : (s.setGroup q g).cores = s.cores := rfl
@[simp] theorem Dev.setGroup_sched (q : Nat) (g : Option Group) : (s.setGroup q g).sched = s.sched := rfl
@[simp] theorem Dev.setGroup_sync (q : Nat) (g : Option Group) : (s.setGroup q g).sync = s.sync := rfl
@[simp] theorem Dev.setGroup_mem (q : Nat) (g : Option Group) : (s.setGroup q g).mem = s.mem := rfl
@[simp] theorem Dev.setGroup_fab (q : Nat) (g : Option Group) : (s.setGroup q g).fab = s.fab := rfl
@[simp] theorem Dev.setGroup_ra (q : Nat) (g : Option Group) : (s.setGroup q g).ra = s.ra := rfl
@[simp] theorem Dev.setGroup_copy (q : Nat) (g : Option Group) : (s.setGroup q g).copy = s.copy := rfl
@[simp] theorem Dev.setGroup_axa (q : Nat) (g : Option Group) : (s.setGroup q g).axa = s.axa := rfl
@[simp] theorem Dev.setGroup_host (q : Nat) (g : Option Group) : (s.setGroup q g).host = s.host := rfl
@[simp] theorem Dev.setGroup_pow (q : Nat) (g : Option Group) : (s.setGroup q g).pow = s.pow := rfl
@[simp] theorem Dev.setGroup_rcv (q : Nat) (g : Option Group) : (s.setGroup q g).rcv = s.rcv := rfl
@[simp] theorem Dev.setGroup_evc (q : Nat) (g : Option Group) : (s.setGroup q g).evc = s.evc := rfl
@[simp] theorem Dev.setGroup_side (q : Nat) (g : Option Group) : (s.setGroup q g).side = s.side := rfl
@[simp] theorem Dev.setGroup_csr (q : Nat) (g : Option Group) : (s.setGroup q g).csr = s.csr := rfl
@[simp] theorem Dev.setGroup_outbox (q : Nat) (g : Option Group) : (s.setGroup q g).outbox = s.outbox := rfl
@[simp] theorem Dev.setGroup_free (q : Nat) (g : Option Group) : (s.setGroup q g).free = s.free := rfl
@[simp] theorem Dev.setGroup_coll_freed (q : Nat) (g : Option Group) : (s.setGroup q g).coll.freed = s.coll.freed := rfl
@[simp] theorem Dev.setGroup_coll_aborts (q : Nat) (g : Option Group) : (s.setGroup q g).coll.aborts = s.coll.aborts := rfl
@[simp] theorem Dev.setGroup_coll_refused (q : Nat) (g : Option Group) : (s.setGroup q g).coll.refused = s.coll.refused := rfl
@[simp] theorem Dev.setGroup_coll_last (q : Nat) (g : Option Group) : (s.setGroup q g).coll.last = s.coll.last := rfl
@[simp] theorem Dev.setGroup_coll_seen (q : Nat) (g : Option Group) : (s.setGroup q g).coll.seen = s.coll.seen := rfl

/-! ### `Dev.modGroup` changes `coll` only -/

@[simp] theorem Dev.modGroup_clock (q : Nat) (f : Group → Group) : (s.modGroup q f).clock = s.clock := rfl
@[simp] theorem Dev.modGroup_boot (q : Nat) (f : Group → Group) : (s.modGroup q f).boot = s.boot := rfl
@[simp] theorem Dev.modGroup_tests (q : Nat) (f : Group → Group) : (s.modGroup q f).tests = s.tests := rfl
@[simp] theorem Dev.modGroup_img (q : Nat) (f : Group → Group) : (s.modGroup q f).img = s.img := rfl
@[simp] theorem Dev.modGroup_d2d (q : Nat) (f : Group → Group) : (s.modGroup q f).d2d = s.d2d := rfl
@[simp] theorem Dev.modGroup_cores (q : Nat) (f : Group → Group) : (s.modGroup q f).cores = s.cores := rfl
@[simp] theorem Dev.modGroup_sched (q : Nat) (f : Group → Group) : (s.modGroup q f).sched = s.sched := rfl
@[simp] theorem Dev.modGroup_sync (q : Nat) (f : Group → Group) : (s.modGroup q f).sync = s.sync := rfl
@[simp] theorem Dev.modGroup_mem (q : Nat) (f : Group → Group) : (s.modGroup q f).mem = s.mem := rfl
@[simp] theorem Dev.modGroup_fab (q : Nat) (f : Group → Group) : (s.modGroup q f).fab = s.fab := rfl
@[simp] theorem Dev.modGroup_ra (q : Nat) (f : Group → Group) : (s.modGroup q f).ra = s.ra := rfl
@[simp] theorem Dev.modGroup_copy (q : Nat) (f : Group → Group) : (s.modGroup q f).copy = s.copy := rfl
@[simp] theorem Dev.modGroup_axa (q : Nat) (f : Group → Group) : (s.modGroup q f).axa = s.axa := rfl
@[simp] theorem Dev.modGroup_host (q : Nat) (f : Group → Group) : (s.modGroup q f).host = s.host := rfl
@[simp] theorem Dev.modGroup_pow (q : Nat) (f : Group → Group) : (s.modGroup q f).pow = s.pow := rfl
@[simp] theorem Dev.modGroup_rcv (q : Nat) (f : Group → Group) : (s.modGroup q f).rcv = s.rcv := rfl
@[simp] theorem Dev.modGroup_evc (q : Nat) (f : Group → Group) : (s.modGroup q f).evc = s.evc := rfl
@[simp] theorem Dev.modGroup_side (q : Nat) (f : Group → Group) : (s.modGroup q f).side = s.side := rfl
@[simp] theorem Dev.modGroup_csr (q : Nat) (f : Group → Group) : (s.modGroup q f).csr = s.csr := rfl
@[simp] theorem Dev.modGroup_outbox (q : Nat) (f : Group → Group) : (s.modGroup q f).outbox = s.outbox := rfl
@[simp] theorem Dev.modGroup_free (q : Nat) (f : Group → Group) : (s.modGroup q f).free = s.free := rfl

/-! ### `Dev.modQueue` changes `host` only -/

@[simp] theorem Dev.modQueue_clock (q : Nat) (f : Queue → Queue) : (s.modQueue q f).clock = s.clock := rfl
@[simp] theorem Dev.modQueue_boot (q : Nat) (f : Queue → Queue) : (s.modQueue q f).boot = s.boot := rfl
@[simp] theorem Dev.modQueue_tests (q : Nat) (f : Queue → Queue) : (s.modQueue q f).tests = s.tests := rfl
@[simp] theorem Dev.modQueue_img (q : Nat) (f : Queue → Queue) : (s.modQueue q f).img = s.img := rfl
@[simp] theorem Dev.modQueue_d2d (q : Nat) (f : Queue → Queue) : (s.modQueue q f).d2d = s.d2d := rfl
@[simp] theorem Dev.modQueue_cores (q : Nat) (f : Queue → Queue) : (s.modQueue q f).cores = s.cores := rfl
@[simp] theorem Dev.modQueue_sched (q : Nat) (f : Queue → Queue) : (s.modQueue q f).sched = s.sched := rfl
@[simp] theorem Dev.modQueue_sync (q : Nat) (f : Queue → Queue) : (s.modQueue q f).sync = s.sync := rfl
@[simp] theorem Dev.modQueue_mem (q : Nat) (f : Queue → Queue) : (s.modQueue q f).mem = s.mem := rfl
@[simp] theorem Dev.modQueue_fab (q : Nat) (f : Queue → Queue) : (s.modQueue q f).fab = s.fab := rfl
@[simp] theorem Dev.modQueue_ra (q : Nat) (f : Queue → Queue) : (s.modQueue q f).ra = s.ra := rfl
@[simp] theorem Dev.modQueue_copy (q : Nat) (f : Queue → Queue) : (s.modQueue q f).copy = s.copy := rfl
@[simp] theorem Dev.modQueue_axa (q : Nat) (f : Queue → Queue) : (s.modQueue q f).axa = s.axa := rfl
@[simp] theorem Dev.modQueue_coll (q : Nat) (f : Queue → Queue) : (s.modQueue q f).coll = s.coll := rfl
@[simp] theorem Dev.modQueue_pow (q : Nat) (f : Queue → Queue) : (s.modQueue q f).pow = s.pow := rfl
@[simp] theorem Dev.modQueue_rcv (q : Nat) (f : Queue → Queue) : (s.modQueue q f).rcv = s.rcv := rfl
@[simp] theorem Dev.modQueue_evc (q : Nat) (f : Queue → Queue) : (s.modQueue q f).evc = s.evc := rfl
@[simp] theorem Dev.modQueue_side (q : Nat) (f : Queue → Queue) : (s.modQueue q f).side = s.side := rfl
@[simp] theorem Dev.modQueue_csr (q : Nat) (f : Queue → Queue) : (s.modQueue q f).csr = s.csr := rfl
@[simp] theorem Dev.modQueue_outbox (q : Nat) (f : Queue → Queue) : (s.modQueue q f).outbox = s.outbox := rfl
@[simp] theorem Dev.modQueue_free (q : Nat) (f : Queue → Queue) : (s.modQueue q f).free = s.free := rfl
@[simp] theorem Dev.modQueue_host_p0 (q : Nat) (f : Queue → Queue) : (s.modQueue q f).host.p0 = s.host.p0 := rfl
@[simp] theorem Dev.modQueue_host_p1 (q : Nat) (f : Queue → Queue) : (s.modQueue q f).host.p1 = s.host.p1 := rfl
@[simp] theorem Dev.modQueue_host_rings (q : Nat) (f : Queue → Queue) : (s.modQueue q f).host.rings = s.host.rings := rfl

/-! ### `Dev.modRing` changes `host` only -/

@[simp] theorem Dev.modRing_clock (n : Nat) (f : Ring → Ring) : (s.modRing n f).clock = s.clock := rfl
@[simp] theorem Dev.modRing_boot (n : Nat) (f : Ring → Ring) : (s.modRing n f).boot = s.boot := rfl
@[simp] theorem Dev.modRing_tests (n : Nat) (f : Ring → Ring) : (s.modRing n f).tests = s.tests := rfl
@[simp] theorem Dev.modRing_img (n : Nat) (f : Ring → Ring) : (s.modRing n f).img = s.img := rfl
@[simp] theorem Dev.modRing_d2d (n : Nat) (f : Ring → Ring) : (s.modRing n f).d2d = s.d2d := rfl
@[simp] theorem Dev.modRing_cores (n : Nat) (f : Ring → Ring) : (s.modRing n f).cores = s.cores := rfl
@[simp] theorem Dev.modRing_sched (n : Nat) (f : Ring → Ring) : (s.modRing n f).sched = s.sched := rfl
@[simp] theorem Dev.modRing_sync (n : Nat) (f : Ring → Ring) : (s.modRing n f).sync = s.sync := rfl
@[simp] theorem Dev.modRing_mem (n : Nat) (f : Ring → Ring) : (s.modRing n f).mem = s.mem := rfl
@[simp] theorem Dev.modRing_fab (n : Nat) (f : Ring → Ring) : (s.modRing n f).fab = s.fab := rfl
@[simp] theorem Dev.modRing_ra (n : Nat) (f : Ring → Ring) : (s.modRing n f).ra = s.ra := rfl
@[simp] theorem Dev.modRing_copy (n : Nat) (f : Ring → Ring) : (s.modRing n f).copy = s.copy := rfl
@[simp] theorem Dev.modRing_axa (n : Nat) (f : Ring → Ring) : (s.modRing n f).axa = s.axa := rfl
@[simp] theorem Dev.modRing_coll (n : Nat) (f : Ring → Ring) : (s.modRing n f).coll = s.coll := rfl
@[simp] theorem Dev.modRing_pow (n : Nat) (f : Ring → Ring) : (s.modRing n f).pow = s.pow := rfl
@[simp] theorem Dev.modRing_rcv (n : Nat) (f : Ring → Ring) : (s.modRing n f).rcv = s.rcv := rfl
@[simp] theorem Dev.modRing_evc (n : Nat) (f : Ring → Ring) : (s.modRing n f).evc = s.evc := rfl
@[simp] theorem Dev.modRing_side (n : Nat) (f : Ring → Ring) : (s.modRing n f).side = s.side := rfl
@[simp] theorem Dev.modRing_csr (n : Nat) (f : Ring → Ring) : (s.modRing n f).csr = s.csr := rfl
@[simp] theorem Dev.modRing_outbox (n : Nat) (f : Ring → Ring) : (s.modRing n f).outbox = s.outbox := rfl
@[simp] theorem Dev.modRing_free (n : Nat) (f : Ring → Ring) : (s.modRing n f).free = s.free := rfl
@[simp] theorem Dev.modRing_host_p0 (n : Nat) (f : Ring → Ring) : (s.modRing n f).host.p0 = s.host.p0 := rfl
@[simp] theorem Dev.modRing_host_p1 (n : Nat) (f : Ring → Ring) : (s.modRing n f).host.p1 = s.host.p1 := rfl
@[simp] theorem Dev.modRing_host_queues (n : Nat) (f : Ring → Ring) : (s.modRing n f).host.queues = s.host.queues := rfl

/-! ### `Dev.modHport` changes `host` only -/

@[simp] theorem Dev.modHport_clock (p : Nat) (f : HPort → HPort) : (s.modHport p f).clock = s.clock := rfl
@[simp] theorem Dev.modHport_boot (p : Nat) (f : HPort → HPort) : (s.modHport p f).boot = s.boot := rfl
@[simp] theorem Dev.modHport_tests (p : Nat) (f : HPort → HPort) : (s.modHport p f).tests = s.tests := rfl
@[simp] theorem Dev.modHport_img (p : Nat) (f : HPort → HPort) : (s.modHport p f).img = s.img := rfl
@[simp] theorem Dev.modHport_d2d (p : Nat) (f : HPort → HPort) : (s.modHport p f).d2d = s.d2d := rfl
@[simp] theorem Dev.modHport_cores (p : Nat) (f : HPort → HPort) : (s.modHport p f).cores = s.cores := rfl
@[simp] theorem Dev.modHport_sched (p : Nat) (f : HPort → HPort) : (s.modHport p f).sched = s.sched := rfl
@[simp] theorem Dev.modHport_sync (p : Nat) (f : HPort → HPort) : (s.modHport p f).sync = s.sync := rfl
@[simp] theorem Dev.modHport_mem (p : Nat) (f : HPort → HPort) : (s.modHport p f).mem = s.mem := rfl
@[simp] theorem Dev.modHport_fab (p : Nat) (f : HPort → HPort) : (s.modHport p f).fab = s.fab := rfl
@[simp] theorem Dev.modHport_ra (p : Nat) (f : HPort → HPort) : (s.modHport p f).ra = s.ra := rfl
@[simp] theorem Dev.modHport_copy (p : Nat) (f : HPort → HPort) : (s.modHport p f).copy = s.copy := rfl
@[simp] theorem Dev.modHport_axa (p : Nat) (f : HPort → HPort) : (s.modHport p f).axa = s.axa := rfl
@[simp] theorem Dev.modHport_coll (p : Nat) (f : HPort → HPort) : (s.modHport p f).coll = s.coll := rfl
@[simp] theorem Dev.modHport_pow (p : Nat) (f : HPort → HPort) : (s.modHport p f).pow = s.pow := rfl
@[simp] theorem Dev.modHport_rcv (p : Nat) (f : HPort → HPort) : (s.modHport p f).rcv = s.rcv := rfl
@[simp] theorem Dev.modHport_evc (p : Nat) (f : HPort → HPort) : (s.modHport p f).evc = s.evc := rfl
@[simp] theorem Dev.modHport_side (p : Nat) (f : HPort → HPort) : (s.modHport p f).side = s.side := rfl
@[simp] theorem Dev.modHport_csr (p : Nat) (f : HPort → HPort) : (s.modHport p f).csr = s.csr := rfl
@[simp] theorem Dev.modHport_outbox (p : Nat) (f : HPort → HPort) : (s.modHport p f).outbox = s.outbox := rfl
@[simp] theorem Dev.modHport_free (p : Nat) (f : HPort → HPort) : (s.modHport p f).free = s.free := rfl
@[simp] theorem Dev.modHport_host_queues (p : Nat) (f : HPort → HPort) : (s.modHport p f).host.queues = s.host.queues := by unfold Dev.modHport; split <;> rfl
@[simp] theorem Dev.modHport_host_rings (p : Nat) (f : HPort → HPort) : (s.modHport p f).host.rings = s.host.rings := by unfold Dev.modHport; split <;> rfl

/-! ### `Dev.modRail` changes `pow` only -/

@[simp] theorem Dev.modRail_clock (r : Nat) (f : Rail → Rail) : (s.modRail r f).clock = s.clock := rfl
@[simp] theorem Dev.modRail_boot (r : Nat) (f : Rail → Rail) : (s.modRail r f).boot = s.boot := rfl
@[simp] theorem Dev.modRail_tests (r : Nat) (f : Rail → Rail) : (s.modRail r f).tests = s.tests := rfl
@[simp] theorem Dev.modRail_img (r : Nat) (f : Rail → Rail) : (s.modRail r f).img = s.img := rfl
@[simp] theorem Dev.modRail_d2d (r : Nat) (f : Rail → Rail) : (s.modRail r f).d2d = s.d2d := rfl
@[simp] theorem Dev.modRail_cores (r : Nat) (f : Rail → Rail) : (s.modRail r f).cores = s.cores := rfl
@[simp] theorem Dev.modRail_sched (r : Nat) (f : Rail → Rail) : (s.modRail r f).sched = s.sched := rfl
@[simp] theorem Dev.modRail_sync (r : Nat) (f : Rail → Rail) : (s.modRail r f).sync = s.sync := rfl
@[simp] theorem Dev.modRail_mem (r : Nat) (f : Rail → Rail) : (s.modRail r f).mem = s.mem := rfl
@[simp] theorem Dev.modRail_fab (r : Nat) (f : Rail → Rail) : (s.modRail r f).fab = s.fab := rfl
@[simp] theorem Dev.modRail_ra (r : Nat) (f : Rail → Rail) : (s.modRail r f).ra = s.ra := rfl
@[simp] theorem Dev.modRail_copy (r : Nat) (f : Rail → Rail) : (s.modRail r f).copy = s.copy := rfl
@[simp] theorem Dev.modRail_axa (r : Nat) (f : Rail → Rail) : (s.modRail r f).axa = s.axa := rfl
@[simp] theorem Dev.modRail_coll (r : Nat) (f : Rail → Rail) : (s.modRail r f).coll = s.coll := rfl
@[simp] theorem Dev.modRail_host (r : Nat) (f : Rail → Rail) : (s.modRail r f).host = s.host := rfl
@[simp] theorem Dev.modRail_rcv (r : Nat) (f : Rail → Rail) : (s.modRail r f).rcv = s.rcv := rfl
@[simp] theorem Dev.modRail_evc (r : Nat) (f : Rail → Rail) : (s.modRail r f).evc = s.evc := rfl
@[simp] theorem Dev.modRail_side (r : Nat) (f : Rail → Rail) : (s.modRail r f).side = s.side := rfl
@[simp] theorem Dev.modRail_csr (r : Nat) (f : Rail → Rail) : (s.modRail r f).csr = s.csr := rfl
@[simp] theorem Dev.modRail_outbox (r : Nat) (f : Rail → Rail) : (s.modRail r f).outbox = s.outbox := rfl
@[simp] theorem Dev.modRail_free (r : Nat) (f : Rail → Rail) : (s.modRail r f).free = s.free := rfl
@[simp] theorem Dev.modRail_pow_mode (r : Nat) (f : Rail → Rail) : (s.modRail r f).pow.mode = s.pow.mode := rfl
@[simp] theorem Dev.modRail_pow_modeNow (r : Nat) (f : Rail → Rail) : (s.modRail r f).pow.modeNow = s.pow.modeNow := rfl
@[simp] theorem Dev.modRail_pow_change (r : Nat) (f : Rail → Rail) : (s.modRail r f).pow.change = s.pow.change := rfl
@[simp] theorem Dev.modRail_pow_later (r : Nat) (f : Rail → Rail) : (s.modRail r f).pow.later = s.pow.later := rfl
@[simp] theorem Dev.modRail_pow_pstep (r : Nat) (f : Rail → Rail) : (s.modRail r f).pow.pstep = s.pow.pstep := rfl
@[simp] theorem Dev.modRail_pow_dies (r : Nat) (f : Rail → Rail) : (s.modRail r f).pow.dies = s.pow.dies := rfl
@[simp] theorem Dev.modRail_pow_sensors (r : Nat) (f : Rail → Rail) : (s.modRail r f).pow.sensors = s.pow.sensors := rfl
@[simp] theorem Dev.modRail_pow_excluded (r : Nat) (f : Rail → Rail) : (s.modRail r f).pow.excluded = s.pow.excluded := rfl
@[simp] theorem Dev.modRail_pow_lat (r : Nat) (f : Rail → Rail) : (s.modRail r f).pow.lat = s.pow.lat := rfl
@[simp] theorem Dev.modRail_pow_shutdown (r : Nat) (f : Rail → Rail) : (s.modRail r f).pow.shutdown = s.pow.shutdown := rfl

/-! ### `Dev.modDieT` changes `pow` only -/

@[simp] theorem Dev.modDieT_clock (n : Nat) (f : DieTherm → DieTherm) : (s.modDieT n f).clock = s.clock := rfl
@[simp] theorem Dev.modDieT_boot (n : Nat) (f : DieTherm → DieTherm) : (s.modDieT n f).boot = s.boot := rfl
@[simp] theorem Dev.modDieT_tests (n : Nat) (f : DieTherm → DieTherm) : (s.modDieT n f).tests = s.tests := rfl
@[simp] theorem Dev.modDieT_img (n : Nat) (f : DieTherm → DieTherm) : (s.modDieT n f).img = s.img := rfl
@[simp] theorem Dev.modDieT_d2d (n : Nat) (f : DieTherm → DieTherm) : (s.modDieT n f).d2d = s.d2d := rfl
@[simp] theorem Dev.modDieT_cores (n : Nat) (f : DieTherm → DieTherm) : (s.modDieT n f).cores = s.cores := rfl
@[simp] theorem Dev.modDieT_sched (n : Nat) (f : DieTherm → DieTherm) : (s.modDieT n f).sched = s.sched := rfl
@[simp] theorem Dev.modDieT_sync (n : Nat) (f : DieTherm → DieTherm) : (s.modDieT n f).sync = s.sync := rfl
@[simp] theorem Dev.modDieT_mem (n : Nat) (f : DieTherm → DieTherm) : (s.modDieT n f).mem = s.mem := rfl
@[simp] theorem Dev.modDieT_fab (n : Nat) (f : DieTherm → DieTherm) : (s.modDieT n f).fab = s.fab := rfl
@[simp] theorem Dev.modDieT_ra (n : Nat) (f : DieTherm → DieTherm) : (s.modDieT n f).ra = s.ra := rfl
@[simp] theorem Dev.modDieT_copy (n : Nat) (f : DieTherm → DieTherm) : (s.modDieT n f).copy = s.copy := rfl
@[simp] theorem Dev.modDieT_axa (n : Nat) (f : DieTherm → DieTherm) : (s.modDieT n f).axa = s.axa := rfl
@[simp] theorem Dev.modDieT_coll (n : Nat) (f : DieTherm → DieTherm) : (s.modDieT n f).coll = s.coll := rfl
@[simp] theorem Dev.modDieT_host (n : Nat) (f : DieTherm → DieTherm) : (s.modDieT n f).host = s.host := rfl
@[simp] theorem Dev.modDieT_rcv (n : Nat) (f : DieTherm → DieTherm) : (s.modDieT n f).rcv = s.rcv := rfl
@[simp] theorem Dev.modDieT_evc (n : Nat) (f : DieTherm → DieTherm) : (s.modDieT n f).evc = s.evc := rfl
@[simp] theorem Dev.modDieT_side (n : Nat) (f : DieTherm → DieTherm) : (s.modDieT n f).side = s.side := rfl
@[simp] theorem Dev.modDieT_csr (n : Nat) (f : DieTherm → DieTherm) : (s.modDieT n f).csr = s.csr := rfl
@[simp] theorem Dev.modDieT_outbox (n : Nat) (f : DieTherm → DieTherm) : (s.modDieT n f).outbox = s.outbox := rfl
@[simp] theorem Dev.modDieT_free (n : Nat) (f : DieTherm → DieTherm) : (s.modDieT n f).free = s.free := rfl
@[simp] theorem Dev.modDieT_pow_mode (n : Nat) (f : DieTherm → DieTherm) : (s.modDieT n f).pow.mode = s.pow.mode := rfl
@[simp] theorem Dev.modDieT_pow_modeNow (n : Nat) (f : DieTherm → DieTherm) : (s.modDieT n f).pow.modeNow = s.pow.modeNow := rfl
@[simp] theorem Dev.modDieT_pow_change (n : Nat) (f : DieTherm → DieTherm) : (s.modDieT n f).pow.change = s.pow.change := rfl
@[simp] theorem Dev.modDieT_pow_later (n : Nat) (f : DieTherm → DieTherm) : (s.modDieT n f).pow.later = s.pow.later := rfl
@[simp] theorem Dev.modDieT_pow_pstep (n : Nat) (f : DieTherm → DieTherm) : (s.modDieT n f).pow.pstep = s.pow.pstep := rfl
@[simp] theorem Dev.modDieT_pow_rails (n : Nat) (f : DieTherm → DieTherm) : (s.modDieT n f).pow.rails = s.pow.rails := rfl
@[simp] theorem Dev.modDieT_pow_sensors (n : Nat) (f : DieTherm → DieTherm) : (s.modDieT n f).pow.sensors = s.pow.sensors := rfl
@[simp] theorem Dev.modDieT_pow_excluded (n : Nat) (f : DieTherm → DieTherm) : (s.modDieT n f).pow.excluded = s.pow.excluded := rfl
@[simp] theorem Dev.modDieT_pow_lat (n : Nat) (f : DieTherm → DieTherm) : (s.modDieT n f).pow.lat = s.pow.lat := rfl
@[simp] theorem Dev.modDieT_pow_shutdown (n : Nat) (f : DieTherm → DieTherm) : (s.modDieT n f).pow.shutdown = s.pow.shutdown := rfl

/-! ### `Dev.modLink` changes `d2d` only -/

@[simp] theorem Dev.modLink_clock (l : Nat) (f : DLink → DLink) : (s.modLink l f).clock = s.clock := rfl
@[simp] theorem Dev.modLink_boot (l : Nat) (f : DLink → DLink) : (s.modLink l f).boot = s.boot := rfl
@[simp] theorem Dev.modLink_tests (l : Nat) (f : DLink → DLink) : (s.modLink l f).tests = s.tests := rfl
@[simp] theorem Dev.modLink_img (l : Nat) (f : DLink → DLink) : (s.modLink l f).img = s.img := rfl
@[simp] theorem Dev.modLink_cores (l : Nat) (f : DLink → DLink) : (s.modLink l f).cores = s.cores := rfl
@[simp] theorem Dev.modLink_sched (l : Nat) (f : DLink → DLink) : (s.modLink l f).sched = s.sched := rfl
@[simp] theorem Dev.modLink_sync (l : Nat) (f : DLink → DLink) : (s.modLink l f).sync = s.sync := rfl
@[simp] theorem Dev.modLink_mem (l : Nat) (f : DLink → DLink) : (s.modLink l f).mem = s.mem := rfl
@[simp] theorem Dev.modLink_fab (l : Nat) (f : DLink → DLink) : (s.modLink l f).fab = s.fab := rfl
@[simp] theorem Dev.modLink_ra (l : Nat) (f : DLink → DLink) : (s.modLink l f).ra = s.ra := rfl
@[simp] theorem Dev.modLink_copy (l : Nat) (f : DLink → DLink) : (s.modLink l f).copy = s.copy := rfl
@[simp] theorem Dev.modLink_axa (l : Nat) (f : DLink → DLink) : (s.modLink l f).axa = s.axa := rfl
@[simp] theorem Dev.modLink_coll (l : Nat) (f : DLink → DLink) : (s.modLink l f).coll = s.coll := rfl
@[simp] theorem Dev.modLink_host (l : Nat) (f : DLink → DLink) : (s.modLink l f).host = s.host := rfl
@[simp] theorem Dev.modLink_pow (l : Nat) (f : DLink → DLink) : (s.modLink l f).pow = s.pow := rfl
@[simp] theorem Dev.modLink_rcv (l : Nat) (f : DLink → DLink) : (s.modLink l f).rcv = s.rcv := rfl
@[simp] theorem Dev.modLink_evc (l : Nat) (f : DLink → DLink) : (s.modLink l f).evc = s.evc := rfl
@[simp] theorem Dev.modLink_side (l : Nat) (f : DLink → DLink) : (s.modLink l f).side = s.side := rfl
@[simp] theorem Dev.modLink_csr (l : Nat) (f : DLink → DLink) : (s.modLink l f).csr = s.csr := rfl
@[simp] theorem Dev.modLink_outbox (l : Nat) (f : DLink → DLink) : (s.modLink l f).outbox = s.outbox := rfl
@[simp] theorem Dev.modLink_free (l : Nat) (f : DLink → DLink) : (s.modLink l f).free = s.free := rfl
@[simp] theorem Dev.modLink_d2d_changing (l : Nat) (f : DLink → DLink) : (s.modLink l f).d2d.changing = s.d2d.changing := rfl
@[simp] theorem Dev.modLink_d2d_viaHub (l : Nat) (f : DLink → DLink) : (s.modLink l f).d2d.viaHub = s.d2d.viaHub := rfl
@[simp] theorem Dev.modLink_d2d_retrainFor (l : Nat) (f : DLink → DLink) : (s.modLink l f).d2d.retrainFor = s.d2d.retrainFor := rfl

/-! ### `Dev.modBundle` changes `d2d` only -/

@[simp] theorem Dev.modBundle_clock (l dir b : Nat) (f : Bundle → Bundle) : (s.modBundle l dir b f).clock = s.clock := rfl
@[simp] theorem Dev.modBundle_boot (l dir b : Nat) (f : Bundle → Bundle) : (s.modBundle l dir b f).boot = s.boot := rfl
@[simp] theorem Dev.modBundle_tests (l dir b : Nat) (f : Bundle → Bundle) : (s.modBundle l dir b f).tests = s.tests := rfl
@[simp] theorem Dev.modBundle_img (l dir b : Nat) (f : Bundle → Bundle) : (s.modBundle l dir b f).img = s.img := rfl
@[simp] theorem Dev.modBundle_cores (l dir b : Nat) (f : Bundle → Bundle) : (s.modBundle l dir b f).cores = s.cores := rfl
@[simp] theorem Dev.modBundle_sched (l dir b : Nat) (f : Bundle → Bundle) : (s.modBundle l dir b f).sched = s.sched := rfl
@[simp] theorem Dev.modBundle_sync (l dir b : Nat) (f : Bundle → Bundle) : (s.modBundle l dir b f).sync = s.sync := rfl
@[simp] theorem Dev.modBundle_mem (l dir b : Nat) (f : Bundle → Bundle) : (s.modBundle l dir b f).mem = s.mem := rfl
@[simp] theorem Dev.modBundle_fab (l dir b : Nat) (f : Bundle → Bundle) : (s.modBundle l dir b f).fab = s.fab := rfl
@[simp] theorem Dev.modBundle_ra (l dir b : Nat) (f : Bundle → Bundle) : (s.modBundle l dir b f).ra = s.ra := rfl
@[simp] theorem Dev.modBundle_copy (l dir b : Nat) (f : Bundle → Bundle) : (s.modBundle l dir b f).copy = s.copy := rfl
@[simp] theorem Dev.modBundle_axa (l dir b : Nat) (f : Bundle → Bundle) : (s.modBundle l dir b f).axa = s.axa := rfl
@[simp] theorem Dev.modBundle_coll (l dir b : Nat) (f : Bundle → Bundle) : (s.modBundle l dir b f).coll = s.coll := rfl
@[simp] theorem Dev.modBundle_host (l dir b : Nat) (f : Bundle → Bundle) : (s.modBundle l dir b f).host = s.host := rfl
@[simp] theorem Dev.modBundle_pow (l dir b : Nat) (f : Bundle → Bundle) : (s.modBundle l dir b f).pow = s.pow := rfl
@[simp] theorem Dev.modBundle_rcv (l dir b : Nat) (f : Bundle → Bundle) : (s.modBundle l dir b f).rcv = s.rcv := rfl
@[simp] theorem Dev.modBundle_evc (l dir b : Nat) (f : Bundle → Bundle) : (s.modBundle l dir b f).evc = s.evc := rfl
@[simp] theorem Dev.modBundle_side (l dir b : Nat) (f : Bundle → Bundle) : (s.modBundle l dir b f).side = s.side := rfl
@[simp] theorem Dev.modBundle_csr (l dir b : Nat) (f : Bundle → Bundle) : (s.modBundle l dir b f).csr = s.csr := rfl
@[simp] theorem Dev.modBundle_outbox (l dir b : Nat) (f : Bundle → Bundle) : (s.modBundle l dir b f).outbox = s.outbox := rfl
@[simp] theorem Dev.modBundle_free (l dir b : Nat) (f : Bundle → Bundle) : (s.modBundle l dir b f).free = s.free := rfl

/-! ### `Dev.modBank` changes `evc` only -/

@[simp] theorem Dev.modBank_clock (b : Nat) (f : Bank → Bank) : (s.modBank b f).clock = s.clock := rfl
@[simp] theorem Dev.modBank_boot (b : Nat) (f : Bank → Bank) : (s.modBank b f).boot = s.boot := rfl
@[simp] theorem Dev.modBank_tests (b : Nat) (f : Bank → Bank) : (s.modBank b f).tests = s.tests := rfl
@[simp] theorem Dev.modBank_img (b : Nat) (f : Bank → Bank) : (s.modBank b f).img = s.img := rfl
@[simp] theorem Dev.modBank_d2d (b : Nat) (f : Bank → Bank) : (s.modBank b f).d2d = s.d2d := rfl
@[simp] theorem Dev.modBank_cores (b : Nat) (f : Bank → Bank) : (s.modBank b f).cores = s.cores := rfl
@[simp] theorem Dev.modBank_sched (b : Nat) (f : Bank → Bank) : (s.modBank b f).sched = s.sched := rfl
@[simp] theorem Dev.modBank_sync (b : Nat) (f : Bank → Bank) : (s.modBank b f).sync = s.sync := rfl
@[simp] theorem Dev.modBank_mem (b : Nat) (f : Bank → Bank) : (s.modBank b f).mem = s.mem := rfl
@[simp] theorem Dev.modBank_fab (b : Nat) (f : Bank → Bank) : (s.modBank b f).fab = s.fab := rfl
@[simp] theorem Dev.modBank_ra (b : Nat) (f : Bank → Bank) : (s.modBank b f).ra = s.ra := rfl
@[simp] theorem Dev.modBank_copy (b : Nat) (f : Bank → Bank) : (s.modBank b f).copy = s.copy := rfl
@[simp] theorem Dev.modBank_axa (b : Nat) (f : Bank → Bank) : (s.modBank b f).axa = s.axa := rfl
@[simp] theorem Dev.modBank_coll (b : Nat) (f : Bank → Bank) : (s.modBank b f).coll = s.coll := rfl
@[simp] theorem Dev.modBank_host (b : Nat) (f : Bank → Bank) : (s.modBank b f).host = s.host := rfl
@[simp] theorem Dev.modBank_pow (b : Nat) (f : Bank → Bank) : (s.modBank b f).pow = s.pow := rfl
@[simp] theorem Dev.modBank_rcv (b : Nat) (f : Bank → Bank) : (s.modBank b f).rcv = s.rcv := rfl
@[simp] theorem Dev.modBank_side (b : Nat) (f : Bank → Bank) : (s.modBank b f).side = s.side := rfl
@[simp] theorem Dev.modBank_csr (b : Nat) (f : Bank → Bank) : (s.modBank b f).csr = s.csr := rfl
@[simp] theorem Dev.modBank_outbox (b : Nat) (f : Bank → Bank) : (s.modBank b f).outbox = s.outbox := rfl
@[simp] theorem Dev.modBank_free (b : Nat) (f : Bank → Bank) : (s.modBank b f).free = s.free := rfl
@[simp] theorem Dev.modBank_evc_arm (b : Nat) (f : Bank → Bank) : (s.modBank b f).evc.arm = s.evc.arm := rfl
@[simp] theorem Dev.modBank_evc_seq (b : Nat) (f : Bank → Bank) : (s.modBank b f).evc.seq = s.evc.seq := rfl
@[simp] theorem Dev.modBank_evc_time (b : Nat) (f : Bank → Bank) : (s.modBank b f).evc.time = s.evc.time := rfl

/-! ### `Dev.zeroBank` changes `evc` only -/

@[simp] theorem Dev.zeroBank_clock (b : Nat) : (s.zeroBank b).clock = s.clock := rfl
@[simp] theorem Dev.zeroBank_boot (b : Nat) : (s.zeroBank b).boot = s.boot := rfl
@[simp] theorem Dev.zeroBank_tests (b : Nat) : (s.zeroBank b).tests = s.tests := rfl
@[simp] theorem Dev.zeroBank_img (b : Nat) : (s.zeroBank b).img = s.img := rfl
@[simp] theorem Dev.zeroBank_d2d (b : Nat) : (s.zeroBank b).d2d = s.d2d := rfl
@[simp] theorem Dev.zeroBank_cores (b : Nat) : (s.zeroBank b).cores = s.cores := rfl
@[simp] theorem Dev.zeroBank_sched (b : Nat) : (s.zeroBank b).sched = s.sched := rfl
@[simp] theorem Dev.zeroBank_sync (b : Nat) : (s.zeroBank b).sync = s.sync := rfl
@[simp] theorem Dev.zeroBank_mem (b : Nat) : (s.zeroBank b).mem = s.mem := rfl
@[simp] theorem Dev.zeroBank_fab (b : Nat) : (s.zeroBank b).fab = s.fab := rfl
@[simp] theorem Dev.zeroBank_ra (b : Nat) : (s.zeroBank b).ra = s.ra := rfl
@[simp] theorem Dev.zeroBank_copy (b : Nat) : (s.zeroBank b).copy = s.copy := rfl
@[simp] theorem Dev.zeroBank_axa (b : Nat) : (s.zeroBank b).axa = s.axa := rfl
@[simp] theorem Dev.zeroBank_coll (b : Nat) : (s.zeroBank b).coll = s.coll := rfl
@[simp] theorem Dev.zeroBank_host (b : Nat) : (s.zeroBank b).host = s.host := rfl
@[simp] theorem Dev.zeroBank_pow (b : Nat) : (s.zeroBank b).pow = s.pow := rfl
@[simp] theorem Dev.zeroBank_rcv (b : Nat) : (s.zeroBank b).rcv = s.rcv := rfl
@[simp] theorem Dev.zeroBank_side (b : Nat) : (s.zeroBank b).side = s.side := rfl
@[simp] theorem Dev.zeroBank_csr (b : Nat) : (s.zeroBank b).csr = s.csr := rfl
@[simp] theorem Dev.zeroBank_outbox (b : Nat) : (s.zeroBank b).outbox = s.outbox := rfl
@[simp] theorem Dev.zeroBank_free (b : Nat) : (s.zeroBank b).free = s.free := rfl

/-! ### `Dev.setReg` changes `csr` only -/

@[simp] theorem Dev.setReg_clock (block off : Nat) (v reset : Word) : (s.setReg block off v reset).clock = s.clock := rfl
@[simp] theorem Dev.setReg_boot (block off : Nat) (v reset : Word) : (s.setReg block off v reset).boot = s.boot := rfl
@[simp] theorem Dev.setReg_tests (block off : Nat) (v reset : Word) : (s.setReg block off v reset).tests = s.tests := rfl
@[simp] theorem Dev.setReg_img (block off : Nat) (v reset : Word) : (s.setReg block off v reset).img = s.img := rfl
@[simp] theorem Dev.setReg_d2d (block off : Nat) (v reset : Word) : (s.setReg block off v reset).d2d = s.d2d := rfl
@[simp] theorem Dev.setReg_cores (block off : Nat) (v reset : Word) : (s.setReg block off v reset).cores = s.cores := rfl
@[simp] theorem Dev.setReg_sched (block off : Nat) (v reset : Word) : (s.setReg block off v reset).sched = s.sched := rfl
@[simp] theorem Dev.setReg_sync (block off : Nat) (v reset : Word) : (s.setReg block off v reset).sync = s.sync := rfl
@[simp] theorem Dev.setReg_mem (block off : Nat) (v reset : Word) : (s.setReg block off v reset).mem = s.mem := rfl
@[simp] theorem Dev.setReg_fab (block off : Nat) (v reset : Word) : (s.setReg block off v reset).fab = s.fab := rfl
@[simp] theorem Dev.setReg_ra (block off : Nat) (v reset : Word) : (s.setReg block off v reset).ra = s.ra := rfl
@[simp] theorem Dev.setReg_copy (block off : Nat) (v reset : Word) : (s.setReg block off v reset).copy = s.copy := rfl
@[simp] theorem Dev.setReg_axa (block off : Nat) (v reset : Word) : (s.setReg block off v reset).axa = s.axa := rfl
@[simp] theorem Dev.setReg_coll (block off : Nat) (v reset : Word) : (s.setReg block off v reset).coll = s.coll := rfl
@[simp] theorem Dev.setReg_host (block off : Nat) (v reset : Word) : (s.setReg block off v reset).host = s.host := rfl
@[simp] theorem Dev.setReg_pow (block off : Nat) (v reset : Word) : (s.setReg block off v reset).pow = s.pow := rfl
@[simp] theorem Dev.setReg_rcv (block off : Nat) (v reset : Word) : (s.setReg block off v reset).rcv = s.rcv := rfl
@[simp] theorem Dev.setReg_evc (block off : Nat) (v reset : Word) : (s.setReg block off v reset).evc = s.evc := rfl
@[simp] theorem Dev.setReg_side (block off : Nat) (v reset : Word) : (s.setReg block off v reset).side = s.side := rfl
@[simp] theorem Dev.setReg_outbox (block off : Nat) (v reset : Word) : (s.setReg block off v reset).outbox = s.outbox := rfl
@[simp] theorem Dev.setReg_free (block off : Nat) (v reset : Word) : (s.setReg block off v reset).free = s.free := rfl

/-! ### `Dev.modSched` changes `sched` only -/

@[simp] theorem Dev.modSched_clock (c : Nat) (f : Sched → Sched) : (s.modSched c f).clock = s.clock := rfl
@[simp] theorem Dev.modSched_boot (c : Nat) (f : Sched → Sched) : (s.modSched c f).boot = s.boot := rfl
@[simp] theorem Dev.modSched_tests (c : Nat) (f : Sched → Sched) : (s.modSched c f).tests = s.tests := rfl
@[simp] theorem Dev.modSched_img (c : Nat) (f : Sched → Sched) : (s.modSched c f).img = s.img := rfl
@[simp] theorem Dev.modSched_d2d (c : Nat) (f : Sched → Sched) : (s.modSched c f).d2d = s.d2d := rfl
@[simp] theorem Dev.modSched_cores (c : Nat) (f : Sched → Sched) : (s.modSched c f).cores = s.cores := rfl
@[simp] theorem Dev.modSched_sync (c : Nat) (f : Sched → Sched) : (s.modSched c f).sync = s.sync := rfl
@[simp] theorem Dev.modSched_mem (c : Nat) (f : Sched → Sched) : (s.modSched c f).mem = s.mem := rfl
@[simp] theorem Dev.modSched_fab (c : Nat) (f : Sched → Sched) : (s.modSched c f).fab = s.fab := rfl
@[simp] theorem Dev.modSched_ra (c : Nat) (f : Sched → Sched) : (s.modSched c f).ra = s.ra := rfl
@[simp] theorem Dev.modSched_copy (c : Nat) (f : Sched → Sched) : (s.modSched c f).copy = s.copy := rfl
@[simp] theorem Dev.modSched_axa (c : Nat) (f : Sched → Sched) : (s.modSched c f).axa = s.axa := rfl
@[simp] theorem Dev.modSched_coll (c : Nat) (f : Sched → Sched) : (s.modSched c f).coll = s.coll := rfl
@[simp] theorem Dev.modSched_host (c : Nat) (f : Sched → Sched) : (s.modSched c f).host = s.host := rfl
@[simp] theorem Dev.modSched_pow (c : Nat) (f : Sched → Sched) : (s.modSched c f).pow = s.pow := rfl
@[simp] theorem Dev.modSched_rcv (c : Nat) (f : Sched → Sched) : (s.modSched c f).rcv = s.rcv := rfl
@[simp] theorem Dev.modSched_evc (c : Nat) (f : Sched → Sched) : (s.modSched c f).evc = s.evc := rfl
@[simp] theorem Dev.modSched_side (c : Nat) (f : Sched → Sched) : (s.modSched c f).side = s.side := rfl
@[simp] theorem Dev.modSched_csr (c : Nat) (f : Sched → Sched) : (s.modSched c f).csr = s.csr := rfl
@[simp] theorem Dev.modSched_outbox (c : Nat) (f : Sched → Sched) : (s.modSched c f).outbox = s.outbox := rfl
@[simp] theorem Dev.modSched_free (c : Nat) (f : Sched → Sched) : (s.modSched c f).free = s.free := rfl

/-! ### `Dev.draw` changes `free` only -/

@[simp] theorem Dev.draw_clock : (s.draw).clock = s.clock := rfl
@[simp] theorem Dev.draw_boot : (s.draw).boot = s.boot := rfl
@[simp] theorem Dev.draw_tests : (s.draw).tests = s.tests := rfl
@[simp] theorem Dev.draw_img : (s.draw).img = s.img := rfl
@[simp] theorem Dev.draw_d2d : (s.draw).d2d = s.d2d := rfl
@[simp] theorem Dev.draw_cores : (s.draw).cores = s.cores := rfl
@[simp] theorem Dev.draw_sched : (s.draw).sched = s.sched := rfl
@[simp] theorem Dev.draw_sync : (s.draw).sync = s.sync := rfl
@[simp] theorem Dev.draw_mem : (s.draw).mem = s.mem := rfl
@[simp] theorem Dev.draw_fab : (s.draw).fab = s.fab := rfl
@[simp] theorem Dev.draw_ra : (s.draw).ra = s.ra := rfl
@[simp] theorem Dev.draw_copy : (s.draw).copy = s.copy := rfl
@[simp] theorem Dev.draw_axa : (s.draw).axa = s.axa := rfl
@[simp] theorem Dev.draw_coll : (s.draw).coll = s.coll := rfl
@[simp] theorem Dev.draw_host : (s.draw).host = s.host := rfl
@[simp] theorem Dev.draw_pow : (s.draw).pow = s.pow := rfl
@[simp] theorem Dev.draw_rcv : (s.draw).rcv = s.rcv := rfl
@[simp] theorem Dev.draw_evc : (s.draw).evc = s.evc := rfl
@[simp] theorem Dev.draw_side : (s.draw).side = s.side := rfl
@[simp] theorem Dev.draw_csr : (s.draw).csr = s.csr := rfl
@[simp] theorem Dev.draw_outbox : (s.draw).outbox = s.outbox := rfl

/-! ### `Dev.logE` changes `rcv` only -/

@[simp] theorem Dev.logE_clock (code : Code) (unit : Nat) : (s.logE code unit).clock = s.clock := rfl
@[simp] theorem Dev.logE_boot (code : Code) (unit : Nat) : (s.logE code unit).boot = s.boot := rfl
@[simp] theorem Dev.logE_tests (code : Code) (unit : Nat) : (s.logE code unit).tests = s.tests := rfl
@[simp] theorem Dev.logE_img (code : Code) (unit : Nat) : (s.logE code unit).img = s.img := rfl
@[simp] theorem Dev.logE_d2d (code : Code) (unit : Nat) : (s.logE code unit).d2d = s.d2d := rfl
@[simp] theorem Dev.logE_cores (code : Code) (unit : Nat) : (s.logE code unit).cores = s.cores := rfl
@[simp] theorem Dev.logE_sched (code : Code) (unit : Nat) : (s.logE code unit).sched = s.sched := rfl
@[simp] theorem Dev.logE_sync (code : Code) (unit : Nat) : (s.logE code unit).sync = s.sync := rfl
@[simp] theorem Dev.logE_mem (code : Code) (unit : Nat) : (s.logE code unit).mem = s.mem := rfl
@[simp] theorem Dev.logE_fab (code : Code) (unit : Nat) : (s.logE code unit).fab = s.fab := rfl
@[simp] theorem Dev.logE_ra (code : Code) (unit : Nat) : (s.logE code unit).ra = s.ra := rfl
@[simp] theorem Dev.logE_copy (code : Code) (unit : Nat) : (s.logE code unit).copy = s.copy := rfl
@[simp] theorem Dev.logE_axa (code : Code) (unit : Nat) : (s.logE code unit).axa = s.axa := rfl
@[simp] theorem Dev.logE_coll (code : Code) (unit : Nat) : (s.logE code unit).coll = s.coll := rfl
@[simp] theorem Dev.logE_host (code : Code) (unit : Nat) : (s.logE code unit).host = s.host := rfl
@[simp] theorem Dev.logE_pow (code : Code) (unit : Nat) : (s.logE code unit).pow = s.pow := rfl
@[simp] theorem Dev.logE_evc (code : Code) (unit : Nat) : (s.logE code unit).evc = s.evc := rfl
@[simp] theorem Dev.logE_side (code : Code) (unit : Nat) : (s.logE code unit).side = s.side := rfl
@[simp] theorem Dev.logE_csr (code : Code) (unit : Nat) : (s.logE code unit).csr = s.csr := rfl
@[simp] theorem Dev.logE_outbox (code : Code) (unit : Nat) : (s.logE code unit).outbox = s.outbox := rfl
@[simp] theorem Dev.logE_free (code : Code) (unit : Nat) : (s.logE code unit).free = s.free := rfl
@[simp] theorem Dev.logE_rcv_go (code : Code) (unit : Nat) : (s.logE code unit).rcv.go = s.rcv.go := rfl
@[simp] theorem Dev.logE_rcv_active (code : Code) (unit : Nat) : (s.logE code unit).rcv.active = s.rcv.active := rfl
@[simp] theorem Dev.logE_rcv_flushing (code : Code) (unit : Nat) : (s.logE code unit).rcv.flushing = s.rcv.flushing := rfl
@[simp] theorem Dev.logE_rcv_lastDomain (code : Code) (unit : Nat) : (s.logE code unit).rcv.lastDomain = s.rcv.lastDomain := rfl
@[simp] theorem Dev.logE_rcv_lastUnit (code : Code) (unit : Nat) : (s.logE code unit).rcv.lastUnit = s.rcv.lastUnit := rfl
@[simp] theorem Dev.logE_rcv_lastCause (code : Code) (unit : Nat) : (s.logE code unit).rcv.lastCause = s.rcv.lastCause := rfl
@[simp] theorem Dev.logE_rcv_escalations (code : Code) (unit : Nat) : (s.logE code unit).rcv.escalations = s.rcv.escalations := rfl
@[simp] theorem Dev.logE_rcv_devTimes (code : Code) (unit : Nat) : (s.logE code unit).rcv.devTimes = s.rcv.devTimes := rfl
@[simp] theorem Dev.logE_rcv_hbCount (code : Code) (unit : Nat) : (s.logE code unit).rcv.hbCount = s.rcv.hbCount := rfl
@[simp] theorem Dev.logE_rcv_hbHalt (code : Code) (unit : Nat) : (s.logE code unit).rcv.hbHalt = s.rcv.hbHalt := rfl
@[simp] theorem Dev.logE_rcv_hung (code : Code) (unit : Nat) : (s.logE code unit).rcv.hung = s.rcv.hung := rfl
@[simp] theorem Dev.logE_rcv_capsule (code : Code) (unit : Nat) : (s.logE code unit).rcv.capsule = s.rcv.capsule := rfl
@[simp] theorem Dev.logE_rcv_phase (code : Code) (unit : Nat) : (s.logE code unit).rcv.phase = s.rcv.phase := rfl
@[simp] theorem Dev.logE_rcv_forced (code : Code) (unit : Nat) : (s.logE code unit).rcv.forced = s.rcv.forced := rfl
@[simp] theorem Dev.logE_rcv_blocked (code : Code) (unit : Nat) : (s.logE code unit).rcv.blocked = s.rcv.blocked := rfl
@[simp] theorem Dev.logE_rcv_drainCode (code : Code) (unit : Nat) : (s.logE code unit).rcv.drainCode = s.rcv.drainCode := rfl
@[simp] theorem Dev.logE_rcv_pressMs (code : Code) (unit : Nat) : (s.logE code unit).rcv.pressMs = s.rcv.pressMs := rfl
@[simp] theorem Dev.logE_rcv_safe (code : Code) (unit : Nat) : (s.logE code unit).rcv.safe = s.rcv.safe := rfl

/-! ### `Dev.lastReset` changes `rcv` only -/

@[simp] theorem Dev.lastReset_clock (domain unit : Nat) (cause : Code) : (s.lastReset domain unit cause).clock = s.clock := rfl
@[simp] theorem Dev.lastReset_boot (domain unit : Nat) (cause : Code) : (s.lastReset domain unit cause).boot = s.boot := rfl
@[simp] theorem Dev.lastReset_tests (domain unit : Nat) (cause : Code) : (s.lastReset domain unit cause).tests = s.tests := rfl
@[simp] theorem Dev.lastReset_img (domain unit : Nat) (cause : Code) : (s.lastReset domain unit cause).img = s.img := rfl
@[simp] theorem Dev.lastReset_d2d (domain unit : Nat) (cause : Code) : (s.lastReset domain unit cause).d2d = s.d2d := rfl
@[simp] theorem Dev.lastReset_cores (domain unit : Nat) (cause : Code) : (s.lastReset domain unit cause).cores = s.cores := rfl
@[simp] theorem Dev.lastReset_sched (domain unit : Nat) (cause : Code) : (s.lastReset domain unit cause).sched = s.sched := rfl
@[simp] theorem Dev.lastReset_sync (domain unit : Nat) (cause : Code) : (s.lastReset domain unit cause).sync = s.sync := rfl
@[simp] theorem Dev.lastReset_mem (domain unit : Nat) (cause : Code) : (s.lastReset domain unit cause).mem = s.mem := rfl
@[simp] theorem Dev.lastReset_fab (domain unit : Nat) (cause : Code) : (s.lastReset domain unit cause).fab = s.fab := rfl
@[simp] theorem Dev.lastReset_ra (domain unit : Nat) (cause : Code) : (s.lastReset domain unit cause).ra = s.ra := rfl
@[simp] theorem Dev.lastReset_copy (domain unit : Nat) (cause : Code) : (s.lastReset domain unit cause).copy = s.copy := rfl
@[simp] theorem Dev.lastReset_axa (domain unit : Nat) (cause : Code) : (s.lastReset domain unit cause).axa = s.axa := rfl
@[simp] theorem Dev.lastReset_coll (domain unit : Nat) (cause : Code) : (s.lastReset domain unit cause).coll = s.coll := rfl
@[simp] theorem Dev.lastReset_host (domain unit : Nat) (cause : Code) : (s.lastReset domain unit cause).host = s.host := rfl
@[simp] theorem Dev.lastReset_pow (domain unit : Nat) (cause : Code) : (s.lastReset domain unit cause).pow = s.pow := rfl
@[simp] theorem Dev.lastReset_evc (domain unit : Nat) (cause : Code) : (s.lastReset domain unit cause).evc = s.evc := rfl
@[simp] theorem Dev.lastReset_side (domain unit : Nat) (cause : Code) : (s.lastReset domain unit cause).side = s.side := rfl
@[simp] theorem Dev.lastReset_csr (domain unit : Nat) (cause : Code) : (s.lastReset domain unit cause).csr = s.csr := rfl
@[simp] theorem Dev.lastReset_outbox (domain unit : Nat) (cause : Code) : (s.lastReset domain unit cause).outbox = s.outbox := rfl
@[simp] theorem Dev.lastReset_free (domain unit : Nat) (cause : Code) : (s.lastReset domain unit cause).free = s.free := rfl
@[simp] theorem Dev.lastReset_rcv_go (domain unit : Nat) (cause : Code) : (s.lastReset domain unit cause).rcv.go = s.rcv.go := rfl
@[simp] theorem Dev.lastReset_rcv_active (domain unit : Nat) (cause : Code) : (s.lastReset domain unit cause).rcv.active = s.rcv.active := rfl
@[simp] theorem Dev.lastReset_rcv_flushing (domain unit : Nat) (cause : Code) : (s.lastReset domain unit cause).rcv.flushing = s.rcv.flushing := rfl
@[simp] theorem Dev.lastReset_rcv_escalations (domain unit : Nat) (cause : Code) : (s.lastReset domain unit cause).rcv.escalations = s.rcv.escalations := rfl
@[simp] theorem Dev.lastReset_rcv_devTimes (domain unit : Nat) (cause : Code) : (s.lastReset domain unit cause).rcv.devTimes = s.rcv.devTimes := rfl
@[simp] theorem Dev.lastReset_rcv_hbCount (domain unit : Nat) (cause : Code) : (s.lastReset domain unit cause).rcv.hbCount = s.rcv.hbCount := rfl
@[simp] theorem Dev.lastReset_rcv_hbHalt (domain unit : Nat) (cause : Code) : (s.lastReset domain unit cause).rcv.hbHalt = s.rcv.hbHalt := rfl
@[simp] theorem Dev.lastReset_rcv_hung (domain unit : Nat) (cause : Code) : (s.lastReset domain unit cause).rcv.hung = s.rcv.hung := rfl
@[simp] theorem Dev.lastReset_rcv_capsule (domain unit : Nat) (cause : Code) : (s.lastReset domain unit cause).rcv.capsule = s.rcv.capsule := rfl
@[simp] theorem Dev.lastReset_rcv_log (domain unit : Nat) (cause : Code) : (s.lastReset domain unit cause).rcv.log = s.rcv.log := rfl
@[simp] theorem Dev.lastReset_rcv_phase (domain unit : Nat) (cause : Code) : (s.lastReset domain unit cause).rcv.phase = s.rcv.phase := rfl
@[simp] theorem Dev.lastReset_rcv_forced (domain unit : Nat) (cause : Code) : (s.lastReset domain unit cause).rcv.forced = s.rcv.forced := rfl
@[simp] theorem Dev.lastReset_rcv_blocked (domain unit : Nat) (cause : Code) : (s.lastReset domain unit cause).rcv.blocked = s.rcv.blocked := rfl
@[simp] theorem Dev.lastReset_rcv_drainCode (domain unit : Nat) (cause : Code) : (s.lastReset domain unit cause).rcv.drainCode = s.rcv.drainCode := rfl
@[simp] theorem Dev.lastReset_rcv_pressMs (domain unit : Nat) (cause : Code) : (s.lastReset domain unit cause).rcv.pressMs = s.rcv.pressMs := rfl
@[simp] theorem Dev.lastReset_rcv_safe (domain unit : Nat) (cause : Code) : (s.lastReset domain unit cause).rcv.safe = s.rcv.safe := rfl

/-! ### `Dev.out` changes `outbox` only -/

@[simp] theorem Dev.out_clock (o : Out) : (s.out o).clock = s.clock := rfl
@[simp] theorem Dev.out_boot (o : Out) : (s.out o).boot = s.boot := rfl
@[simp] theorem Dev.out_tests (o : Out) : (s.out o).tests = s.tests := rfl
@[simp] theorem Dev.out_img (o : Out) : (s.out o).img = s.img := rfl
@[simp] theorem Dev.out_d2d (o : Out) : (s.out o).d2d = s.d2d := rfl
@[simp] theorem Dev.out_cores (o : Out) : (s.out o).cores = s.cores := rfl
@[simp] theorem Dev.out_sched (o : Out) : (s.out o).sched = s.sched := rfl
@[simp] theorem Dev.out_sync (o : Out) : (s.out o).sync = s.sync := rfl
@[simp] theorem Dev.out_mem (o : Out) : (s.out o).mem = s.mem := rfl
@[simp] theorem Dev.out_fab (o : Out) : (s.out o).fab = s.fab := rfl
@[simp] theorem Dev.out_ra (o : Out) : (s.out o).ra = s.ra := rfl
@[simp] theorem Dev.out_copy (o : Out) : (s.out o).copy = s.copy := rfl
@[simp] theorem Dev.out_axa (o : Out) : (s.out o).axa = s.axa := rfl
@[simp] theorem Dev.out_coll (o : Out) : (s.out o).coll = s.coll := rfl
@[simp] theorem Dev.out_host (o : Out) : (s.out o).host = s.host := rfl
@[simp] theorem Dev.out_pow (o : Out) : (s.out o).pow = s.pow := rfl
@[simp] theorem Dev.out_rcv (o : Out) : (s.out o).rcv = s.rcv := rfl
@[simp] theorem Dev.out_evc (o : Out) : (s.out o).evc = s.evc := rfl
@[simp] theorem Dev.out_side (o : Out) : (s.out o).side = s.side := rfl
@[simp] theorem Dev.out_csr (o : Out) : (s.out o).csr = s.csr := rfl
@[simp] theorem Dev.out_free (o : Out) : (s.out o).free = s.free := rfl

/-! ### What an update makes of its own field -/

theorem Dev.out_outbox (o : Out) : (s.out o).outbox = s.outbox ++ [o] := rfl
theorem Dev.draw_free : s.draw.free = s.free + 1 := rfl
theorem Dev.logE_log (code : Code) (unit : Nat) : (s.logE code unit).rcv.log = { code, unit, usec := s.usec } :: s.rcv.log := rfl

/-! ### Threads -/

variable (t : Thread)

@[simp] theorem Thread.wg_st (i : BitVec 5) (w : Word) : (t.wg i w).st = t.st := by unfold Thread.wg; split <;> rfl
@[simp] theorem Thread.wg_pc (i : BitVec 5) (w : Word) : (t.wg i w).pc = t.pc := by unfold Thread.wg; split <;> rfl
@[simp] theorem Thread.wg_v (i : BitVec 5) (w : Word) : (t.wg i w).v = t.v := by unfold Thread.wg; split <;> rfl
@[simp] theorem Thread.wg_p (i : BitVec 5) (w : Word) : (t.wg i w).p = t.p := by unfold Thread.wg; split <;> rfl
@[simp] theorem Thread.wg_rk (i : BitVec 5) (w : Word) : (t.wg i w).rk = t.rk := by unfold Thread.wg; split <;> rfl
@[simp] theorem Thread.wg_epoch (i : BitVec 5) (w : Word) : (t.wg i w).epoch = t.epoch := by unfold Thread.wg; split <;> rfl
@[simp] theorem Thread.wg_remCode (i : BitVec 5) (w : Word) : (t.wg i w).remCode = t.remCode := by unfold Thread.wg; split <;> rfl
@[simp] theorem Thread.wg_remCount (i : BitVec 5) (w : Word) : (t.wg i w).remCount = t.remCount := by unfold Thread.wg; split <;> rfl
@[simp] theorem Thread.wg_work (i : BitVec 5) (w : Word) : (t.wg i w).work = t.work := by unfold Thread.wg; split <;> rfl
@[simp] theorem Thread.wg_awaiting (i : BitVec 5) (w : Word) : (t.wg i w).awaiting = t.awaiting := by unfold Thread.wg; split <;> rfl
@[simp] theorem Thread.wg_stash (i : BitVec 5) (w : Word) : (t.wg i w).stash = t.stash := by unfold Thread.wg; split <;> rfl
@[simp] theorem Thread.wg_wait (i : BitVec 5) (w : Word) : (t.wg i w).wait = t.wait := by unfold Thread.wg; split <;> rfl
@[simp] theorem Thread.wg_blocked (i : BitVec 5) (w : Word) : (t.wg i w).blocked = t.blocked := by unfold Thread.wg; split <;> rfl
@[simp] theorem Thread.wg_fault (i : BitVec 5) (w : Word) : (t.wg i w).fault = t.fault := by unfold Thread.wg; split <;> rfl
@[simp] theorem Thread.wg_resetCode (i : BitVec 5) (w : Word) : (t.wg i w).resetCode = t.resetCode := by unfold Thread.wg; split <;> rfl
@[simp] theorem Thread.wg_jumpFrom (i : BitVec 5) (w : Word) : (t.wg i w).jumpFrom = t.jumpFrom := by unfold Thread.wg; split <;> rfl
@[simp] theorem Thread.wg_pcOut (i : BitVec 5) (w : Word) : (t.wg i w).pcOut = t.pcOut := by unfold Thread.wg; split <;> rfl
@[simp] theorem Thread.wg_line (i : BitVec 5) (w : Word) : (t.wg i w).line = t.line := by unfold Thread.wg; split <;> rfl
@[simp] theorem Thread.wp_st (i : BitVec 3) (w : PReg) : (t.wp i w).st = t.st := by unfold Thread.wp; split <;> rfl
@[simp] theorem Thread.wp_pc (i : BitVec 3) (w : PReg) : (t.wp i w).pc = t.pc := by unfold Thread.wp; split <;> rfl
@[simp] theorem Thread.wp_g (i : BitVec 3) (w : PReg) : (t.wp i w).g = t.g := by unfold Thread.wp; split <;> rfl
@[simp] theorem Thread.wp_v (i : BitVec 3) (w : PReg) : (t.wp i w).v = t.v := by unfold Thread.wp; split <;> rfl
@[simp] theorem Thread.wp_rk (i : BitVec 3) (w : PReg) : (t.wp i w).rk = t.rk := by unfold Thread.wp; split <;> rfl
@[simp] theorem Thread.wp_epoch (i : BitVec 3) (w : PReg) : (t.wp i w).epoch = t.epoch := by unfold Thread.wp; split <;> rfl
@[simp] theorem Thread.wp_remCode (i : BitVec 3) (w : PReg) : (t.wp i w).remCode = t.remCode := by unfold Thread.wp; split <;> rfl
@[simp] theorem Thread.wp_remCount (i : BitVec 3) (w : PReg) : (t.wp i w).remCount = t.remCount := by unfold Thread.wp; split <;> rfl
@[simp] theorem Thread.wp_work (i : BitVec 3) (w : PReg) : (t.wp i w).work = t.work := by unfold Thread.wp; split <;> rfl
@[simp] theorem Thread.wp_awaiting (i : BitVec 3) (w : PReg) : (t.wp i w).awaiting = t.awaiting := by unfold Thread.wp; split <;> rfl
@[simp] theorem Thread.wp_stash (i : BitVec 3) (w : PReg) : (t.wp i w).stash = t.stash := by unfold Thread.wp; split <;> rfl
@[simp] theorem Thread.wp_wait (i : BitVec 3) (w : PReg) : (t.wp i w).wait = t.wait := by unfold Thread.wp; split <;> rfl
@[simp] theorem Thread.wp_blocked (i : BitVec 3) (w : PReg) : (t.wp i w).blocked = t.blocked := by unfold Thread.wp; split <;> rfl
@[simp] theorem Thread.wp_fault (i : BitVec 3) (w : PReg) : (t.wp i w).fault = t.fault := by unfold Thread.wp; split <;> rfl
@[simp] theorem Thread.wp_resetCode (i : BitVec 3) (w : PReg) : (t.wp i w).resetCode = t.resetCode := by unfold Thread.wp; split <;> rfl
@[simp] theorem Thread.wp_jumpFrom (i : BitVec 3) (w : PReg) : (t.wp i w).jumpFrom = t.jumpFrom := by unfold Thread.wp; split <;> rfl
@[simp] theorem Thread.wp_pcOut (i : BitVec 3) (w : PReg) : (t.wp i w).pcOut = t.pcOut := by unfold Thread.wp; split <;> rfl
@[simp] theorem Thread.wp_line (i : BitVec 3) (w : PReg) : (t.wp i w).line = t.line := by unfold Thread.wp; split <;> rfl
@[simp] theorem Thread.wv_st (i : BitVec 5) (w : VReg) : (t.wv i w).st = t.st := rfl
@[simp] theorem Thread.wv_pc (i : BitVec 5) (w : VReg) : (t.wv i w).pc = t.pc := rfl
@[simp] theorem Thread.wv_g (i : BitVec 5) (w : VReg) : (t.wv i w).g = t.g := rfl
@[simp] theorem Thread.wv_p (i : BitVec 5) (w : VReg) : (t.wv i w).p = t.p := rfl
@[simp] theorem Thread.wv_rk (i : BitVec 5) (w : VReg) : (t.wv i w).rk = t.rk := rfl
@[simp] theorem Thread.wv_epoch (i : BitVec 5) (w : VReg) : (t.wv i w).epoch = t.epoch := rfl
@[simp] theorem Thread.wv_remCode (i : BitVec 5) (w : VReg) : (t.wv i w).remCode = t.remCode := rfl
@[simp] theorem Thread.wv_remCount (i : BitVec 5) (w : VReg) : (t.wv i w).remCount = t.remCount := rfl
@[simp] theorem Thread.wv_work (i : BitVec 5) (w : VReg) : (t.wv i w).work = t.work := rfl
@[simp] theorem Thread.wv_awaiting (i : BitVec 5) (w : VReg) : (t.wv i w).awaiting = t.awaiting := rfl
@[simp] theorem Thread.wv_stash (i : BitVec 5) (w : VReg) : (t.wv i w).stash = t.stash := rfl
@[simp] theorem Thread.wv_wait (i : BitVec 5) (w : VReg) : (t.wv i w).wait = t.wait := rfl
@[simp] theorem Thread.wv_blocked (i : BitVec 5) (w : VReg) : (t.wv i w).blocked = t.blocked := rfl
@[simp] theorem Thread.wv_fault (i : BitVec 5) (w : VReg) : (t.wv i w).fault = t.fault := rfl
@[simp] theorem Thread.wv_resetCode (i : BitVec 5) (w : VReg) : (t.wv i w).resetCode = t.resetCode := rfl
@[simp] theorem Thread.wv_jumpFrom (i : BitVec 5) (w : VReg) : (t.wv i w).jumpFrom = t.jumpFrom := rfl
@[simp] theorem Thread.wv_pcOut (i : BitVec 5) (w : VReg) : (t.wv i w).pcOut = t.pcOut := rfl
@[simp] theorem Thread.wv_line (i : BitVec 5) (w : VReg) : (t.wv i w).line = t.line := rfl
@[simp] theorem Thread.retire_g : (t.retire).g = t.g := rfl
@[simp] theorem Thread.retire_v : (t.retire).v = t.v := rfl
@[simp] theorem Thread.retire_p : (t.retire).p = t.p := rfl
@[simp] theorem Thread.retire_rk : (t.retire).rk = t.rk := rfl
@[simp] theorem Thread.retire_epoch : (t.retire).epoch = t.epoch := rfl
@[simp] theorem Thread.retire_remCode : (t.retire).remCode = t.remCode := rfl
@[simp] theorem Thread.retire_remCount : (t.retire).remCount = t.remCount := rfl
@[simp] theorem Thread.retire_work : (t.retire).work = t.work := rfl
@[simp] theorem Thread.retire_awaiting : (t.retire).awaiting = t.awaiting := rfl
@[simp] theorem Thread.retire_blocked : (t.retire).blocked = t.blocked := rfl
@[simp] theorem Thread.retire_fault : (t.retire).fault = t.fault := rfl
@[simp] theorem Thread.retire_resetCode : (t.retire).resetCode = t.resetCode := rfl
@[simp] theorem Thread.retire_pcOut : (t.retire).pcOut = t.pcOut := rfl
@[simp] theorem Thread.remErr_st (code : Code) : (t.remErr code).st = t.st := rfl
@[simp] theorem Thread.remErr_pc (code : Code) : (t.remErr code).pc = t.pc := rfl
@[simp] theorem Thread.remErr_g (code : Code) : (t.remErr code).g = t.g := rfl
@[simp] theorem Thread.remErr_v (code : Code) : (t.remErr code).v = t.v := rfl
@[simp] theorem Thread.remErr_p (code : Code) : (t.remErr code).p = t.p := rfl
@[simp] theorem Thread.remErr_rk (code : Code) : (t.remErr code).rk = t.rk := rfl
@[simp] theorem Thread.remErr_epoch (code : Code) : (t.remErr code).epoch = t.epoch := rfl
@[simp] theorem Thread.remErr_work (code : Code) : (t.remErr code).work = t.work := rfl
@[simp] theorem Thread.remErr_awaiting (code : Code) : (t.remErr code).awaiting = t.awaiting := rfl
@[simp] theorem Thread.remErr_stash (code : Code) : (t.remErr code).stash = t.stash := rfl
@[simp] theorem Thread.remErr_wait (code : Code) : (t.remErr code).wait = t.wait := rfl
@[simp] theorem Thread.remErr_blocked (code : Code) : (t.remErr code).blocked = t.blocked := rfl
@[simp] theorem Thread.remErr_fault (code : Code) : (t.remErr code).fault = t.fault := rfl
@[simp] theorem Thread.remErr_resetCode (code : Code) : (t.remErr code).resetCode = t.resetCode := rfl
@[simp] theorem Thread.remErr_jumpFrom (code : Code) : (t.remErr code).jumpFrom = t.jumpFrom := rfl
@[simp] theorem Thread.remErr_pcOut (code : Code) : (t.remErr code).pcOut = t.pcOut := rfl
@[simp] theorem Thread.remErr_line (code : Code) : (t.remErr code).line = t.line := rfl
@[simp] theorem Thread.retire_st : t.retire.st = .ready := rfl
@[simp] theorem Thread.retire_pc : t.retire.pc = t.pc + 8 := rfl
@[simp] theorem Thread.retire_wait : t.retire.wait = .none := rfl

/-- R166: g0 reads zero, whatever is written to it. -/
@[simp] theorem Thread.rg_zero : t.rg 0 = 0 := rfl
@[simp] theorem Thread.wg_zero (w : Word) : t.wg 0 w = t := rfl
/-- R166: p0 reads all ones. -/
@[simp] theorem Thread.rp_zero : t.rp 0 = BitVec.allOnes 512 := rfl
@[simp] theorem Thread.retire_rg (i : BitVec 5) : t.retire.rg i = t.rg i := rfl
@[simp] theorem Thread.retire_rv (i : BitVec 5) : t.retire.rv i = t.rv i := rfl
@[simp] theorem Thread.retire_rp (i : BitVec 3) : t.retire.rp i = t.rp i := rfl

end Sys2Proof.Machine
end

