-- ==== Sys2Proof/Laws/Act.lean ====
section
/-! SUPPORT. Laws of the shared operations: how a command acts, repeated changes, event counting, and what `finish` settles. -/

namespace Sys2Proof.Machine

/-! ### How a command acts -/

/-- A well-formed command on a live package has its effect, and everything settles. -/
theorem act_live {c : Instr} {f : Dev → Dev} {s : State} (hc : c.wf = true) (h : s.dev.live = true) :
    act c f s = .next { s with dev := (f s.dev).finish } := by
  simp [act, actIf, hc, h]

theorem actIf_live {ok : Bool} {f : Dev → Dev} {s : State} (hc : ok = true) (h : s.dev.live = true) :
    actIf ok f s = .next { s with dev := (f s.dev).finish } := by
  simp [actIf, hc, h]

theorem actAlways_ok {ok : Bool} {f : Dev → Dev} {s : State} (hc : ok = true) :
    actAlways ok f s = .next { s with dev := (f s.dev).finish } := by
  simp [actAlways, hc]

/-- An ill-formed command, or any on a package that does not run, changes nothing. -/
theorem actIf_off {ok : Bool} {f : Dev → Dev} {s : State} (h : (ok && s.dev.live) = false) : actIf ok f s = .next s := by
  simp [actIf, h]

/-- The device that a state is given. -/
theorem State.setDev_dev (s : State) (d : Dev) : ({ s with dev := d } : State).dev = d := rfl

/-- R16: what `act` answers is always a next state with the same queue. -/
theorem actIf_next (ok : Bool) (f : Dev → Dev) (s : State) :
    ∃ t, actIf ok f s = .next t ∧ t.pending = s.pending ∧ (t.dev = s.dev ∨ t.dev = (f s.dev).finish) := by
  by_cases h : (ok && s.dev.live) = true
  · exact ⟨{ s with dev := (f s.dev).finish }, by simp only [actIf, h, if_true], rfl, .inr (State.setDev_dev s _)⟩
  · exact ⟨s, actIf_off (Bool.eq_false_iff.mpr h), rfl, .inl rfl⟩

theorem actAlways_next (ok : Bool) (f : Dev → Dev) (s : State) :
    ∃ t, actAlways ok f s = .next t ∧ t.pending = s.pending ∧ (t.dev = s.dev ∨ t.dev = (f s.dev).finish) := by
  by_cases h : ok = true
  · exact ⟨{ s with dev := (f s.dev).finish }, actAlways_ok h, rfl, .inr (State.setDev_dev s _)⟩
  · exact ⟨s, by simp only [actAlways, h, Bool.false_eq_true, if_false], rfl, .inl rfl⟩

/-! ### Repeated and conditional changes -/

/-- What every step of a repeated change keeps, the whole keeps. -/
theorem Dev.fold_keeps {α β : Type} (g : Dev → β) {f : Dev → α → Dev} (h : ∀ s a, g (f s a) = g s) (s : Dev) (l : List α) :
    g (s.fold l f) = g s := by
  induction l generalizing s with
  | nil => rfl
  | cons a l ih => exact (ih (f s a)).trans (h s a)

theorem Dev.when_keeps {β : Type} (g : Dev → β) {f : Dev → Dev} (s : Dev) (b : Bool) (h : g (f s) = g s) : g (s.when b f) = g s := by
  cases b
  · rfl
  · exact h

@[simp] theorem Dev.when_true (s : Dev) (f : Dev → Dev) : s.when true f = f s := rfl
@[simp] theorem Dev.when_false (s : Dev) (f : Dev → Dev) : s.when false f = s := rfl
@[simp] theorem Dev.fold_nil {α : Type} (s : Dev) (f : Dev → α → Dev) : s.fold [] f = s := rfl

/-! ### Event counting changes the banks only -/

variable (s : Dev) (bank src n : Nat) (unit part vc : Option Nat)

@[simp] theorem Dev.count_clock : (s.count bank src n unit part vc).clock = s.clock := by unfold Dev.count; split <;> rfl
@[simp] theorem Dev.count_boot : (s.count bank src n unit part vc).boot = s.boot := by unfold Dev.count; split <;> rfl
@[simp] theorem Dev.count_tests : (s.count bank src n unit part vc).tests = s.tests := by unfold Dev.count; split <;> rfl
@[simp] theorem Dev.count_img : (s.count bank src n unit part vc).img = s.img := by unfold Dev.count; split <;> rfl
@[simp] theorem Dev.count_d2d : (s.count bank src n unit part vc).d2d = s.d2d := by unfold Dev.count; split <;> rfl
@[simp] theorem Dev.count_cores : (s.count bank src n unit part vc).cores = s.cores := by unfold Dev.count; split <;> rfl
@[simp] theorem Dev.count_sync : (s.count bank src n unit part vc).sync = s.sync := by unfold Dev.count; split <;> rfl
@[simp] theorem Dev.count_mem : (s.count bank src n unit part vc).mem = s.mem := by unfold Dev.count; split <;> rfl
@[simp] theorem Dev.count_fab : (s.count bank src n unit part vc).fab = s.fab := by unfold Dev.count; split <;> rfl
@[simp] theorem Dev.count_ra : (s.count bank src n unit part vc).ra = s.ra := by unfold Dev.count; split <;> rfl
@[simp] theorem Dev.count_copy : (s.count bank src n unit part vc).copy = s.copy := by unfold Dev.count; split <;> rfl
@[simp] theorem Dev.count_axa : (s.count bank src n unit part vc).axa = s.axa := by unfold Dev.count; split <;> rfl
@[simp] theorem Dev.count_coll : (s.count bank src n unit part vc).coll = s.coll := by unfold Dev.count; split <;> rfl
@[simp] theorem Dev.count_host : (s.count bank src n unit part vc).host = s.host := by unfold Dev.count; split <;> rfl
@[simp] theorem Dev.count_pow : (s.count bank src n unit part vc).pow = s.pow := by unfold Dev.count; split <;> rfl
@[simp] theorem Dev.count_rcv : (s.count bank src n unit part vc).rcv = s.rcv := by unfold Dev.count; split <;> rfl
@[simp] theorem Dev.count_side : (s.count bank src n unit part vc).side = s.side := by unfold Dev.count; split <;> rfl
@[simp] theorem Dev.count_csr : (s.count bank src n unit part vc).csr = s.csr := by unfold Dev.count; split <;> rfl
@[simp] theorem Dev.count_outbox : (s.count bank src n unit part vc).outbox = s.outbox := by unfold Dev.count; split <;> rfl
@[simp] theorem Dev.count_free : (s.count bank src n unit part vc).free = s.free := by unfold Dev.count; split <;> rfl

/-! ### What settles -/

theorem Thread.wakeSync_done (t : Thread) (sync : SMap Word) (seen : List (Nat × Word)) :
    (match (t.wakeSync sync seen).st, (t.wakeSync sync seen).wait with
      | .parkedSync, .sync k target _ _ => !reached (look 0 sync k) target
      | _, _ => true) = true := by
  cases hs : t.st <;> cases hw : t.wait <;> try (simp [Thread.wakeSync, hs, hw]; done)
  next k target gd us =>
    cases hr : (reached (look 0 sync k) target || seen.any (fun v => v.1 == k && reached v.2 target))
    · have e : t.wakeSync sync seen = t := by simp only [Thread.wakeSync, hs, hw, hr, Bool.false_eq_true, if_false]
      rw [e, hs, hw]
      simp only [(Bool.or_eq_false_iff.mp hr).1, Bool.not_false]
    · have e : t.wakeSync sync seen = (t.wg gd 0).retire := by simp only [Thread.wakeSync, hs, hw, hr, if_true]
      rw [e]
      rfl

/-- R301: after `wakeAll` no thread waits for a counter that has reached its target. -/
theorem Dev.wakeAll_settled : s.wakeAll.settled = true := by
  simp only [Dev.settled, Dev.wakeAll, List.all_map, List.all_eq_true, Function.comp]
  intro c _ t _
  exact Thread.wakeSync_done t.2 s.sync _

/-- The shadows of the VAUX domain are no part of what settles. -/
theorem Dev.shadows_settled (h : s.settled = true) : s.shadows.settled = true := by
  unfold Dev.shadows
  split
  · exact h
  · exact h

/-- R301: after every command no thread waits for a counter that has reached its target. -/
theorem Dev.finish_settled : s.finish.settled = true :=
  Dev.shadows_settled _ (Dev.wakeAll_settled _)

end Sys2Proof.Machine
end

