-- ==== Sys2Proof/Laws/Exec.lean ====
section
/-! SUPPORT. Which meaning each command has, and when its operands are well-formed: two lemmas per command, so that no proof
unfolds the dispatch. -/

namespace Sys2Proof.Machine

@[simp] theorem exec_powerGood (part) (rev) (s : State) : exec (.powerGood part rev) s = execPowerGood part rev s := rfl
@[simp] theorem exec_startStepDone (r) (s : State) : exec (.startStepDone r) s = execStartStepDone r s := rfl
@[simp] theorem exec_bootStepTimeout (s : State) : exec (.bootStepTimeout) s = execBootStepTimeout s := rfl
@[simp] theorem exec_dieReleaseTimeout (die) (s : State) : exec (.dieReleaseTimeout die) s = execDieReleaseTimeout die s := rfl
@[simp] theorem exec_configRequest (req) (s : State) : exec (.configRequest req) s = execConfigRequest req s := rfl
@[simp] theorem exec_perstAssert (port) (s : State) : exec (.perstAssert port) s = execPerstAssert port s := rfl
@[simp] theorem exec_perstDeassert (port) (s : State) : exec (.perstDeassert port) s = execPerstDeassert port s := rfl
@[simp] theorem exec_csrWrite (port) (block) (off) (size) (v) (s : State) : exec (.csrWrite port block off size v) s = execCsrWrite port block off size v s := rfl
@[simp] theorem exec_csrAccessBad (port) (isWrite) (size) (s : State) : exec (.csrAccessBad port isWrite size) s = execCsrAccessBad port isWrite size s := rfl
@[simp] theorem exec_mboxBootFirmware (port) (s : State) : exec (.mboxBootFirmware port) s = execMboxBootFirmware port s := rfl
@[simp] theorem exec_mboxWholeImage (port) (s : State) : exec (.mboxWholeImage port) s = execMboxWholeImage port s := rfl
@[simp] theorem exec_mboxFetchDone (port) (obj) (s : State) : exec (.mboxFetchDone port obj) s = execMboxFetchDone port obj s := rfl
@[simp] theorem exec_quote (q) (s : State) : exec (.quote q) s = execQuote q s := rfl
@[simp] theorem exec_quoteSigned (sig) (s : State) : exec (.quoteSigned sig) s = execQuoteSigned sig s := rfl
@[simp] theorem exec_logRead (q) (s : State) : exec (.logRead q) s = execLogRead q s := rfl
@[simp] theorem exec_testReq (port) (v) (s : State) : exec (.testReq port v) s = execTestReq port v s := rfl
@[simp] theorem exec_testGrant (port) (v) (s : State) : exec (.testGrant port v) s = execTestGrant port v s := rfl
@[simp] theorem exec_mgmtTestReq (q) (s : State) : exec (.mgmtTestReq q) s = execMgmtTestReq q s := rfl
@[simp] theorem exec_mgmtTestGrant (q) (s : State) : exec (.mgmtTestGrant q) s = execMgmtTestGrant q s := rfl
@[simp] theorem exec_testIdleStart (kind) (unit) (s : State) : exec (.testIdleStart kind unit) s = execTestIdleStart kind unit s := rfl
@[simp] theorem exec_testWindowEnd (kind) (unit) (s : State) : exec (.testWindowEnd kind unit) s = execTestWindowEnd kind unit s := rfl
@[simp] theorem exec_testComplete (kind) (unit) (r) (s : State) : exec (.testComplete kind unit r) s = execTestComplete kind unit r s := rfl
@[simp] theorem exec_d2dFlitReceive (link) (dir) (bundle) (seq) (chk) (flit) (s : State) : exec (.d2dFlitReceive link dir bundle seq chk flit) s = execD2dFlitReceive link dir bundle seq chk flit s := rfl
@[simp] theorem exec_laneSwap (link) (dir) (bundle) (taken) (s : State) : exec (.laneSwap link dir bundle taken) s = execLaneSwap link dir bundle taken s := rfl
@[simp] theorem exec_laneSwapDone (link) (dir) (bundle) (s : State) : exec (.laneSwapDone link dir bundle) s = execLaneSwapDone link dir bundle s := rfl
@[simp] theorem exec_laneMarginLive (link) (dir) (bundle) (res) (s : State) : exec (.laneMarginLive link dir bundle res) s = execLaneMarginLive link dir bundle res s := rfl
@[simp] theorem exec_creditReturnAfterRetrain (link) (dir) (s : State) : exec (.creditReturnAfterRetrain link dir) s = execCreditReturnAfterRetrain link dir s := rfl
@[simp] theorem exec_pathChange (link) (up) (s : State) : exec (.pathChange link up) s = execPathChange link up s := rfl
@[simp] theorem exec_pathChangeDone (link) (s : State) : exec (.pathChangeDone link) s = execPathChangeDone link s := rfl
@[simp] theorem exec_d2dRetrain (port) (s : State) : exec (.d2dRetrain port) s = execD2dRetrain port s := rfl
@[simp] theorem exec_d2dRetrainDeferredStart (link) (s : State) : exec (.d2dRetrainDeferredStart link) s = execD2dRetrainDeferredStart link s := rfl
@[simp] theorem exec_d2dRetrainReport (link) (tests) (down) (s : State) : exec (.d2dRetrainReport link tests down) s = execD2dRetrainReport link tests down s := rfl
@[simp] theorem exec_widthEscalate (link) (s : State) : exec (.widthEscalate link) s = execWidthEscalate link s := rfl
@[simp] theorem exec_fetchLineArrive (x) (victim) (poisoned) (s : State) : exec (.fetchLineArrive x victim poisoned) s = execFetchLineArrive x victim poisoned s := rfl
@[simp] theorem exec_computeEntryStart (q) (core) (thr) (s : State) : exec (.computeEntryStart q core thr) s = execComputeEntryStart q core thr s := rfl
@[simp] theorem exec_illegalInstruction (x) (w) (s : State) : exec (.illegalInstruction x w) s = execIllegalInstruction x w s := rfl
@[simp] theorem exec_nop (x) (insn) (s : State) : exec (.nop x insn) s = execNop x insn s := rfl
@[simp] theorem exec_endWork (x) (insn) (s : State) : exec (.endWork x insn) s = execEndWork x insn s := rfl
@[simp] theorem exec_add (x) (insn) (s : State) : exec (.add x insn) s = execAdd x insn s := rfl
@[simp] theorem exec_sub (x) (insn) (s : State) : exec (.sub x insn) s = execSub x insn s := rfl
@[simp] theorem exec_mul (x) (insn) (s : State) : exec (.mul x insn) s = execMul x insn s := rfl
@[simp] theorem exec_mulh (x) (insn) (s : State) : exec (.mulh x insn) s = execMulh x insn s := rfl
@[simp] theorem exec_and (x) (insn) (s : State) : exec (.and x insn) s = execAnd x insn s := rfl
@[simp] theorem exec_or (x) (insn) (s : State) : exec (.or x insn) s = execOr x insn s := rfl
@[simp] theorem exec_xor (x) (insn) (s : State) : exec (.xor x insn) s = execXor x insn s := rfl
@[simp] theorem exec_shl (x) (insn) (s : State) : exec (.shl x insn) s = execShl x insn s := rfl
@[simp] theorem exec_shr (x) (insn) (s : State) : exec (.shr x insn) s = execShr x insn s := rfl
@[simp] theorem exec_sra (x) (insn) (s : State) : exec (.sra x insn) s = execSra x insn s := rfl
@[simp] theorem exec_slt (x) (insn) (s : State) : exec (.slt x insn) s = execSlt x insn s := rfl
@[simp] theorem exec_sltu (x) (insn) (s : State) : exec (.sltu x insn) s = execSltu x insn s := rfl
@[simp] theorem exec_sel (x) (insn) (s : State) : exec (.sel x insn) s = execSel x insn s := rfl
@[simp] theorem exec_addi (x) (insn) (s : State) : exec (.addi x insn) s = execAddi x insn s := rfl
@[simp] theorem exec_andi (x) (insn) (s : State) : exec (.andi x insn) s = execAndi x insn s := rfl
@[simp] theorem exec_ori (x) (insn) (s : State) : exec (.ori x insn) s = execOri x insn s := rfl
@[simp] theorem exec_xori (x) (insn) (s : State) : exec (.xori x insn) s = execXori x insn s := rfl
@[simp] theorem exec_shli (x) (insn) (s : State) : exec (.shli x insn) s = execShli x insn s := rfl
@[simp] theorem exec_shri (x) (insn) (s : State) : exec (.shri x insn) s = execShri x insn s := rfl
@[simp] theorem exec_srai (x) (insn) (s : State) : exec (.srai x insn) s = execSrai x insn s := rfl
@[simp] theorem exec_lih (x) (insn) (s : State) : exec (.lih x insn) s = execLih x insn s := rfl
@[simp] theorem exec_beq (x) (insn) (s : State) : exec (.beq x insn) s = execBeq x insn s := rfl
@[simp] theorem exec_bne (x) (insn) (s : State) : exec (.bne x insn) s = execBne x insn s := rfl
@[simp] theorem exec_blt (x) (insn) (s : State) : exec (.blt x insn) s = execBlt x insn s := rfl
@[simp] theorem exec_bge (x) (insn) (s : State) : exec (.bge x insn) s = execBge x insn s := rfl
@[simp] theorem exec_bltu (x) (insn) (s : State) : exec (.bltu x insn) s = execBltu x insn s := rfl
@[simp] theorem exec_bgeu (x) (insn) (s : State) : exec (.bgeu x insn) s = execBgeu x insn s := rfl
@[simp] theorem exec_jal (x) (insn) (s : State) : exec (.jal x insn) s = execJal x insn s := rfl
@[simp] theorem exec_jalr (x) (insn) (s : State) : exec (.jalr x insn) s = execJalr x insn s := rfl
@[simp] theorem exec_rdsys (x) (insn) (s : State) : exec (.rdsys x insn) s = execRdsys x insn s := rfl
@[simp] theorem exec_rkey (x) (insn) (s : State) : exec (.rkey x insn) s = execRkey x insn s := rfl
@[simp] theorem exec_icinv (x) (insn) (s : State) : exec (.icinv x insn) s = execIcinv x insn s := rfl
@[simp] theorem exec_ld (x) (insn) (s : State) : exec (.ld x insn) s = execLd x insn s := rfl
@[simp] theorem exec_st (x) (insn) (s : State) : exec (.st x insn) s = execSt x insn s := rfl
@[simp] theorem exec_vld (x) (insn) (s : State) : exec (.vld x insn) s = execVld x insn s := rfl
@[simp] theorem exec_vst (x) (insn) (s : State) : exec (.vst x insn) s = execVst x insn s := rfl
@[simp] theorem exec_pld (x) (insn) (s : State) : exec (.pld x insn) s = execPld x insn s := rfl
@[simp] theorem exec_pst (x) (insn) (s : State) : exec (.pst x insn) s = execPst x insn s := rfl
@[simp] theorem exec_rld (x) (insn) (s : State) : exec (.rld x insn) s = execRld x insn s := rfl
@[simp] theorem exec_rvld (x) (insn) (s : State) : exec (.rvld x insn) s = execRvld x insn s := rfl
@[simp] theorem exec_rst (x) (insn) (s : State) : exec (.rst x insn) s = execRst x insn s := rfl
@[simp] theorem exec_rvst (x) (insn) (s : State) : exec (.rvst x insn) s = execRvst x insn s := rfl
@[simp] theorem exec_raxa (x) (insn) (s : State) : exec (.raxa x insn) s = execRaxa x insn s := rfl
@[simp] theorem exec_rfadd (x) (insn) (s : State) : exec (.rfadd x insn) s = execRfadd x insn s := rfl
@[simp] theorem exec_rswap (x) (insn) (s : State) : exec (.rswap x insn) s = execRswap x insn s := rfl
@[simp] theorem exec_rcas (x) (insn) (s : State) : exec (.rcas x insn) s = execRcas x insn s := rfl
@[simp] theorem exec_sadd (x) (insn) (s : State) : exec (.sadd x insn) s = execSadd x insn s := rfl
@[simp] theorem exec_swait (x) (insn) (s : State) : exec (.swait x insn) s = execSwait x insn s := rfl
@[simp] theorem exec_swaitTimeout (x) (s : State) : exec (.swaitTimeout x) s = execSwaitTimeout x s := rfl
@[simp] theorem exec_fence (x) (insn) (s : State) : exec (.fence x insn) s = execFence x insn s := rfl
@[simp] theorem exec_qpost (x) (insn) (s : State) : exec (.qpost x insn) s = execQpost x insn s := rfl
@[simp] theorem exec_qpostStatus (x) (s : State) : exec (.qpostStatus x) s = execQpostStatus x s := rfl
@[simp] theorem exec_vadd (x) (insn) (s : State) : exec (.vadd x insn) s = execVadd x insn s := rfl
@[simp] theorem exec_vsub (x) (insn) (s : State) : exec (.vsub x insn) s = execVsub x insn s := rfl
@[simp] theorem exec_vmul (x) (insn) (s : State) : exec (.vmul x insn) s = execVmul x insn s := rfl
@[simp] theorem exec_vfma (x) (insn) (s : State) : exec (.vfma x insn) s = execVfma x insn s := rfl
@[simp] theorem exec_vmin (x) (insn) (s : State) : exec (.vmin x insn) s = execVmin x insn s := rfl
@[simp] theorem exec_vmax (x) (insn) (s : State) : exec (.vmax x insn) s = execVmax x insn s := rfl
@[simp] theorem exec_vcmp (x) (insn) (s : State) : exec (.vcmp x insn) s = execVcmp x insn s := rfl
@[simp] theorem exec_vcvt (x) (insn) (s : State) : exec (.vcvt x insn) s = execVcvt x insn s := rfl
@[simp] theorem exec_vexp2 (x) (insn) (s : State) : exec (.vexp2 x insn) s = execVexp2 x insn s := rfl
@[simp] theorem exec_vrcp (x) (insn) (s : State) : exec (.vrcp x insn) s = execVrcp x insn s := rfl
@[simp] theorem exec_vrsq (x) (insn) (s : State) : exec (.vrsq x insn) s = execVrsq x insn s := rfl
@[simp] theorem exec_vand (x) (insn) (s : State) : exec (.vand x insn) s = execVand x insn s := rfl
@[simp] theorem exec_vor (x) (insn) (s : State) : exec (.vor x insn) s = execVor x insn s := rfl
@[simp] theorem exec_vxor (x) (insn) (s : State) : exec (.vxor x insn) s = execVxor x insn s := rfl
@[simp] theorem exec_vbcast (x) (insn) (s : State) : exec (.vbcast x insn) s = execVbcast x insn s := rfl
@[simp] theorem exec_vext (x) (insn) (s : State) : exec (.vext x insn) s = execVext x insn s := rfl
@[simp] theorem exec_vsum (x) (insn) (s : State) : exec (.vsum x insn) s = execVsum x insn s := rfl
@[simp] theorem exec_vscale (x) (insn) (s : State) : exec (.vscale x insn) s = execVscale x insn s := rfl
@[simp] theorem exec_pand (x) (insn) (s : State) : exec (.pand x insn) s = execPand x insn s := rfl
@[simp] theorem exec_por (x) (insn) (s : State) : exec (.por x insn) s = execPor x insn s := rfl
@[simp] theorem exec_pnot (x) (insn) (s : State) : exec (.pnot x insn) s = execPnot x insn s := rfl
@[simp] theorem exec_mload (x) (insn) (s : State) : exec (.mload x insn) s = execMload x insn s := rfl
@[simp] theorem exec_mstream (x) (insn) (s : State) : exec (.mstream x insn) s = execMstream x insn s := rfl
@[simp] theorem exec_mdrain (x) (insn) (s : State) : exec (.mdrain x insn) s = execMdrain x insn s := rfl
@[simp] theorem exec_mracc (x) (insn) (s : State) : exec (.mracc x insn) s = execMracc x insn s := rfl
@[simp] theorem exec_mdrv (x) (insn) (s : State) : exec (.mdrv x insn) s = execMdrv x insn s := rfl
@[simp] theorem exec_arrayQueueSlotFree (x) (s : State) : exec (.arrayQueueSlotFree x) s = execArrayQueueSlotFree x s := rfl
@[simp] theorem exec_arrayInstrStart (core) (a) (s : State) : exec (.arrayInstrStart core a) s = execArrayInstrStart core a s := rfl
@[simp] theorem exec_arrayRowFeed (core) (a) (s : State) : exec (.arrayRowFeed core a) s = execArrayRowFeed core a s := rfl
@[simp] theorem exec_drainRowWrite (core) (a) (res) (s : State) : exec (.drainRowWrite core a res) s = execDrainRowWrite core a res s := rfl
@[simp] theorem exec_arrayInstrComplete (core) (a) (s : State) : exec (.arrayInstrComplete core a) s = execArrayInstrComplete core a s := rfl
@[simp] theorem exec_mraccOperationSend (core) (a) (s : State) : exec (.mraccOperationSend core a) s = execMraccOperationSend core a s := rfl
@[simp] theorem exec_arrayResidueRate (core) (a) (s : State) : exec (.arrayResidueRate core a) s = execArrayResidueRate core a s := rfl
@[simp] theorem exec_arrayResetEscalate (core) (a) (s : State) : exec (.arrayResetEscalate core a) s = execArrayResetEscalate core a s := rfl
@[simp] theorem exec_remoteReply (core) (entry) (s : State) : exec (.remoteReply core entry) s = execRemoteReply core entry s := rfl
@[simp] theorem exec_portAccept (x) (s : State) : exec (.portAccept x) s = execPortAccept x s := rfl
@[simp] theorem exec_portEntryFree (x) (s : State) : exec (.portEntryFree x) s = execPortEntryFree x s := rfl
@[simp] theorem exec_retireWdog (x) (s : State) : exec (.retireWdog x) s = execRetireWdog x s := rfl
@[simp] theorem exec_parkWdog (x) (s : State) : exec (.parkWdog x) s = execParkWdog x s := rfl
@[simp] theorem exec_arrayWdog (core) (a) (s : State) : exec (.arrayWdog core a) s = execArrayWdog core a s := rfl
@[simp] theorem exec_threadReset (port) (core) (mask) (s : State) : exec (.threadReset port core mask) s = execThreadReset port core mask s := rfl
@[simp] theorem exec_portOrphan (x) (s : State) : exec (.portOrphan x) s = execPortOrphan x s := rfl
@[simp] theorem exec_threadResetEscalate (x) (s : State) : exec (.threadResetEscalate x) s = execThreadResetEscalate x s := rfl
@[simp] theorem exec_coreReset (src) (core) (s : State) : exec (.coreReset src core) s = execCoreReset src core s := rfl
@[simp] theorem exec_coreResetEscalate (core) (s : State) : exec (.coreResetEscalate core) s = execCoreResetEscalate core s := rfl
@[simp] theorem exec_imgReload (q) (img) (s : State) : exec (.imgReload q img) s = execImgReload q img s := rfl
@[simp] theorem exec_reloadCheckDone (s : State) : exec (.reloadCheckDone) s = execReloadCheckDone s := rfl
@[simp] theorem exec_reloadSwitch (s : State) : exec (.reloadSwitch) s = execReloadSwitch s := rfl
@[simp] theorem exec_reloadDrainExpired (s : State) : exec (.reloadDrainExpired) s = execReloadDrainExpired s := rfl
@[simp] theorem exec_read (stack) (chan) (insn) (ecc) (s : State) : exec (.read stack chan insn ecc) s = execRead stack chan insn ecc s := rfl
@[simp] theorem exec_write (stack) (chan) (insn) (ecc) (s : State) : exec (.write stack chan insn ecc) s = execWrite stack chan insn ecc s := rfl
@[simp] theorem exec_accum (stack) (chan) (insn) (ecc) (s : State) : exec (.accum stack chan insn ecc) s = execAccum stack chan insn ecc s := rfl
@[simp] theorem exec_atomic (stack) (chan) (insn) (ecc) (s : State) : exec (.atomic stack chan insn ecc) s = execAtomic stack chan insn ecc s := rfl
@[simp] theorem exec_readout (stack) (chan) (insn) (ecc) (s : State) : exec (.readout stack chan insn ecc) s = execReadout stack chan insn ecc s := rfl
@[simp] theorem exec_mgmt (stack) (r) (s : State) : exec (.mgmt stack r) s = execMgmt stack r s := rfl
@[simp] theorem exec_retrainTurn (s : State) : exec (.retrainTurn) s = execRetrainTurn s := rfl
@[simp] theorem exec_retrainDone (stack) (chan) (ok) (s : State) : exec (.retrainDone stack chan ok) s = execRetrainDone stack chan ok s := rfl
@[simp] theorem exec_memRetrainHold (port) (v) (s : State) : exec (.memRetrainHold port v) s = execMemRetrainHold port v s := rfl
@[simp] theorem exec_memRetrainHoldEnd (s : State) : exec (.memRetrainHoldEnd) s = execMemRetrainHoldEnd s := rfl
@[simp] theorem exec_scrubPass (stack) (chan) (corrected) (uncorrectable) (s : State) : exec (.scrubPass stack chan corrected uncorrectable) s = execScrubPass stack chan corrected uncorrectable s := rfl
@[simp] theorem exec_migrateThreshold (stack) (chan) (s : State) : exec (.migrateThreshold stack chan) s = execMigrateThreshold stack chan s := rfl
@[simp] theorem exec_migStart (port) (stack) (chan) (s : State) : exec (.migStart port stack chan) s = execMigStart port stack chan s := rfl
@[simp] theorem exec_migrateDone (fin) (s : State) : exec (.migrateDone fin) s = execMigrateDone fin s := rfl
@[simp] theorem exec_cmdWatchdog (stack) (chan) (s : State) : exec (.cmdWatchdog stack chan) s = execCmdWatchdog stack chan s := rfl
@[simp] theorem exec_laserLow (eng) (input) (pwr) (s : State) : exec (.laserLow eng input pwr) s = execLaserLow eng input pwr s := rfl
@[simp] theorem exec_laserLost (eng) (input) (pwr) (s : State) : exec (.laserLost eng input pwr) s = execLaserLost eng input pwr s := rfl
@[simp] theorem exec_laserNotice (eng) (fibres) (s : State) : exec (.laserNotice eng fibres) s = execLaserNotice eng fibres s := rfl
@[simp] theorem exec_laserRecover (eng) (input) (pwr) (s : State) : exec (.laserRecover eng input pwr) s = execLaserRecover eng input pwr s := rfl
@[simp] theorem exec_laserRecalDone (eng) (input) (s : State) : exec (.laserRecalDone eng input) s = execLaserRecalDone eng input s := rfl
@[simp] theorem exec_continuousCalibration (eng) (fib) (s : State) : exec (.continuousCalibration eng fib) s = execContinuousCalibration eng fib s := rfl
@[simp] theorem exec_lambdaSwap (l) (s : State) : exec (.lambdaSwap l) s = execLambdaSwap l s := rfl
@[simp] theorem exec_throughFail (l) (s : State) : exec (.throughFail l) s = execThroughFail l s := rfl
@[simp] theorem exec_fibrePairTrained (eng) (fib) (failed) (s : State) : exec (.fibrePairTrained eng fib failed) s = execFibrePairTrained eng fib failed s := rfl
@[simp] theorem exec_ident (eng) (fib) (m) (s : State) : exec (.ident eng fib m) s = execIdent eng fib m s := rfl
@[simp] theorem exec_identResend (port) (s : State) : exec (.identResend port) s = execIdentResend port s := rfl
@[simp] theorem exec_portMissing (port) (s : State) : exec (.portMissing port) s = execPortMissing port s := rfl
@[simp] theorem exec_heartbeatWdog (eng) (fib) (s : State) : exec (.heartbeatWdog eng fib) s = execHeartbeatWdog eng fib s := rfl
@[simp] theorem exec_qualificationWindowEnd (eng) (s : State) : exec (.qualificationWindowEnd eng) s = execQualificationWindowEnd eng s := rfl
@[simp] theorem exec_trainingRetry (port) (s : State) : exec (.trainingRetry port) s = execTrainingRetry port s := rfl
@[simp] theorem exec_signalRegain (eng) (s : State) : exec (.signalRegain eng) s = execSignalRegain eng s := rfl
@[simp] theorem exec_withdraw (port) (engines) (s : State) : exec (.withdraw port engines) s = execWithdraw port engines s := rfl
@[simp] theorem exec_linkReset (src) (eng) (s : State) : exec (.linkReset src eng) s = execLinkReset src eng s := rfl
@[simp] theorem exec_linkResetEscalate (eng) (s : State) : exec (.linkResetEscalate eng) s = execLinkResetEscalate eng s := rfl
@[simp] theorem exec_portRetrain (s : State) : exec (.portRetrain) s = execPortRetrain s := rfl
@[simp] theorem exec_portRediscover (s : State) : exec (.portRediscover) s = execPortRediscover s := rfl
@[simp] theorem exec_portWithdraw (s : State) : exec (.portWithdraw) s = execPortWithdraw s := rfl
@[simp] theorem exec_portRestore (s : State) : exec (.portRestore) s = execPortRestore s := rfl
@[simp] theorem exec_portLocate (on) (s : State) : exec (.portLocate on) s = execPortLocate on s := rfl
@[simp] theorem exec_attnPress (s : State) : exec (.attnPress) s = execAttnPress s := rfl
@[simp] theorem exec_attnForced (s : State) : exec (.attnForced) s = execAttnForced s := rfl
@[simp] theorem exec_attnRelease (s : State) : exec (.attnRelease) s = execAttnRelease s := rfl
@[simp] theorem exec_attnCancel (s : State) : exec (.attnCancel) s = execAttnCancel s := rfl
@[simp] theorem exec_attnBlocked (s : State) : exec (.attnBlocked) s = execAttnBlocked s := rfl
@[simp] theorem exec_attnDrain (s : State) : exec (.attnDrain) s = execAttnDrain s := rfl
@[simp] theorem exec_attnQuiesceDone (s : State) : exec (.attnQuiesceDone) s = execAttnQuiesceDone s := rfl
@[simp] theorem exec_attnSafe (s : State) : exec (.attnSafe) s = execAttnSafe s := rfl
@[simp] theorem exec_portFlitReceive (port) (seq) (rd) (crcOk) (flit) (s : State) : exec (.portFlitReceive port seq rd crcOk flit) s = execPortFlitReceive port seq rd crcOk flit s := rfl
@[simp] theorem exec_packetForward (p) (came) (s : State) : exec (.packetForward p came) s = execPacketForward p came s := rfl
@[simp] theorem exec_linkCredit (link) (vc) (cls) (n) (s : State) : exec (.linkCredit link vc cls n) s = execLinkCredit link vc cls n s := rfl
@[simp] theorem exec_breakNotice (ckt) (s : State) : exec (.breakNotice ckt) s = execBreakNotice ckt s := rfl
@[simp] theorem exec_circuitHeartbeatWdog (ckt) (s : State) : exec (.circuitHeartbeatWdog ckt) s = execCircuitHeartbeatWdog ckt s := rfl
@[simp] theorem exec_detune (s : State) : exec (.detune) s = execDetune s := rfl
@[simp] theorem exec_circuitRestore (ckt) (s : State) : exec (.circuitRestore ckt) s = execCircuitRestore ckt s := rfl
@[simp] theorem exec_circuitReturn (ckt) (s : State) : exec (.circuitReturn ckt) s = execCircuitReturn ckt s := rfl
@[simp] theorem exec_noRouteHold (insn) (s : State) : exec (.noRouteHold insn) s = execNoRouteHold insn s := rfl
@[simp] theorem exec_segmentReturn (insn) (s : State) : exec (.segmentReturn insn) s = execSegmentReturn insn s := rfl
@[simp] theorem exec_creditAudit (link) (s : State) : exec (.creditAudit link) s = execCreditAudit link s := rfl
@[simp] theorem exec_audit (link) (peer) (s : State) : exec (.audit link peer) s = execAudit link peer s := rfl
@[simp] theorem exec_routeQuery (port) (v) (s : State) : exec (.routeQuery port v) s = execRouteQuery port v s := rfl
@[simp] theorem exec_load (p) (s : State) : exec (.load p) s = execLoad p s := rfl
@[simp] theorem exec_store (p) (s : State) : exec (.store p) s = execStore p s := rfl
@[simp] theorem exec_accumulate (p) (s : State) : exec (.accumulate p) s = execAccumulate p s := rfl
@[simp] theorem exec_fetchAdd (p) (s : State) : exec (.fetchAdd p) s = execFetchAdd p s := rfl
@[simp] theorem exec_swap (p) (s : State) : exec (.swap p) s = execSwap p s := rfl
@[simp] theorem exec_compareSwap (p) (s : State) : exec (.compareSwap p) s = execCompareSwap p s := rfl
@[simp] theorem exec_syncAdd (p) (s : State) : exec (.syncAdd p) s = execSyncAdd p s := rfl
@[simp] theorem exec_copyRead (p) (s : State) : exec (.copyRead p) s = execCopyRead p s := rfl
@[simp] theorem exec_copyWrite (p) (s : State) : exec (.copyWrite p) s = execCopyWrite p s := rfl
@[simp] theorem exec_response (p) (s : State) : exec (.response p) s = execResponse p s := rfl
@[simp] theorem exec_negativeAcknowledgement (p) (s : State) : exec (.negativeAcknowledgement p) s = execNegativeAcknowledgement p s := rfl
@[simp] theorem exec_hold (p) (s : State) : exec (.hold p) s = execHold p s := rfl
@[simp] theorem exec_holdRepeat (stack) (chan) (insn) (s : State) : exec (.holdRepeat stack chan insn) s = execHoldRepeat stack chan insn s := rfl
@[simp] theorem exec_release (p) (s : State) : exec (.release p) s = execRelease p s := rfl
@[simp] theorem exec_dedupExpire (srcDev) (ctx) (seq) (s : State) : exec (.dedupExpire srcDev ctx seq) s = execDedupExpire srcDev ctx seq s := rfl
@[simp] theorem exec_attemptTimeout (core) (entry) (s : State) : exec (.attemptTimeout core entry) s = execAttemptTimeout core entry s := rfl
@[simp] theorem exec_ctxOpen (q) (s : State) : exec (.ctxOpen q) s = execCtxOpen q s := rfl
@[simp] theorem exec_ctxTeardown (q) (s : State) : exec (.ctxTeardown q) s = execCtxTeardown q s := rfl
@[simp] theorem exec_jobTeardown (q) (s : State) : exec (.jobTeardown q) s = execJobTeardown q s := rfl
@[simp] theorem exec_ctxFree (q) (s : State) : exec (.ctxFree q) s = execCtxFree q s := rfl
@[simp] theorem exec_teardownComplete (ctx) (s : State) : exec (.teardownComplete ctx) s = execTeardownComplete ctx s := rfl
@[simp] theorem exec_teardownEscalate (ctx) (s : State) : exec (.teardownEscalate ctx) s = execTeardownEscalate ctx s := rfl
@[simp] theorem exec_regionAdd (q) (s : State) : exec (.regionAdd q) s = execRegionAdd q s := rfl
@[simp] theorem exec_regionRemove (q) (s : State) : exec (.regionRemove q) s = execRegionRemove q s := rfl
@[simp] theorem exec_regionRenew (q) (s : State) : exec (.regionRenew q) s = execRegionRenew q s := rfl
@[simp] theorem exec_regionCommandDone (q) (s : State) : exec (.regionCommandDone q) s = execRegionCommandDone q s := rfl
@[simp] theorem exec_post (port) (q) (s : State) : exec (.post port q) s = execPost port q s := rfl
@[simp] theorem exec_copyEntryStart (q) (s : State) : exec (.copyEntryStart q) s = execCopyEntryStart q s := rfl
@[simp] theorem exec_copyPieceIssue (run) (host) (s : State) : exec (.copyPieceIssue run host) s = execCopyPieceIssue run host s := rfl
@[simp] theorem exec_bulkLost (run) (s : State) : exec (.bulkLost run) s = execBulkLost run s := rfl
@[simp] theorem exec_combiningFlush (e) (s : State) : exec (.combiningFlush e) s = execCombiningFlush e s := rfl
@[simp] theorem exec_combiningStale (e) (s : State) : exec (.combiningStale e) s = execCombiningStale e s := rfl
@[simp] theorem exec_combiningFlushWaitEnd (s : State) : exec (.combiningFlushWaitEnd) s = execCombiningFlushWaitEnd s := rfl
@[simp] theorem exec_groupCreate (q) (s : State) : exec (.groupCreate q) s = execGroupCreate q s := rfl
@[simp] theorem exec_groupDestroy (q) (s : State) : exec (.groupDestroy q) s = execGroupDestroy q s := rfl
@[simp] theorem exec_collAbort (q) (s : State) : exec (.collAbort q) s = execCollAbort q s := rfl
@[simp] theorem exec_legDispatch (q) (thr) (s : State) : exec (.legDispatch q thr) s = execLegDispatch q thr s := rfl
@[simp] theorem exec_peerTimeout (q) (s : State) : exec (.peerTimeout q) s = execPeerTimeout q s := rfl
@[simp] theorem exec_portExpect (q) (s : State) : exec (.portExpect q) s = execPortExpect q s := rfl
@[simp] theorem exec_fabAvoid (q) (s : State) : exec (.fabAvoid q) s = execFabAvoid q s := rfl
@[simp] theorem exec_evtRing (q) (s : State) : exec (.evtRing q) s = execEvtRing q s := rfl
@[simp] theorem exec_managementPacket (m) (s : State) : exec (.managementPacket m) s = execManagementPacket m s := rfl
@[simp] theorem exec_flr (port) (s : State) : exec (.flr port) s = execFlr port s := rfl
@[simp] theorem exec_cplLost (port) (s : State) : exec (.cplLost port) s = execCplLost port s := rfl
@[simp] theorem exec_msixUnmask (port) (vec) (s : State) : exec (.msixUnmask port vec) s = execMsixUnmask port vec s := rfl
@[simp] theorem exec_qProgressWdog (q) (s : State) : exec (.qProgressWdog q) s = execQProgressWdog q s := rfl
@[simp] theorem exec_dieHeartbeat (die) (s : State) : exec (.dieHeartbeat die) s = execDieHeartbeat die s := rfl
@[simp] theorem exec_stackMgmtWdog (stack) (s : State) : exec (.stackMgmtWdog stack) s = execStackMgmtWdog stack s := rfl
@[simp] theorem exec_engMgmtWdog (eng) (s : State) : exec (.engMgmtWdog eng) s = execEngMgmtWdog eng s := rfl
@[simp] theorem exec_computeDieReset (src) (die) (s : State) : exec (.computeDieReset src die) s = execComputeDieReset src die s := rfl
@[simp] theorem exec_stackReset (src) (stack) (s : State) : exec (.stackReset src stack) s = execStackReset src stack s := rfl
@[simp] theorem exec_deviceReset (src) (s : State) : exec (.deviceReset src) s = execDeviceReset src s := rfl
@[simp] theorem exec_dieResetEscalate (die) (s : State) : exec (.dieResetEscalate die) s = execDieResetEscalate die s := rfl
@[simp] theorem exec_stackResetEscalate (stack) (s : State) : exec (.stackResetEscalate stack) s = execStackResetEscalate stack s := rfl
@[simp] theorem exec_deviceResetEscalate (s : State) : exec (.deviceResetEscalate) s = execDeviceResetEscalate s := rfl
@[simp] theorem exec_hubWdog (s : State) : exec (.hubWdog) s = execHubWdog s := rfl
@[simp] theorem exec_supvHbTick (s : State) : exec (.supvHbTick) s = execSupvHbTick s := rfl
@[simp] theorem exec_supvN (low) (s : State) : exec (.supvN low) s = execSupvN low s := rfl
@[simp] theorem exec_housekeepingRound (r) (s : State) : exec (.housekeepingRound r) s = execHousekeepingRound r s := rfl
@[simp] theorem exec_pstepLower (s : State) : exec (.pstepLower) s = execPstepLower s := rfl
@[simp] theorem exec_pwrModeForced (s : State) : exec (.pwrModeForced) s = execPwrModeForced s := rfl
@[simp] theorem exec_pwrForceEnd (s : State) : exec (.pwrForceEnd) s = execPwrForceEnd s := rfl
@[simp] theorem exec_tstepLower (die) (s : State) : exec (.tstepLower die) s = execTstepLower die s := rfl
@[simp] theorem exec_thermModeForced (die) (s : State) : exec (.thermModeForced die) s = execThermModeForced die s := rfl
@[simp] theorem exec_thermForceEnd (die) (s : State) : exec (.thermForceEnd die) s = execThermForceEnd die s := rfl
@[simp] theorem exec_thermSensor (u) (insn) (s : State) : exec (.thermSensor u insn) s = execThermSensor u insn s := rfl
@[simp] theorem exec_clkDeltaT (hot) (cold) (s : State) : exec (.clkDeltaT hot cold) s = execClkDeltaT hot cold s := rfl
@[simp] theorem exec_modeChange (port) (mode) (s : State) : exec (.modeChange port mode) s = execModeChange port mode s := rfl
@[simp] theorem exec_modeChangeDone (s : State) : exec (.modeChangeDone) s = execModeChangeDone s := rfl
@[simp] theorem exec_pwrFastLimit (x) (s : State) : exec (.pwrFastLimit x) s = execPwrFastLimit x s := rfl
@[simp] theorem exec_dipWarn (x) (s : State) : exec (.dipWarn x) s = execDipWarn x s := rfl
@[simp] theorem exec_dipReset (x) (s : State) : exec (.dipReset x) s = execDipReset x s := rfl
@[simp] theorem exec_dipFloorRelease (x) (s : State) : exec (.dipFloorRelease x) s = execDipFloorRelease x s := rfl
@[simp] theorem exec_pwrStackLost (x) (s : State) : exec (.pwrStackLost x) s = execPwrStackLost x s := rfl
@[simp] theorem exec_thermalShutdown (x) (s : State) : exec (.thermalShutdown x) s = execThermalShutdown x s := rfl
@[simp] theorem exec_latTol (port) (v) (s : State) : exec (.latTol port v) s = execLatTol port v s := rfl
@[simp] theorem exec_coreP1Entry (core) (s : State) : exec (.coreP1Entry core) s = execCoreP1Entry core s := rfl
@[simp] theorem exec_latencyStateEntry (s : State) : exec (.latencyStateEntry) s = execLatencyStateEntry s := rfl
@[simp] theorem exec_latencyStateExit (s : State) : exec (.latencyStateExit) s = execLatencyStateExit s := rfl
@[simp] theorem exec_clkRefLost (s : State) : exec (.clkRefLost) s = execClkRefLost s := rfl
@[simp] theorem exec_clkRefReturn (s : State) : exec (.clkRefReturn) s = execClkRefReturn s := rfl
@[simp] theorem exec_vrNoAck (reg) (s : State) : exec (.vrNoAck reg) s = execVrNoAck reg s := rfl
@[simp] theorem exec_evcSel (port) (bank) (j) (v) (s : State) : exec (.evcSel port bank j v) s = execEvcSel port bank j v s := rfl
@[simp] theorem exec_snapArm (port) (s : State) : exec (.snapArm port) s = execSnapArm port s := rfl
@[simp] theorem exec_snapNow (port) (s : State) : exec (.snapNow port) s = execSnapNow port s := rfl
@[simp] theorem exec_readHb (s : State) : exec (.readHb) s = execReadHb s := rfl
@[simp] theorem exec_readBoot (s : State) : exec (.readBoot) s = execReadBoot s := rfl
@[simp] theorem exec_readTemp (s : State) : exec (.readTemp) s = execReadTemp s := rfl
@[simp] theorem exec_setOffset (off) (s : State) : exec (.setOffset off) s = execSetOffset off s := rfl
@[simp] theorem exec_readCsr (s : State) : exec (.readCsr) s = execReadCsr s := rfl
@[simp] theorem exec_jtagInstruction (ir) (s : State) : exec (.jtagInstruction ir) s = execJtagInstruction ir s := rfl
@[simp] theorem exec_powerRemove (s : State) : exec (.powerRemove) s = execPowerRemove s := rfl
@[simp] theorem exec_arrayResetDone (core) (a) (chainOk) (s : State) : exec (.arrayResetDone core a chainOk) s = execArrayResetDone core a chainOk s := rfl
@[simp] theorem exec_coreResetDone (core) (s : State) : exec (.coreResetDone core) s = execCoreResetDone core s := rfl
@[simp] theorem exec_computeDieResetDone (die) (s : State) : exec (.computeDieResetDone die) s = execComputeDieResetDone die s := rfl
@[simp] theorem exec_stackResetDone (stack) (s : State) : exec (.stackResetDone stack) s = execStackResetDone stack s := rfl
@[simp] theorem exec_linkResetDone (eng) (s : State) : exec (.linkResetDone eng) s = execLinkResetDone eng s := rfl
@[simp] theorem exec_pcieLinkDown (port) (refLost) (s : State) : exec (.pcieLinkDown port refLost) s = execPcieLinkDown port refLost s := rfl
@[simp] theorem exec_pcieLinkUp (port) (speed) (width) (mode) (s : State) : exec (.pcieLinkUp port speed width mode) s = execPcieLinkUp port speed width mode s := rfl
@[simp] theorem exec_idleControlFlit (eng) (fib) (s : State) : exec (.idleControlFlit eng fib) s = execIdleControlFlit eng fib s := rfl

@[simp] theorem wf_powerGood (y0) (y1) : (Instr.powerGood y0 y1).wf = (true : Bool) := rfl
@[simp] theorem wf_startStepDone (y0) : (Instr.startStepDone y0).wf = (true : Bool) := rfl
@[simp] theorem wf_bootStepTimeout : (Instr.bootStepTimeout).wf = (true : Bool) := rfl
@[simp] theorem wf_dieReleaseTimeout (die) : (Instr.dieReleaseTimeout die).wf = (die < 4 : Bool) := rfl
@[simp] theorem wf_configRequest (req) : (Instr.configRequest req).wf = (req.port < 2 : Bool) := rfl
@[simp] theorem wf_perstAssert (port) : (Instr.perstAssert port).wf = (port < 2 : Bool) := rfl
@[simp] theorem wf_perstDeassert (port) : (Instr.perstDeassert port).wf = (port < 2 : Bool) := rfl
@[simp] theorem wf_csrWrite (port) (block) (off) (size) (y4) : (Instr.csrWrite port block off size y4).wf = (port < 2 && block < 144 && off < 2 ^ 20 && (size == 4 || size == 8) && off % size == 0 : Bool) := rfl
@[simp] theorem wf_csrAccessBad (port) (y1) (y2) : (Instr.csrAccessBad port y1 y2).wf = (port < 2 : Bool) := rfl
@[simp] theorem wf_mboxBootFirmware (port) : (Instr.mboxBootFirmware port).wf = (port < 2 : Bool) := rfl
@[simp] theorem wf_mboxWholeImage (port) : (Instr.mboxWholeImage port).wf = (port < 2 : Bool) := rfl
@[simp] theorem wf_mboxFetchDone (port) (y1) : (Instr.mboxFetchDone port y1).wf = (port < 2 : Bool) := rfl
@[simp] theorem wf_quote (q) : (Instr.quote q).wf = (q < 4096 : Bool) := rfl
@[simp] theorem wf_quoteSigned (y0) : (Instr.quoteSigned y0).wf = (true : Bool) := rfl
@[simp] theorem wf_logRead (q) : (Instr.logRead q).wf = (q < 4096 : Bool) := rfl
@[simp] theorem wf_testReq (port) (y1) : (Instr.testReq port y1).wf = (port < 2 : Bool) := rfl
@[simp] theorem wf_testGrant (port) (y1) : (Instr.testGrant port y1).wf = (port < 2 : Bool) := rfl
@[simp] theorem wf_mgmtTestReq (q) : (Instr.mgmtTestReq q).wf = (q < 4096 : Bool) := rfl
@[simp] theorem wf_mgmtTestGrant (q) : (Instr.mgmtTestGrant q).wf = (q < 4096 : Bool) := rfl
@[simp] theorem wf_testIdleStart (kind) (y1) : (Instr.testIdleStart kind y1).wf = (kind < 6 : Bool) := rfl
@[simp] theorem wf_testWindowEnd (kind) (y1) : (Instr.testWindowEnd kind y1).wf = (kind < 6 : Bool) := rfl
@[simp] theorem wf_testComplete (kind) (y1) (y2) : (Instr.testComplete kind y1 y2).wf = (kind < 6 : Bool) := rfl
@[simp] theorem wf_d2dFlitReceive (link) (dir) (bundle) (y3) (chk) (y5) : (Instr.d2dFlitReceive link dir bundle y3 chk y5).wf = (linkOk link && dir < 2 && bundle < 28 && chk.errs.all (· < 64) : Bool) := rfl
@[simp] theorem wf_laneSwap (link) (dir) (bundle) (taken) : (Instr.laneSwap link dir bundle taken).wf = (linkOk link && dir < 2 && bundle < 28 && taken.lane < 68 : Bool) := rfl
@[simp] theorem wf_laneSwapDone (link) (dir) (bundle) : (Instr.laneSwapDone link dir bundle).wf = (linkOk link && dir < 2 && bundle < 28 : Bool) := rfl
@[simp] theorem wf_laneMarginLive (link) (dir) (bundle) (y3) : (Instr.laneMarginLive link dir bundle y3).wf = (linkOk link && dir < 2 && bundle < 28 : Bool) := rfl
@[simp] theorem wf_creditReturnAfterRetrain (link) (dir) : (Instr.creditReturnAfterRetrain link dir).wf = (link.ok && dir < 2 : Bool) := rfl
@[simp] theorem wf_pathChange (link) (y1) : (Instr.pathChange link y1).wf = (linkOk link : Bool) := rfl
@[simp] theorem wf_pathChangeDone (link) : (Instr.pathChangeDone link).wf = (linkOk link : Bool) := rfl
@[simp] theorem wf_d2dRetrain (port) : (Instr.d2dRetrain port).wf = (port < 2 : Bool) := rfl
@[simp] theorem wf_d2dRetrainDeferredStart (link) : (Instr.d2dRetrainDeferredStart link).wf = (linkOk link : Bool) := rfl
@[simp] theorem wf_d2dRetrainReport (link) (y1) (y2) : (Instr.d2dRetrainReport link y1 y2).wf = (linkOk link : Bool) := rfl
@[simp] theorem wf_widthEscalate (link) : (Instr.widthEscalate link).wf = (linkOk link : Bool) := rfl
@[simp] theorem wf_fetchLineArrive (x) (victim) (y2) : (Instr.fetchLineArrive x victim y2).wf = (x.ok && victim < 512 : Bool) := rfl
@[simp] theorem wf_computeEntryStart (q) (core) (thr) : (Instr.computeEntryStart q core thr).wf = (q < 4096 && core < 32 && thr < 16 : Bool) := rfl
@[simp] theorem wf_illegalInstruction (x) (y1) : (Instr.illegalInstruction x y1).wf = (x.ok : Bool) := rfl
@[simp] theorem wf_nop (x) (y1) : (Instr.nop x y1).wf = (x.ok : Bool) := rfl
@[simp] theorem wf_endWork (x) (y1) : (Instr.endWork x y1).wf = (x.ok : Bool) := rfl
@[simp] theorem wf_add (x) (y1) : (Instr.add x y1).wf = (x.ok : Bool) := rfl
@[simp] theorem wf_sub (x) (y1) : (Instr.sub x y1).wf = (x.ok : Bool) := rfl
@[simp] theorem wf_mul (x) (y1) : (Instr.mul x y1).wf = (x.ok : Bool) := rfl
@[simp] theorem wf_mulh (x) (y1) : (Instr.mulh x y1).wf = (x.ok : Bool) := rfl
@[simp] theorem wf_and (x) (y1) : (Instr.and x y1).wf = (x.ok : Bool) := rfl
@[simp] theorem wf_or (x) (y1) : (Instr.or x y1).wf = (x.ok : Bool) := rfl
@[simp] theorem wf_xor (x) (y1) : (Instr.xor x y1).wf = (x.ok : Bool) := rfl
@[simp] theorem wf_shl (x) (y1) : (Instr.shl x y1).wf = (x.ok : Bool) := rfl
@[simp] theorem wf_shr (x) (y1) : (Instr.shr x y1).wf = (x.ok : Bool) := rfl
@[simp] theorem wf_sra (x) (y1) : (Instr.sra x y1).wf = (x.ok : Bool) := rfl
@[simp] theorem wf_slt (x) (y1) : (Instr.slt x y1).wf = (x.ok : Bool) := rfl
@[simp] theorem wf_sltu (x) (y1) : (Instr.sltu x y1).wf = (x.ok : Bool) := rfl
@[simp] theorem wf_sel (x) (y1) : (Instr.sel x y1).wf = (x.ok : Bool) := rfl
@[simp] theorem wf_addi (x) (y1) : (Instr.addi x y1).wf = (x.ok : Bool) := rfl
@[simp] theorem wf_andi (x) (y1) : (Instr.andi x y1).wf = (x.ok : Bool) := rfl
@[simp] theorem wf_ori (x) (y1) : (Instr.ori x y1).wf = (x.ok : Bool) := rfl
@[simp] theorem wf_xori (x) (y1) : (Instr.xori x y1).wf = (x.ok : Bool) := rfl
@[simp] theorem wf_shli (x) (y1) : (Instr.shli x y1).wf = (x.ok : Bool) := rfl
@[simp] theorem wf_shri (x) (y1) : (Instr.shri x y1).wf = (x.ok : Bool) := rfl
@[simp] theorem wf_srai (x) (y1) : (Instr.srai x y1).wf = (x.ok : Bool) := rfl
@[simp] theorem wf_lih (x) (y1) : (Instr.lih x y1).wf = (x.ok : Bool) := rfl
@[simp] theorem wf_beq (x) (y1) : (Instr.beq x y1).wf = (x.ok : Bool) := rfl
@[simp] theorem wf_bne (x) (y1) : (Instr.bne x y1).wf = (x.ok : Bool) := rfl
@[simp] theorem wf_blt (x) (y1) : (Instr.blt x y1).wf = (x.ok : Bool) := rfl
@[simp] theorem wf_bge (x) (y1) : (Instr.bge x y1).wf = (x.ok : Bool) := rfl
@[simp] theorem wf_bltu (x) (y1) : (Instr.bltu x y1).wf = (x.ok : Bool) := rfl
@[simp] theorem wf_bgeu (x) (y1) : (Instr.bgeu x y1).wf = (x.ok : Bool) := rfl
@[simp] theorem wf_jal (x) (y1) : (Instr.jal x y1).wf = (x.ok : Bool) := rfl
@[simp] theorem wf_jalr (x) (y1) : (Instr.jalr x y1).wf = (x.ok : Bool) := rfl
@[simp] theorem wf_rdsys (x) (y1) : (Instr.rdsys x y1).wf = (x.ok : Bool) := rfl
@[simp] theorem wf_rkey (x) (y1) : (Instr.rkey x y1).wf = (x.ok : Bool) := rfl
@[simp] theorem wf_icinv (x) (y1) : (Instr.icinv x y1).wf = (x.ok : Bool) := rfl
@[simp] theorem wf_ld (x) (y1) : (Instr.ld x y1).wf = (x.ok : Bool) := rfl
@[simp] theorem wf_st (x) (y1) : (Instr.st x y1).wf = (x.ok : Bool) := rfl
@[simp] theorem wf_vld (x) (y1) : (Instr.vld x y1).wf = (x.ok : Bool) := rfl
@[simp] theorem wf_vst (x) (y1) : (Instr.vst x y1).wf = (x.ok : Bool) := rfl
@[simp] theorem wf_pld (x) (y1) : (Instr.pld x y1).wf = (x.ok : Bool) := rfl
@[simp] theorem wf_pst (x) (y1) : (Instr.pst x y1).wf = (x.ok : Bool) := rfl
@[simp] theorem wf_rld (x) (y1) : (Instr.rld x y1).wf = (x.ok : Bool) := rfl
@[simp] theorem wf_rvld (x) (y1) : (Instr.rvld x y1).wf = (x.ok : Bool) := rfl
@[simp] theorem wf_rst (x) (y1) : (Instr.rst x y1).wf = (x.ok : Bool) := rfl
@[simp] theorem wf_rvst (x) (y1) : (Instr.rvst x y1).wf = (x.ok : Bool) := rfl
@[simp] theorem wf_raxa (x) (y1) : (Instr.raxa x y1).wf = (x.ok : Bool) := rfl
@[simp] theorem wf_rfadd (x) (y1) : (Instr.rfadd x y1).wf = (x.ok : Bool) := rfl
@[simp] theorem wf_rswap (x) (y1) : (Instr.rswap x y1).wf = (x.ok : Bool) := rfl
@[simp] theorem wf_rcas (x) (y1) : (Instr.rcas x y1).wf = (x.ok : Bool) := rfl
@[simp] theorem wf_sadd (x) (y1) : (Instr.sadd x y1).wf = (x.ok : Bool) := rfl
@[simp] theorem wf_swait (x) (y1) : (Instr.swait x y1).wf = (x.ok : Bool) := rfl
@[simp] theorem wf_swaitTimeout (x) : (Instr.swaitTimeout x).wf = (x.ok : Bool) := rfl
@[simp] theorem wf_fence (x) (y1) : (Instr.fence x y1).wf = (x.ok : Bool) := rfl
@[simp] theorem wf_qpost (x) (y1) : (Instr.qpost x y1).wf = (x.ok : Bool) := rfl
@[simp] theorem wf_qpostStatus (x) : (Instr.qpostStatus x).wf = (x.ok : Bool) := rfl
@[simp] theorem wf_vadd (x) (y1) : (Instr.vadd x y1).wf = (x.ok : Bool) := rfl
@[simp] theorem wf_vsub (x) (y1) : (Instr.vsub x y1).wf = (x.ok : Bool) := rfl
@[simp] theorem wf_vmul (x) (y1) : (Instr.vmul x y1).wf = (x.ok : Bool) := rfl
@[simp] theorem wf_vfma (x) (y1) : (Instr.vfma x y1).wf = (x.ok : Bool) := rfl
@[simp] theorem wf_vmin (x) (y1) : (Instr.vmin x y1).wf = (x.ok : Bool) := rfl
@[simp] theorem wf_vmax (x) (y1) : (Instr.vmax x y1).wf = (x.ok : Bool) := rfl
@[simp] theorem wf_vcmp (x) (y1) : (Instr.vcmp x y1).wf = (x.ok : Bool) := rfl
@[simp] theorem wf_vcvt (x) (y1) : (Instr.vcvt x y1).wf = (x.ok : Bool) := rfl
@[simp] theorem wf_vexp2 (x) (y1) : (Instr.vexp2 x y1).wf = (x.ok : Bool) := rfl
@[simp] theorem wf_vrcp (x) (y1) : (Instr.vrcp x y1).wf = (x.ok : Bool) := rfl
@[simp] theorem wf_vrsq (x) (y1) : (Instr.vrsq x y1).wf = (x.ok : Bool) := rfl
@[simp] theorem wf_vand (x) (y1) : (Instr.vand x y1).wf = (x.ok : Bool) := rfl
@[simp] theorem wf_vor (x) (y1) : (Instr.vor x y1).wf = (x.ok : Bool) := rfl
@[simp] theorem wf_vxor (x) (y1) : (Instr.vxor x y1).wf = (x.ok : Bool) := rfl
@[simp] theorem wf_vbcast (x) (y1) : (Instr.vbcast x y1).wf = (x.ok : Bool) := rfl
@[simp] theorem wf_vext (x) (y1) : (Instr.vext x y1).wf = (x.ok : Bool) := rfl
@[simp] theorem wf_vsum (x) (y1) : (Instr.vsum x y1).wf = (x.ok : Bool) := rfl
@[simp] theorem wf_vscale (x) (y1) : (Instr.vscale x y1).wf = (x.ok : Bool) := rfl
@[simp] theorem wf_pand (x) (y1) : (Instr.pand x y1).wf = (x.ok : Bool) := rfl
@[simp] theorem wf_por (x) (y1) : (Instr.por x y1).wf = (x.ok : Bool) := rfl
@[simp] theorem wf_pnot (x) (y1) : (Instr.pnot x y1).wf = (x.ok : Bool) := rfl
@[simp] theorem wf_mload (x) (y1) : (Instr.mload x y1).wf = (x.ok : Bool) := rfl
@[simp] theorem wf_mstream (x) (y1) : (Instr.mstream x y1).wf = (x.ok : Bool) := rfl
@[simp] theorem wf_mdrain (x) (y1) : (Instr.mdrain x y1).wf = (x.ok : Bool) := rfl
@[simp] theorem wf_mracc (x) (y1) : (Instr.mracc x y1).wf = (x.ok : Bool) := rfl
@[simp] theorem wf_mdrv (x) (y1) : (Instr.mdrv x y1).wf = (x.ok : Bool) := rfl
@[simp] theorem wf_arrayQueueSlotFree (x) : (Instr.arrayQueueSlotFree x).wf = (x.ok : Bool) := rfl
@[simp] theorem wf_arrayInstrStart (core) (a) : (Instr.arrayInstrStart core a).wf = (core < 32 && a < 2 : Bool) := rfl
@[simp] theorem wf_arrayRowFeed (core) (a) : (Instr.arrayRowFeed core a).wf = (core < 32 && a < 2 : Bool) := rfl
@[simp] theorem wf_drainRowWrite (core) (a) (y2) : (Instr.drainRowWrite core a y2).wf = (core < 32 && a < 2 : Bool) := rfl
@[simp] theorem wf_arrayInstrComplete (core) (a) : (Instr.arrayInstrComplete core a).wf = (core < 32 && a < 2 : Bool) := rfl
@[simp] theorem wf_mraccOperationSend (core) (a) : (Instr.mraccOperationSend core a).wf = (core < 32 && a < 2 : Bool) := rfl
@[simp] theorem wf_arrayResidueRate (core) (a) : (Instr.arrayResidueRate core a).wf = (core < 32 && a < 2 : Bool) := rfl
@[simp] theorem wf_arrayResetEscalate (core) (a) : (Instr.arrayResetEscalate core a).wf = (core < 32 && a < 2 : Bool) := rfl
@[simp] theorem wf_remoteReply (core) (entry) : (Instr.remoteReply core entry).wf = (core < 32 && entry < 256 : Bool) := rfl
@[simp] theorem wf_portAccept (x) : (Instr.portAccept x).wf = (x.ok : Bool) := rfl
@[simp] theorem wf_portEntryFree (x) : (Instr.portEntryFree x).wf = (x.ok : Bool) := rfl
@[simp] theorem wf_retireWdog (x) : (Instr.retireWdog x).wf = (x.ok : Bool) := rfl
@[simp] theorem wf_parkWdog (x) : (Instr.parkWdog x).wf = (x.ok : Bool) := rfl
@[simp] theorem wf_arrayWdog (core) (a) : (Instr.arrayWdog core a).wf = (core < 32 && a < 2 : Bool) := rfl
@[simp] theorem wf_threadReset (port) (core) (y2) : (Instr.threadReset port core y2).wf = (port < 2 && core < 32 : Bool) := rfl
@[simp] theorem wf_portOrphan (x) : (Instr.portOrphan x).wf = (x.ok : Bool) := rfl
@[simp] theorem wf_threadResetEscalate (x) : (Instr.threadResetEscalate x).wf = (x.ok : Bool) := rfl
@[simp] theorem wf_coreReset (y0) (core) : (Instr.coreReset y0 core).wf = (core < 32 : Bool) := rfl
@[simp] theorem wf_coreResetEscalate (core) : (Instr.coreResetEscalate core).wf = (core < 32 : Bool) := rfl
@[simp] theorem wf_imgReload (q) (y1) : (Instr.imgReload q y1).wf = (q < 4096 : Bool) := rfl
@[simp] theorem wf_reloadCheckDone : (Instr.reloadCheckDone).wf = (true : Bool) := rfl
@[simp] theorem wf_reloadSwitch : (Instr.reloadSwitch).wf = (true : Bool) := rfl
@[simp] theorem wf_reloadDrainExpired : (Instr.reloadDrainExpired).wf = (true : Bool) := rfl
@[simp] theorem wf_read (stack) (chan) (y2) (y3) : (Instr.read stack chan y2 y3).wf = (stack < 32 && chan < 31 : Bool) := rfl
@[simp] theorem wf_write (stack) (chan) (y2) (y3) : (Instr.write stack chan y2 y3).wf = (stack < 32 && chan < 31 : Bool) := rfl
@[simp] theorem wf_accum (stack) (chan) (y2) (y3) : (Instr.accum stack chan y2 y3).wf = (stack < 32 && chan < 31 : Bool) := rfl
@[simp] theorem wf_atomic (stack) (chan) (y2) (y3) : (Instr.atomic stack chan y2 y3).wf = (stack < 32 && chan < 31 : Bool) := rfl
@[simp] theorem wf_readout (stack) (chan) (y2) (y3) : (Instr.readout stack chan y2 y3).wf = (stack < 32 && chan < 31 : Bool) := rfl
@[simp] theorem wf_mgmt (stack) (y1) : (Instr.mgmt stack y1).wf = (stack < 32 : Bool) := rfl
@[simp] theorem wf_retrainTurn : (Instr.retrainTurn).wf = (true : Bool) := rfl
@[simp] theorem wf_retrainDone (stack) (chan) (y2) : (Instr.retrainDone stack chan y2).wf = (stack < 32 && chan < 31 : Bool) := rfl
@[simp] theorem wf_memRetrainHold (port) (y1) : (Instr.memRetrainHold port y1).wf = (port < 2 : Bool) := rfl
@[simp] theorem wf_memRetrainHoldEnd : (Instr.memRetrainHoldEnd).wf = (true : Bool) := rfl
@[simp] theorem wf_scrubPass (stack) (chan) (y2) (y3) : (Instr.scrubPass stack chan y2 y3).wf = (stack < 32 && chan < 31 : Bool) := rfl
@[simp] theorem wf_migrateThreshold (stack) (chan) : (Instr.migrateThreshold stack chan).wf = (stack < 32 && chan < 31 : Bool) := rfl
@[simp] theorem wf_migStart (port) (stack) (chan) : (Instr.migStart port stack chan).wf = (port < 2 && stack < 32 && chan < 31 : Bool) := rfl
@[simp] theorem wf_migrateDone (fin) : (Instr.migrateDone fin).wf = (fin.stack < 32 : Bool) := rfl
@[simp] theorem wf_cmdWatchdog (stack) (chan) : (Instr.cmdWatchdog stack chan).wf = (stack < 32 && chan < 31 : Bool) := rfl
@[simp] theorem wf_laserLow (eng) (input) (y2) : (Instr.laserLow eng input y2).wf = (eng < 14 && input < 2 : Bool) := rfl
@[simp] theorem wf_laserLost (eng) (input) (y2) : (Instr.laserLost eng input y2).wf = (eng < 14 && input < 2 : Bool) := rfl
@[simp] theorem wf_laserNotice (eng) (y1) : (Instr.laserNotice eng y1).wf = (eng < 14 : Bool) := rfl
@[simp] theorem wf_laserRecover (eng) (input) (y2) : (Instr.laserRecover eng input y2).wf = (eng < 14 && input < 2 : Bool) := rfl
@[simp] theorem wf_laserRecalDone (eng) (input) : (Instr.laserRecalDone eng input).wf = (eng < 14 && input < 2 : Bool) := rfl
@[simp] theorem wf_continuousCalibration (eng) (fib) : (Instr.continuousCalibration eng fib).wf = (eng < 14 && fib < 8 : Bool) := rfl
@[simp] theorem wf_lambdaSwap (l) : (Instr.lambdaSwap l).wf = (l.ok : Bool) := rfl
@[simp] theorem wf_throughFail (l) : (Instr.throughFail l).wf = (l.ok : Bool) := rfl
@[simp] theorem wf_fibrePairTrained (eng) (fib) (y2) : (Instr.fibrePairTrained eng fib y2).wf = (eng < 14 && fib < 8 : Bool) := rfl
@[simp] theorem wf_ident (eng) (fib) (y2) : (Instr.ident eng fib y2).wf = (eng < 14 && fib < 8 : Bool) := rfl
@[simp] theorem wf_identResend (port) : (Instr.identResend port).wf = (port < 6 : Bool) := rfl
@[simp] theorem wf_portMissing (port) : (Instr.portMissing port).wf = (port < 6 : Bool) := rfl
@[simp] theorem wf_heartbeatWdog (eng) (fib) : (Instr.heartbeatWdog eng fib).wf = (eng < 14 && fib < 8 : Bool) := rfl
@[simp] theorem wf_qualificationWindowEnd (eng) : (Instr.qualificationWindowEnd eng).wf = (eng < 14 : Bool) := rfl
@[simp] theorem wf_trainingRetry (port) : (Instr.trainingRetry port).wf = (port < 6 : Bool) := rfl
@[simp] theorem wf_signalRegain (eng) : (Instr.signalRegain eng).wf = (eng < 14 : Bool) := rfl
@[simp] theorem wf_withdraw (port) (y1) : (Instr.withdraw port y1).wf = (port < 6 : Bool) := rfl
@[simp] theorem wf_linkReset (y0) (eng) : (Instr.linkReset y0 eng).wf = (eng < 14 : Bool) := rfl
@[simp] theorem wf_linkResetEscalate (eng) : (Instr.linkResetEscalate eng).wf = (eng < 14 : Bool) := rfl
@[simp] theorem wf_portRetrain : (Instr.portRetrain).wf = (true : Bool) := rfl
@[simp] theorem wf_portRediscover : (Instr.portRediscover).wf = (true : Bool) := rfl
@[simp] theorem wf_portWithdraw : (Instr.portWithdraw).wf = (true : Bool) := rfl
@[simp] theorem wf_portRestore : (Instr.portRestore).wf = (true : Bool) := rfl
@[simp] theorem wf_portLocate (y0) : (Instr.portLocate y0).wf = (true : Bool) := rfl
@[simp] theorem wf_attnPress : (Instr.attnPress).wf = (true : Bool) := rfl
@[simp] theorem wf_attnForced : (Instr.attnForced).wf = (true : Bool) := rfl
@[simp] theorem wf_attnRelease : (Instr.attnRelease).wf = (true : Bool) := rfl
@[simp] theorem wf_attnCancel : (Instr.attnCancel).wf = (true : Bool) := rfl
@[simp] theorem wf_attnBlocked : (Instr.attnBlocked).wf = (true : Bool) := rfl
@[simp] theorem wf_attnDrain : (Instr.attnDrain).wf = (true : Bool) := rfl
@[simp] theorem wf_attnQuiesceDone : (Instr.attnQuiesceDone).wf = (true : Bool) := rfl
@[simp] theorem wf_attnSafe : (Instr.attnSafe).wf = (true : Bool) := rfl
@[simp] theorem wf_portFlitReceive (port) (y1) (y2) (y3) (y4) : (Instr.portFlitReceive port y1 y2 y3 y4).wf = (port < 6 : Bool) := rfl
@[simp] theorem wf_packetForward (p) (came) : (Instr.packetForward p came).wf = (p.ok && inputOk came.via : Bool) := rfl
@[simp] theorem wf_linkCredit (link) (y1) (y2) (y3) : (Instr.linkCredit link y1 y2 y3).wf = (link.ok : Bool) := rfl
@[simp] theorem wf_breakNotice (ckt) : (Instr.breakNotice ckt).wf = (ckt < 16 : Bool) := rfl
@[simp] theorem wf_circuitHeartbeatWdog (ckt) : (Instr.circuitHeartbeatWdog ckt).wf = (ckt < 16 : Bool) := rfl
@[simp] theorem wf_detune : (Instr.detune).wf = (true : Bool) := rfl
@[simp] theorem wf_circuitRestore (ckt) : (Instr.circuitRestore ckt).wf = (ckt < 16 : Bool) := rfl
@[simp] theorem wf_circuitReturn (ckt) : (Instr.circuitReturn ckt).wf = (ckt < 16 : Bool) := rfl
@[simp] theorem wf_noRouteHold (y0) : (Instr.noRouteHold y0).wf = (true : Bool) := rfl
@[simp] theorem wf_segmentReturn (y0) : (Instr.segmentReturn y0).wf = (true : Bool) := rfl
@[simp] theorem wf_creditAudit (link) : (Instr.creditAudit link).wf = (link.ok : Bool) := rfl
@[simp] theorem wf_audit (link) (y1) : (Instr.audit link y1).wf = (link.ok : Bool) := rfl
@[simp] theorem wf_routeQuery (port) (y1) : (Instr.routeQuery port y1).wf = (port < 2 : Bool) := rfl
@[simp] theorem wf_load (p) : (Instr.load p).wf = (p.ok : Bool) := rfl
@[simp] theorem wf_store (p) : (Instr.store p).wf = (p.ok : Bool) := rfl
@[simp] theorem wf_accumulate (p) : (Instr.accumulate p).wf = (p.ok : Bool) := rfl
@[simp] theorem wf_fetchAdd (p) : (Instr.fetchAdd p).wf = (p.ok : Bool) := rfl
@[simp] theorem wf_swap (p) : (Instr.swap p).wf = (p.ok : Bool) := rfl
@[simp] theorem wf_compareSwap (p) : (Instr.compareSwap p).wf = (p.ok : Bool) := rfl
@[simp] theorem wf_syncAdd (p) : (Instr.syncAdd p).wf = (p.ok : Bool) := rfl
@[simp] theorem wf_copyRead (p) : (Instr.copyRead p).wf = (p.ok : Bool) := rfl
@[simp] theorem wf_copyWrite (p) : (Instr.copyWrite p).wf = (p.ok : Bool) := rfl
@[simp] theorem wf_response (p) : (Instr.response p).wf = (p.ok : Bool) := rfl
@[simp] theorem wf_negativeAcknowledgement (p) : (Instr.negativeAcknowledgement p).wf = (p.ok : Bool) := rfl
@[simp] theorem wf_hold (p) : (Instr.hold p).wf = (p.ok : Bool) := rfl
@[simp] theorem wf_holdRepeat (stack) (chan) (y2) : (Instr.holdRepeat stack chan y2).wf = (stack < 32 && chan < 31 : Bool) := rfl
@[simp] theorem wf_release (p) : (Instr.release p).wf = (p.ok : Bool) := rfl
@[simp] theorem wf_dedupExpire (y0) (y1) (y2) : (Instr.dedupExpire y0 y1 y2).wf = (true : Bool) := rfl
@[simp] theorem wf_attemptTimeout (core) (entry) : (Instr.attemptTimeout core entry).wf = (core < 32 && entry < 256 : Bool) := rfl
@[simp] theorem wf_ctxOpen (q) : (Instr.ctxOpen q).wf = (q < 4096 : Bool) := rfl
@[simp] theorem wf_ctxTeardown (q) : (Instr.ctxTeardown q).wf = (q < 4096 : Bool) := rfl
@[simp] theorem wf_jobTeardown (q) : (Instr.jobTeardown q).wf = (q < 4096 : Bool) := rfl
@[simp] theorem wf_ctxFree (q) : (Instr.ctxFree q).wf = (q < 4096 : Bool) := rfl
@[simp] theorem wf_teardownComplete (ctx) : (Instr.teardownComplete ctx).wf = (ctx < 1024 : Bool) := rfl
@[simp] theorem wf_teardownEscalate (ctx) : (Instr.teardownEscalate ctx).wf = (ctx < 1024 : Bool) := rfl
@[simp] theorem wf_regionAdd (q) : (Instr.regionAdd q).wf = (q < 4096 : Bool) := rfl
@[simp] theorem wf_regionRemove (q) : (Instr.regionRemove q).wf = (q < 4096 : Bool) := rfl
@[simp] theorem wf_regionRenew (q) : (Instr.regionRenew q).wf = (q < 4096 : Bool) := rfl
@[simp] theorem wf_regionCommandDone (q) : (Instr.regionCommandDone q).wf = (q < 4096 : Bool) := rfl
@[simp] theorem wf_post (port) (q) : (Instr.post port q).wf = (port < 2 && q < 4096 : Bool) := rfl
@[simp] theorem wf_copyEntryStart (q) : (Instr.copyEntryStart q).wf = (q < 4096 : Bool) := rfl
@[simp] theorem wf_copyPieceIssue (run) (y1) : (Instr.copyPieceIssue run y1).wf = (run < 512 : Bool) := rfl
@[simp] theorem wf_bulkLost (run) : (Instr.bulkLost run).wf = (run < 512 : Bool) := rfl
@[simp] theorem wf_combiningFlush (e) : (Instr.combiningFlush e).wf = (e < 16384 : Bool) := rfl
@[simp] theorem wf_combiningStale (e) : (Instr.combiningStale e).wf = (e < 16384 : Bool) := rfl
@[simp] theorem wf_combiningFlushWaitEnd : (Instr.combiningFlushWaitEnd).wf = (true : Bool) := rfl
@[simp] theorem wf_groupCreate (q) : (Instr.groupCreate q).wf = (q < 4096 : Bool) := rfl
@[simp] theorem wf_groupDestroy (q) : (Instr.groupDestroy q).wf = (q < 4096 : Bool) := rfl
@[simp] theorem wf_collAbort (q) : (Instr.collAbort q).wf = (q < 4096 : Bool) := rfl
@[simp] theorem wf_legDispatch (q) (thr) : (Instr.legDispatch q thr).wf = (q < 4096 && thr < 16 : Bool) := rfl
@[simp] theorem wf_peerTimeout (q) : (Instr.peerTimeout q).wf = (q < 4096 : Bool) := rfl
@[simp] theorem wf_portExpect (q) : (Instr.portExpect q).wf = (q < 4096 : Bool) := rfl
@[simp] theorem wf_fabAvoid (q) : (Instr.fabAvoid q).wf = (q < 4096 : Bool) := rfl
@[simp] theorem wf_evtRing (q) : (Instr.evtRing q).wf = (q < 4096 : Bool) := rfl
@[simp] theorem wf_managementPacket (y0) : (Instr.managementPacket y0).wf = (true : Bool) := rfl
@[simp] theorem wf_flr (port) : (Instr.flr port).wf = (port < 2 : Bool) := rfl
@[simp] theorem wf_cplLost (port) : (Instr.cplLost port).wf = (port < 2 : Bool) := rfl
@[simp] theorem wf_msixUnmask (port) (vec) : (Instr.msixUnmask port vec).wf = (port < 2 && vec < 2048 : Bool) := rfl
@[simp] theorem wf_qProgressWdog (q) : (Instr.qProgressWdog q).wf = (q < 4096 : Bool) := rfl
@[simp] theorem wf_dieHeartbeat (die) : (Instr.dieHeartbeat die).wf = (die < 4 : Bool) := rfl
@[simp] theorem wf_stackMgmtWdog (stack) : (Instr.stackMgmtWdog stack).wf = (stack < 32 : Bool) := rfl
@[simp] theorem wf_engMgmtWdog (eng) : (Instr.engMgmtWdog eng).wf = (eng < 14 : Bool) := rfl
@[simp] theorem wf_computeDieReset (y0) (die) : (Instr.computeDieReset y0 die).wf = (die < 4 : Bool) := rfl
@[simp] theorem wf_stackReset (y0) (stack) : (Instr.stackReset y0 stack).wf = (stack < 32 : Bool) := rfl
@[simp] theorem wf_deviceReset (y0) : (Instr.deviceReset y0).wf = (true : Bool) := rfl
@[simp] theorem wf_dieResetEscalate (die) : (Instr.dieResetEscalate die).wf = (die < 4 : Bool) := rfl
@[simp] theorem wf_stackResetEscalate (stack) : (Instr.stackResetEscalate stack).wf = (stack < 32 : Bool) := rfl
@[simp] theorem wf_deviceResetEscalate : (Instr.deviceResetEscalate).wf = (true : Bool) := rfl
@[simp] theorem wf_hubWdog : (Instr.hubWdog).wf = (true : Bool) := rfl
@[simp] theorem wf_supvHbTick : (Instr.supvHbTick).wf = (true : Bool) := rfl
@[simp] theorem wf_supvN (y0) : (Instr.supvN y0).wf = (true : Bool) := rfl
@[simp] theorem wf_housekeepingRound (y0) : (Instr.housekeepingRound y0).wf = (true : Bool) := rfl
@[simp] theorem wf_pstepLower : (Instr.pstepLower).wf = (true : Bool) := rfl
@[simp] theorem wf_pwrModeForced : (Instr.pwrModeForced).wf = (true : Bool) := rfl
@[simp] theorem wf_pwrForceEnd : (Instr.pwrForceEnd).wf = (true : Bool) := rfl
@[simp] theorem wf_tstepLower (die) : (Instr.tstepLower die).wf = (die < 4 : Bool) := rfl
@[simp] theorem wf_thermModeForced (die) : (Instr.thermModeForced die).wf = (die < 4 : Bool) := rfl
@[simp] theorem wf_thermForceEnd (die) : (Instr.thermForceEnd die).wf = (die < 4 : Bool) := rfl
@[simp] theorem wf_thermSensor (u) (i) : (Instr.thermSensor u i).wf = (u.ok && decide (i < u.sensors) : Bool) := rfl
@[simp] theorem wf_clkDeltaT (hot) (cold) : (Instr.clkDeltaT hot cold).wf = (hot.ok && cold.ok : Bool) := rfl
@[simp] theorem wf_modeChange (port) (y1) : (Instr.modeChange port y1).wf = (port < 2 : Bool) := rfl
@[simp] theorem wf_modeChangeDone : (Instr.modeChangeDone).wf = (true : Bool) := rfl
@[simp] theorem wf_pwrFastLimit (x) : (Instr.pwrFastLimit x).wf = (x.die < 4 : Bool) := rfl
@[simp] theorem wf_dipWarn (x) : (Instr.dipWarn x).wf = (x.rail < 41 : Bool) := rfl
@[simp] theorem wf_dipReset (x) : (Instr.dipReset x).wf = (x.rail < 41 : Bool) := rfl
@[simp] theorem wf_dipFloorRelease (x) : (Instr.dipFloorRelease x).wf = (x.rail < 41 : Bool) := rfl
@[simp] theorem wf_pwrStackLost (x) : (Instr.pwrStackLost x).wf = (x.stack < 32 : Bool) := rfl
@[simp] theorem wf_thermalShutdown (x) : (Instr.thermalShutdown x).wf = (x.u.ok : Bool) := rfl
@[simp] theorem wf_latTol (port) (y1) : (Instr.latTol port y1).wf = (port < 2 : Bool) := rfl
@[simp] theorem wf_coreP1Entry (core) : (Instr.coreP1Entry core).wf = (core < 32 : Bool) := rfl
@[simp] theorem wf_latencyStateEntry : (Instr.latencyStateEntry).wf = (true : Bool) := rfl
@[simp] theorem wf_latencyStateExit : (Instr.latencyStateExit).wf = (true : Bool) := rfl
@[simp] theorem wf_clkRefLost : (Instr.clkRefLost).wf = (true : Bool) := rfl
@[simp] theorem wf_clkRefReturn : (Instr.clkRefReturn).wf = (true : Bool) := rfl
@[simp] theorem wf_vrNoAck (reg) : (Instr.vrNoAck reg).wf = (reg < 8 : Bool) := rfl
@[simp] theorem wf_evcSel (port) (bank) (j) (y3) : (Instr.evcSel port bank j y3).wf = (port < 2 && bank < 83 && j < 32 : Bool) := rfl
@[simp] theorem wf_snapArm (port) : (Instr.snapArm port).wf = (port < 2 : Bool) := rfl
@[simp] theorem wf_snapNow (port) : (Instr.snapNow port).wf = (port < 2 : Bool) := rfl
@[simp] theorem wf_readHb : (Instr.readHb).wf = (true : Bool) := rfl
@[simp] theorem wf_readBoot : (Instr.readBoot).wf = (true : Bool) := rfl
@[simp] theorem wf_readTemp : (Instr.readTemp).wf = (true : Bool) := rfl
@[simp] theorem wf_setOffset (y0) : (Instr.setOffset y0).wf = (true : Bool) := rfl
@[simp] theorem wf_readCsr : (Instr.readCsr).wf = (true : Bool) := rfl
@[simp] theorem wf_jtagInstruction (y0) : (Instr.jtagInstruction y0).wf = (true : Bool) := rfl
@[simp] theorem wf_powerRemove : (Instr.powerRemove).wf = (true : Bool) := rfl
@[simp] theorem wf_arrayResetDone (core) (a) (y2) : (Instr.arrayResetDone core a y2).wf = (core < 32 && a < 2 : Bool) := rfl
@[simp] theorem wf_coreResetDone (core) : (Instr.coreResetDone core).wf = (core < 32 : Bool) := rfl
@[simp] theorem wf_computeDieResetDone (die) : (Instr.computeDieResetDone die).wf = (die < 4 : Bool) := rfl
@[simp] theorem wf_stackResetDone (stack) : (Instr.stackResetDone stack).wf = (stack < 32 : Bool) := rfl
@[simp] theorem wf_linkResetDone (eng) : (Instr.linkResetDone eng).wf = (eng < 14 : Bool) := rfl
@[simp] theorem wf_pcieLinkDown (port) (y1) : (Instr.pcieLinkDown port y1).wf = (port < 2 : Bool) := rfl
@[simp] theorem wf_pcieLinkUp (port) (speed) (width) (mode) : (Instr.pcieLinkUp port speed width mode).wf = (linkUpOk port speed width mode.flit mode.l0p : Bool) := rfl
@[simp] theorem wf_idleControlFlit (eng) (fib) : (Instr.idleControlFlit eng fib).wf = (eng < 14 && fib < 8 : Bool) := rfl

end Sys2Proof.Machine
end

