-- ==== Sys2Proof/Laws/SMap.lean ====
section
/-! SUPPORT. Laws of the sparse tables: reading after a write, and that every operation keeps the canonical form. -/

set_option Elab.async false

namespace Sys2Proof

variable {α : Type}

/-- The keys rise from above `lo`. -/
@[simp] theorem rising_nil (lo : Option Nat) : rising lo ([] : SMap α) = true := by cases lo <;> rfl

@[simp] theorem rising_none_cons (j : Nat) (v : α) (m : SMap α) : rising none ((j, v) :: m) = rising (some j) m := rfl

@[simp] theorem rising_some_cons (l j : Nat) (v : α) (m : SMap α) :
    rising (some l) ((j, v) :: m) = (decide (l < j) && rising (some j) m) := rfl

/-- A lower bound may be lowered. -/
theorem rising_weaken {m : SMap α} {a b : Nat} (h : a ≤ b) (hm : rising (some b) m = true) : rising (some a) m = true := by
  cases m with
  | nil => rfl
  | cons e m =>
    obtain ⟨j, v⟩ := e
    simp only [rising_some_cons, Bool.and_eq_true, decide_eq_true_eq] at hm ⊢
    exact ⟨by omega, hm.2⟩

theorem rising_none_of_some {m : SMap α} {a : Nat} (hm : rising (some a) m = true) : rising none m = true := by
  cases m with
  | nil => rfl
  | cons e m => obtain ⟨j, v⟩ := e; simp_all

/-- Below the least key the default is read. -/
theorem look_of_rising {m : SMap α} {d : α} {a k : Nat} (hm : rising (some a) m = true) (hk : k ≤ a) : look d m k = d := by
  induction m generalizing a with
  | nil => rfl
  | cons e m ih =>
    obtain ⟨j, v⟩ := e
    simp only [rising_some_cons, Bool.and_eq_true, decide_eq_true_eq] at hm
    have hj : ¬ j = k := by omega
    simp only [look, hj, if_false]
    exact ih hm.2 (by omega)

/-! ### Reading after a change -/

@[simp] theorem look_nil (d : α) (k : Nat) : look d [] k = d := rfl

theorem look_insert_same (d : α) (m : SMap α) (k : Nat) (v : α) : look d (insert m k v) k = v := by
  induction m with
  | nil => simp [insert, look]
  | cons e m ih =>
    obtain ⟨j, w⟩ := e
    by_cases h1 : j = k
    · simp [insert, look, h1]
    · by_cases h2 : k < j
      · simp [insert, look, h1, h2]
      · simp [insert, look, h1, h2, ih]

theorem look_insert_ne (d : α) (m : SMap α) {k i : Nat} (v : α) (h : i ≠ k) : look d (insert m k v) i = look d m i := by
  induction m with
  | nil => simp [insert, look, Ne.symm h]
  | cons e m ih =>
    obtain ⟨j, w⟩ := e
    by_cases h1 : j = k
    · subst h1; simp [insert, look, Ne.symm h]
    · by_cases h2 : k < j
      · simp [insert, look, h1, h2, Ne.symm h]
      · simp [insert, look, h1, h2, ih]

@[simp] theorem look_drop_same (d : α) (m : SMap α) (k : Nat) : look d (drop m k) k = d := by
  induction m with
  | nil => rfl
  | cons e m ih =>
    obtain ⟨j, w⟩ := e
    by_cases h : j = k
    · simpa [drop, h] using ih
    · simpa [drop, h, look] using ih

theorem look_drop_ne (d : α) (m : SMap α) {k i : Nat} (h : i ≠ k) : look d (drop m k) i = look d m i := by
  induction m with
  | nil => rfl
  | cons e m ih =>
    obtain ⟨j, w⟩ := e
    by_cases hj : j = k
    · subst hj; simpa [drop, look, Ne.symm h] using ih
    · by_cases hi : j = i
      · subst hi; simp [drop, h, look]
      · simpa [drop, hj, look, hi] using ih

/-- What was put is read. -/
@[simp] theorem look_put_same [DecidableEq α] (d : α) (m : SMap α) (k : Nat) (v : α) : look d (put d m k v) k = v := by
  unfold put
  split
  · next h => rw [look_drop_same d m k, h]
  · exact look_insert_same d m k v

/-- The other keys are left alone. -/
@[simp] theorem look_put_ne [DecidableEq α] (d : α) (m : SMap α) {k i : Nat} (v : α) (h : i ≠ k) :
    look d (put d m k v) i = look d m i := by
  unfold put
  split
  · exact look_drop_ne d m h
  · exact look_insert_ne d m v h

/-! ### The canonical form -/

theorem rising_insert {m : SMap α} {k : Nat} {v : α} {lo : Option Nat} (hm : rising lo m = true)
    (hlo : ∀ l, lo = some l → l < k) : rising lo (insert m k v) = true := by
  induction m generalizing lo with
  | nil => cases lo <;> simp_all [insert]
  | cons e m ih =>
    obtain ⟨j, w⟩ := e
    by_cases h1 : j = k
    · subst h1; cases lo <;> simp_all [insert]
    · by_cases h2 : k < j
      · cases lo with
        | none => simp_all [insert]
        | some l => simp only [rising_some_cons, Bool.and_eq_true, decide_eq_true_eq] at hm
                    simp [insert, h1, h2, hlo l rfl, hm.2]
      · have hkj : j < k := by omega
        cases lo with
        | none => simpa [insert, h1, h2] using ih hm (by simp; omega)
        | some l => simp only [rising_some_cons, Bool.and_eq_true, decide_eq_true_eq] at hm
                    simpa [insert, h1, h2, hm.1] using ih hm.2 (by simp; omega)

theorem all_insert {p : Nat × α → Bool} {m : SMap α} {k : Nat} {v : α} (hm : m.all p = true) (hv : p (k, v) = true) :
    (insert m k v).all p = true := by
  induction m with
  | nil => simpa [insert] using hv
  | cons e m ih =>
    obtain ⟨j, w⟩ := e
    simp only [List.all_cons, Bool.and_eq_true] at hm
    unfold insert
    split
    · simp [hv, hm.2]
    · split
      · simp [hv, hm.1, hm.2]
      · simp [hm.1, ih hm.2]

/-- Keeping some of the keys keeps the canonical form. -/
theorem rising_filter {m : SMap α} {p : Nat × α → Bool} {lo : Option Nat} (hm : rising lo m = true) :
    rising lo (m.filter p) = true := by
  induction m generalizing lo with
  | nil => cases lo <;> rfl
  | cons e m ih =>
    obtain ⟨j, w⟩ := e
    have tail : rising (some j) m = true := by cases lo <;> simp_all
    rw [List.filter_cons]
    split
    · cases lo with
      | none => simpa using ih tail
      | some l =>
        simp only [rising_some_cons, Bool.and_eq_true, decide_eq_true_eq] at hm
        simpa [hm.1] using ih tail
    · refine ih ?_
      cases lo with
      | none => exact rising_none_of_some tail
      | some l =>
        simp only [rising_some_cons, Bool.and_eq_true, decide_eq_true_eq] at hm
        exact rising_weaken (by omega) tail

theorem wf_filter [DecidableEq α] (d : α) (m : SMap α) (p : Nat × α → Bool) (hm : SMap.wf d m = true) :
    SMap.wf d (m.filter p) = true := by
  simp only [SMap.wf, Bool.and_eq_true] at hm ⊢
  refine ⟨rising_filter hm.1, ?_⟩
  rw [List.all_eq_true] at hm ⊢
  exact fun x hx => hm.2 x (List.mem_of_mem_filter hx)

/-- Putting a value keeps the canonical form. -/
theorem wf_put [DecidableEq α] (d : α) (m : SMap α) (k : Nat) (v : α) (hm : SMap.wf d m = true) :
    SMap.wf d (put d m k v) = true := by
  simp only [SMap.wf, Bool.and_eq_true] at hm ⊢
  unfold put
  split
  · refine ⟨rising_filter hm.1, ?_⟩
    rw [List.all_eq_true] at hm ⊢
    exact fun x hx => hm.2 x (List.mem_of_mem_filter hx)
  · next h => exact ⟨rising_insert hm.1 (by simp), all_insert hm.2 (by simp [h])⟩

@[simp] theorem wf_nil [DecidableEq α] (d : α) : SMap.wf d ([] : SMap α) = true := rfl

end Sys2Proof
end

