-- ==== Sys2Proof/Laws/Memory.lean ====
section
/-! SUPPORT. Laws of byte memories: every operation keeps the canonical form (R317), a read after a write, and the bytes a
write leaves alone. -/

set_option Elab.async false

namespace Sys2Proof

@[simp] theorem Memory.wf_nil : Memory.wf [] = true := rfl

/-- One byte written. -/
theorem wf_setByte (m : List Host.Cell) (a : Nat) (b : Byte) (hm : Memory.wf m = true) : Memory.wf (setByte m a b) = true :=
  wf_put 0 m a b hm

theorem wf_setBytes (m : List Host.Cell) (a : Nat) (l : List Byte) (hm : Memory.wf m = true) :
    Memory.wf (setBytes m a l) = true := by
  induction l generalizing m a with
  | nil => exact hm
  | cons b l ih => exact ih _ _ (wf_setByte m a b hm)

theorem wf_setMasked (m : List Host.Cell) (a mask : Nat) (l : List Byte) (hm : Memory.wf m = true) :
    Memory.wf (setMasked m a mask l) = true := by
  induction l generalizing m a mask with
  | nil => exact hm
  | cons b l ih =>
    refine ih _ _ _ ?_
    split
    · exact wf_setByte m a b hm
    · exact hm

theorem wf_clearRange (m : List Host.Cell) (a n : Nat) (hm : Memory.wf m = true) : Memory.wf (clearRange m a n) = true :=
  wf_filter 0 m _ hm

/-- The byte written is read. -/
@[simp] theorem getByte_setByte_same (m : List Host.Cell) (a : Nat) (b : Byte) : getByte (setByte m a b) a = b :=
  look_put_same 0 m a b

@[simp] theorem getByte_setByte_ne (m : List Host.Cell) {a i : Nat} (b : Byte) (h : i ≠ a) :
    getByte (setByte m a b) i = getByte m i := look_put_ne 0 m b h

/-- Outside the bytes written nothing changes. -/
theorem getByte_setBytes_out (m : List Host.Cell) (a i : Nat) (l : List Byte) (h : i < a ∨ a + l.length ≤ i) :
    getByte (setBytes m a l) i = getByte m i := by
  induction l generalizing m a with
  | nil => rfl
  | cons b l ih =>
    simp only [List.length_cons] at h
    rw [setBytes, ih _ _ (by omega), getByte_setByte_ne _ _ (by omega)]

theorem getByte_setMasked_out (m : List Host.Cell) (a mask i : Nat) (l : List Byte) (h : i < a ∨ a + l.length ≤ i) :
    getByte (setMasked m a mask l) i = getByte m i := by
  induction l generalizing m a mask with
  | nil => rfl
  | cons b l ih =>
    simp only [List.length_cons] at h
    rw [setMasked, ih _ _ _ (by omega)]
    split
    · exact getByte_setByte_ne _ _ (by omega)
    · rfl

/-- Inside them, byte k of the list is read at the k-th address. -/
theorem getByte_setBytes_in (m : List Host.Cell) (a k : Nat) (l : List Byte) (hk : k < l.length) :
    getByte (setBytes m a l) (a + k) = l[k] := by
  induction l generalizing m a k with
  | nil => simp at hk
  | cons b l ih =>
    cases k with
    | zero =>
      rw [setBytes, getByte_setBytes_out _ _ _ _ (by omega)]
      exact getByte_setByte_same _ _ _
    | succ k =>
      have e : a + (k + 1) = a + 1 + k := by omega
      simp only [List.length_cons] at hk
      rw [setBytes, e, ih _ _ _ (by omega)]
      rfl

theorem getByte_clearRange_out (m : List Host.Cell) (a n i : Nat) (h : i < a ∨ a + n ≤ i) :
    getByte (clearRange m a n) i = getByte m i := by
  induction m with
  | nil => rfl
  | cons e m ih =>
    obtain ⟨j, v⟩ := e
    simp only [getByte, clearRange] at ih ⊢
    rw [List.filter_cons]
    split
    · by_cases hj : j = i
      · simp [look, hj]
      · simp only [look, hj, if_false]; exact ih
    · next hp =>
      have hj : ¬ j = i := by
        intro hj; subst hj
        apply hp
        simp; omega
      simp only [look, hj, if_false]; exact ih

end Sys2Proof
end

