-- ==== Sys2Proof/Laws/Reads.lean ====
section
/-! SUPPORT. Reading a part of the state after a change of it: the changed part holds what the change gave it, the other parts
are as they were. -/

set_option Elab.async false

namespace Sys2Proof.Machine

variable (s : Dev)

/-! ### Cores, threads, arrays -/

@[simp] theorem Dev.core_setCore (c : Nat) (v : Core) : (s.setCore c v).core c = v := by simp [Dev.core, Dev.setCore]
@[simp] theorem Dev.core_setCore_ne {b c : Nat} (v : Core) (h : b ≠ c) : (s.setCore c v).core b = s.core b := by
  simp [Dev.core, Dev.setCore, h]
@[simp] theorem Dev.core_modCore (c : Nat) (f : Core → Core) : (s.modCore c f).core c = f (s.core c) := by simp [Dev.modCore]
@[simp] theorem Dev.core_modCore_ne {b c : Nat} (f : Core → Core) (h : b ≠ c) : (s.modCore c f).core b = s.core b := by
  simp [Dev.modCore, h]
@[simp] theorem Dev.thr_modThr (x : Tid) (f : Thread → Thread) : (s.modThr x f).thr x = f (s.thr x) := by
  simp [Dev.modThr, Dev.setThr, Dev.thr]

theorem Tid.thr_ne {x y : Tid} (h : y ≠ x) (hc : y.core = x.core) : y.thr ≠ x.thr := by
  intro ht
  cases x; cases y
  simp_all

@[simp] theorem Dev.thr_modThr_ne {x y : Tid} (f : Thread → Thread) (h : y ≠ x) : (s.modThr x f).thr y = s.thr y := by
  by_cases hc : y.core = x.core
  · simp [Dev.modThr, Dev.setThr, Dev.thr, hc, Tid.thr_ne h hc]
  · simp [Dev.modThr, Dev.setThr, Dev.thr, hc]

/-- What a change of a core that keeps its threads leaves of every thread. -/
theorem Dev.thr_modCore {c : Nat} {f : Core → Core} (h : ∀ k, (f k).threads = k.threads) (y : Tid) :
    (s.modCore c f).thr y = s.thr y := by
  by_cases hc : y.core = c
  · subst hc; simp [Dev.thr, h]
  · simp [Dev.thr, hc]

/-- A change of a thread leaves the rest of its core, and every other core. -/
theorem Dev.core_modThr {β : Type} (g : Core → β) (hg : ∀ (k : Core) m, g { k with threads := m } = g k) (x : Tid)
    (f : Thread → Thread) (c : Nat) : g ((s.modThr x f).core c) = g (s.core c) := by
  by_cases hc : c = x.core
  · subst hc; simp [Dev.modThr, Dev.setThr, hg]
  · simp [Dev.modThr, Dev.setThr, hc]

@[simp] theorem Dev.store_modThr (x : Tid) (f : Thread → Thread) (c : Nat) : ((s.modThr x f).core c).store = (s.core c).store :=
  s.core_modThr (·.store) (fun _ _ => rfl) x f c
@[simp] theorem Dev.storeBad_modThr (x : Tid) (f : Thread → Thread) (c : Nat) :
    ((s.modThr x f).core c).storeBad = (s.core c).storeBad :=
  s.core_modThr (·.storeBad) (fun _ _ => rfl) x f c
@[simp] theorem Dev.icache_modThr (x : Tid) (f : Thread → Thread) (c : Nat) : ((s.modThr x f).core c).icache = (s.core c).icache :=
  s.core_modThr (·.icache) (fun _ _ => rfl) x f c
@[simp] theorem Dev.port_modThr (x : Tid) (f : Thread → Thread) (c : Nat) : ((s.modThr x f).core c).port = (s.core c).port :=
  s.core_modThr (·.port) (fun _ _ => rfl) x f c
@[simp] theorem Dev.arr_modThr (x : Tid) (f : Thread → Thread) (c a : Nat) : (s.modThr x f).arr c a = s.arr c a := by
  unfold Dev.arr
  split
  · exact s.core_modThr (·.a0) (fun _ _ => rfl) x f c
  · exact s.core_modThr (·.a1) (fun _ _ => rfl) x f c

@[simp] theorem Dev.arr_setArr (c a : Nat) (v : MArray) : (s.setArr c a v).arr c a = v := by
  by_cases h : a = 0 <;> simp [Dev.setArr, Dev.arr, h]
@[simp] theorem Dev.arr_modArr (c a : Nat) (f : MArray → MArray) : (s.modArr c a f).arr c a = f (s.arr c a) := by
  simp [Dev.modArr]
@[simp] theorem Dev.thr_setArr (c a : Nat) (v : MArray) (x : Tid) : (s.setArr c a v).thr x = s.thr x :=
  s.thr_modCore (fun k => by split <;> rfl) x
@[simp] theorem Dev.thr_modArr (c a : Nat) (f : MArray → MArray) (x : Tid) : (s.modArr c a f).thr x = s.thr x := by
  simp [Dev.modArr]

/-! ### Stacks, channels, links, queues and the other tables -/

@[simp] theorem Dev.stk_modStk (k : Nat) (f : Stack → Stack) : (s.modStk k f).stk k = f (s.stk k) := by simp [Dev.stk, Dev.modStk]
@[simp] theorem Dev.stk_modStk_ne {j k : Nat} (f : Stack → Stack) (h : j ≠ k) : (s.modStk k f).stk j = s.stk j := by
  simp [Dev.stk, Dev.modStk, h]
@[simp] theorem Dev.chan_modChan (k p : Nat) (f : Chan → Chan) : (s.modChan k p f).chan k p = f (s.chan k p) := by
  simp [Dev.chan, Dev.modChan]
@[simp] theorem Dev.chan_modChan_ne {j q k p : Nat} (f : Chan → Chan) (h : ¬ (j = k ∧ q = p)) :
    (s.modChan k p f).chan j q = s.chan j q := by
  by_cases hj : j = k
  · subst hj
    have hq : q ≠ p := fun hq => h ⟨rfl, hq⟩
    simp [Dev.chan, Dev.modChan, hq]
  · simp [Dev.chan, Dev.modChan, hj]
@[simp] theorem Dev.eng_modEng (e : Nat) (f : Engine → Engine) : (s.modEng e f).eng e = f (s.eng e) := by simp [Dev.eng, Dev.modEng]
@[simp] theorem Dev.fport_modFport (p : Nat) (f : FPort → FPort) : (s.modFport p f).fport p = f (s.fport p) := by
  simp [Dev.fport, Dev.modFport]
@[simp] theorem Dev.ckt_modCkt (c : Nat) (f : Circuit → Circuit) : (s.modCkt c f).ckt c = f (s.ckt c) := by
  simp [Dev.ckt, Dev.modCkt]
@[simp] theorem Dev.ctx_modCtx (n : Nat) (f : Ctx → Ctx) : (s.modCtx n f).ctx n = f (s.ctx n) := by simp [Dev.ctx, Dev.modCtx]
@[simp] theorem Dev.region_setRegion (n : Nat) (r : Option Region) : (s.setRegion n r).region n = r := by
  simp [Dev.region, Dev.setRegion]
@[simp] theorem Dev.crun_setRun (n : Nat) (r : Option CopyRun) : (s.setRun n r).crun n = r := by simp [Dev.crun, Dev.setRun]
@[simp] theorem Dev.comb_setComb (n : Nat) (r : Option Comb) : (s.setComb n r).comb n = r := by simp [Dev.comb, Dev.setComb]
@[simp] theorem Dev.group_setGroup (q : Nat) (g : Option Group) : (s.setGroup q g).group q = g := by
  simp [Dev.group, Dev.setGroup]
@[simp] theorem Dev.queue_modQueue (q : Nat) (f : Queue → Queue) : (s.modQueue q f).queue q = f (s.queue q) := by
  simp [Dev.queue, Dev.modQueue]
@[simp] theorem Dev.queue_modQueue_ne {p q : Nat} (f : Queue → Queue) (h : p ≠ q) : (s.modQueue q f).queue p = s.queue p := by
  simp [Dev.queue, Dev.modQueue, h]
@[simp] theorem Dev.ring_modRing (n : Nat) (f : Ring → Ring) : (s.modRing n f).ring n = f (s.ring n) := by
  simp [Dev.ring, Dev.modRing]
@[simp] theorem Dev.hport_modHport (p : Nat) (f : HPort → HPort) : (s.modHport p f).hport p = f (s.hport p) := by
  by_cases h : p = 0 <;> simp [Dev.hport, Dev.modHport, h]
@[simp] theorem Dev.rail_modRail (r : Nat) (f : Rail → Rail) : (s.modRail r f).rail r = f (s.rail r) := by
  simp [Dev.rail, Dev.modRail]
@[simp] theorem Dev.dieT_modDieT (n : Nat) (f : DieTherm → DieTherm) : (s.modDieT n f).dieT n = f (s.dieT n) := by
  simp [Dev.dieT, Dev.modDieT]
@[simp] theorem Dev.link_modLink (l : Nat) (f : DLink → DLink) : (s.modLink l f).link l = f (s.link l) := by
  simp [Dev.link, Dev.modLink]
@[simp] theorem Dev.bundle_modBundle (l dir b : Nat) (f : Bundle → Bundle) : (s.modBundle l dir b f).bundle l dir b = f (s.bundle l dir b) := by
  simp [Dev.bundle, Dev.modBundle]

end Sys2Proof.Machine
end

