-- ==== Sys2Proof/Laws/Answer.lean ====
section
/-! SUPPORT. How to show what a command answers: one lemma for each form of a command, and one for the issue of an instruction. -/

set_option Elab.async false

namespace Sys2Proof.Machine

/-! ### Answers -/

/-- A well-formed command of the form `act` on a device that runs answers its effect. -/
theorem answers_act {c : Instr} {f : Dev → Dev} {s : State} {d : Dev} (he : exec c s = act c f s) (hc : c.wf = true)
    (hl : s.dev.live = true) (hd : f s.dev = d) : answers c s d := by
  rw [answers, he, act_live hc hl, hd]

theorem answers_actIf {c : Instr} {ok : Bool} {f : Dev → Dev} {s : State} {d : Dev} (he : exec c s = actIf ok f s) (hc : ok = true)
    (hl : s.dev.live = true) (hd : f s.dev = d) : answers c s d := by
  rw [answers, he, actIf_live hc hl, hd]

theorem answers_actAlways {c : Instr} {ok : Bool} {f : Dev → Dev} {s : State} {d : Dev} (he : exec c s = actAlways ok f s) (hc : ok = true)
    (hd : f s.dev = d) : answers c s d := by
  rw [answers, he, actAlways_ok hc, hd]

/-! ### Issue -/

/-- An instruction whose thread issues has its own effect, on the device that counted the issue. -/
theorem Dev.issue_eq {s : Dev} {x : Tid} {reads : List (BitVec 5)} (h : s.issues x reads = true) (sem : Dev → Dev) :
    s.issue x reads sem = sem (s.issued x) := by
  simp only [Dev.issues, Bool.and_eq_true, beq_iff_eq, Bool.not_eq_true'] at h
  obtain ⟨⟨⟨⟨⟨⟨⟨-, h1⟩, h2⟩, h3⟩, h4⟩, h5⟩, h6⟩, h7⟩ := h
  simp only [Dev.issue, h1, h2, h3, h4, h5, h6, h7, ne_eq, not_true_eq_false, Bool.not_true, Bool.false_eq_true, or_self, if_false]

theorem Dev.issues_live {s : Dev} {x : Tid} {reads : List (BitVec 5)} (h : s.issues x reads = true) : s.live = true ∧ x.ok = true := by
  simp only [Dev.issues, Bool.and_eq_true] at h
  exact ⟨h.1.1.1.1.1.1.1.2, h.1.1.1.1.1.1.1.1⟩

/-- An instruction that issues and passes its field checks. -/
theorem answers_issue {c : Instr} {x : Tid} {reads : List (BitVec 5)} {sem : Dev → Dev} {s : State} {d : Dev}
    (he : exec c s = act c (fun s => s.issue x reads sem) s) (hc : c.wf = x.ok) (h : s.dev.issues x reads = true)
    (hd : sem (s.dev.issued x) = d) : answers c s d :=
  answers_act he (hc.trans (Dev.issues_live h).2) (Dev.issues_live h).1 ((Dev.issue_eq h sem).trans hd)

/-- What reads neither the counter banks nor the scheduler is the same at the issue of an instruction. -/
theorem Dev.issued_keeps {β : Type} (g : Dev → β) (h : ∀ s e, g { s with evc := e } = g s) (hs : ∀ s v, g { s with sched := v } = g s)
    (s : Dev) (x : Tid) : g (s.issued x) = g s := by
  unfold Dev.issued Dev.scheduled Dev.modSched
  rw [hs]
  unfold Dev.count
  split
  · rfl
  · exact h s _

@[simp] theorem Dev.issued_core (s : Dev) (x : Tid) (c : Nat) : (s.issued x).core c = s.core c :=
  Dev.issued_keeps (fun s => s.core c) (fun _ _ => rfl) (fun _ _ => rfl) s x
@[simp] theorem Dev.issued_thr (s : Dev) (x y : Tid) : (s.issued x).thr y = s.thr y := by simp [Dev.thr]
@[simp] theorem Dev.issued_live (s : Dev) (x : Tid) : (s.issued x).live = s.live :=
  Dev.issued_keeps (fun s => s.live) (fun _ _ => rfl) (fun _ _ => rfl) s x
@[simp] theorem Dev.issued_addrFault (s : Dev) (x : Tid) (y : Tid) (a : Word) (n : Nat) (k m : Bool) : (s.issued x).addrFault y a n k m = s.addrFault y a n k m :=
  Dev.issued_keeps (fun s => s.addrFault y a n k m) (fun _ _ => rfl) (fun _ _ => rfl) s x
@[simp] theorem Dev.issued_storeBadAt (s : Dev) (x : Tid) (c off n : Nat) : (s.issued x).storeBadAt c off n = s.storeBadAt c off n :=
  Dev.issued_keeps (fun s => s.storeBadAt c off n) (fun _ _ => rfl) (fun _ _ => rfl) s x
@[simp] theorem Dev.issued_storeRead (s : Dev) (x : Tid) (c off n : Nat) : (s.issued x).storeRead c off n = s.storeRead c off n :=
  Dev.issued_keeps (fun s => s.storeRead c off n) (fun _ _ => rfl) (fun _ _ => rfl) s x
@[simp] theorem Dev.issued_storeWriteBad (s : Dev) (x : Tid) (c off n m : Nat) : (s.issued x).storeWriteBad c off n m = s.storeWriteBad c off n m :=
  Dev.issued_keeps (fun s => s.storeWriteBad c off n m) (fun _ _ => rfl) (fun _ _ => rfl) s x
@[simp] theorem Dev.issued_freeEntry (s : Dev) (x : Tid) (c i : Nat) (leg : Option Nat) : (s.issued x).freeEntry c i leg = s.freeEntry c i leg :=
  Dev.issued_keeps (fun s => s.freeEntry c i leg) (fun _ _ => rfl) (fun _ _ => rfl) s x
@[simp] theorem Dev.issued_outstanding (s : Dev) (x : Tid) (y : Tid) (r : Bool) : (s.issued x).outstanding y r = s.outstanding y r :=
  Dev.issued_keeps (fun s => s.outstanding y r) (fun _ _ => rfl) (fun _ _ => rfl) s x
@[simp] theorem Dev.issued_ctr (s : Dev) (x : Tid) (k : Nat) : (s.issued x).ctr k = s.ctr k :=
  Dev.issued_keeps (fun s => s.ctr k) (fun _ _ => rfl) (fun _ _ => rfl) s x
@[simp] theorem Dev.issued_memAddr (s : Dev) (x : Tid) (y : Tid) (i : Insn) : (s.issued x).memAddr y i = s.memAddr y i :=
  Dev.issued_keeps (fun s => s.memAddr y i) (fun _ _ => rfl) (fun _ _ => rfl) s x
@[simp] theorem Dev.issued_localPkt (s : Dev) (x : Tid) (y : Tid) (k : PKind) (a : Word) (n : Nat) : (s.issued x).localPkt y k a n = s.localPkt y k a n :=
  Dev.issued_keeps (fun s => s.localPkt y k a n) (fun _ _ => rfl) (fun _ _ => rfl) s x
@[simp] theorem Dev.issued_thrPkt (s : Dev) (x : Tid) (y : Tid) (k : PKind) (vc : Nat) (a : Word) (n : Nat) : (s.issued x).thrPkt y k vc a n = s.thrPkt y k vc a n :=
  Dev.issued_keeps (fun s => s.thrPkt y k vc a n) (fun _ _ => rfl) (fun _ _ => rfl) s x
@[simp] theorem Dev.issued_pent (s : Dev) (x : Tid) (c e : Nat) : (s.issued x).pent c e = s.pent c e :=
  Dev.issued_keeps (fun s => s.pent c e) (fun _ _ => rfl) (fun _ _ => rfl) s x
@[simp] theorem Dev.issued_pents (s : Dev) (x : Tid) (c : Nat) : (s.issued x).pents c = s.pents c :=
  Dev.issued_keeps (fun s => s.pents c) (fun _ _ => rfl) (fun _ _ => rfl) s x
@[simp] theorem Dev.issued_coreRuns (s : Dev) (x : Tid) (c : Nat) : (s.issued x).coreRuns c = s.coreRuns c :=
  Dev.issued_keeps (fun s => s.coreRuns c) (fun _ _ => rfl) (fun _ _ => rfl) s x
@[simp] theorem Dev.issued_partOfCore (s : Dev) (x : Tid) (c : Nat) : (s.issued x).partOfCore c = s.partOfCore c :=
  Dev.issued_keeps (fun s => s.partOfCore c) (fun _ _ => rfl) (fun _ _ => rfl) s x
@[simp] theorem Dev.issued_arr (s : Dev) (x : Tid) (c a : Nat) : (s.issued x).arr c a = s.arr c a :=
  Dev.issued_keeps (fun s => s.arr c a) (fun _ _ => rfl) (fun _ _ => rfl) s x
@[simp] theorem Dev.issued_devNum (s : Dev) (x : Tid) : (s.issued x).devNum = s.devNum :=
  Dev.issued_keeps (fun s => s.devNum) (fun _ _ => rfl) (fun _ _ => rfl) s x
@[simp] theorem Dev.issued_domNum (s : Dev) (x : Tid) : (s.issued x).domNum = s.domNum :=
  Dev.issued_keeps (fun s => s.domNum) (fun _ _ => rfl) (fun _ _ => rfl) s x
@[simp] theorem Dev.issued_ctx (s : Dev) (x : Tid) (n : Nat) : (s.issued x).ctx n = s.ctx n :=
  Dev.issued_keeps (fun s => s.ctx n) (fun _ _ => rfl) (fun _ _ => rfl) s x
@[simp] theorem Dev.issued_arrUsable (s : Dev) (x : Tid) (c a : Nat) : (s.issued x).arrUsable c a = s.arrUsable c a :=
  Dev.issued_keeps (fun s => s.arrUsable c a) (fun _ _ => rfl) (fun _ _ => rfl) s x
@[simp] theorem Dev.issued_powerStep (s : Dev) (x : Tid) (c : Nat) : (s.issued x).powerStep c = s.powerStep c :=
  Dev.issued_keeps (fun s => s.powerStep c) (fun _ _ => rfl) (fun _ _ => rfl) s x

/-! ### Management commands -/

/-- R574: the command at the head of its queue runs. -/
theorem Dev.runMgmt_eq {s d : Dev} {q cmd : Nat} {e : Entry} (h : s.runsMgmt q cmd e d) (f : Dev → Entry → Issuer → Dev) :
    s.runMgmt q cmd f = f d e (.queue q) := by
  obtain ⟨h1, b, l, h2, rfl⟩ := h
  simp only [Dev.runMgmt, h1, h2]

/-- A management command that runs answers its effect. -/
theorem answers_mgmt {c : Instr} {q cmd : Nat} {f : Dev → Entry → Issuer → Dev} {s : State} {e : Entry} {d t : Dev}
    (he : exec c s = act c (fun s => s.runMgmt q cmd f) s) (hc : c.wf = true) (hl : s.dev.live = true) (h : s.dev.runsMgmt q cmd e d)
    (hd : f d e (.queue q) = t) : answers c s t :=
  answers_act he hc hl ((Dev.runMgmt_eq h f).trans hd)

end Sys2Proof.Machine
end

