-- ==== Sys2Proof/Laws/Keeps.lean ====
section
/-! SUPPORT. What the shared operations leave alone: whatever a part `g` of the state says, if the fields that an operation writes
do not change it, the operation does not. -/

set_option Elab.async false

namespace Sys2Proof.Machine

variable {β : Type} {g : Dev → β} (s : Dev)

/-! ### Host writes, messages, events -/

theorem Dev.hostSend_keeps (hh : ∀ s v, g { s with host := v } = g s) (ho : ∀ s v, g { s with outbox := v } = g s) (port : Nat) (o : Out) :
    g (s.hostSend port o) = g s := by
  unfold Dev.hostSend
  split
  · exact ho s _
  · exact hh s _

theorem Dev.msix_keeps (hh : ∀ s v, g { s with host := v } = g s) (ho : ∀ s v, g { s with outbox := v } = g s) (port vec : Nat) :
    g (s.msix port vec) = g s := by
  unfold Dev.msix
  split
  · exact s.hostSend_keeps hh ho port _
  · exact hh s _

theorem Dev.event_keeps (hh : ∀ s v, g { s with host := v } = g s) (ho : ∀ s v, g { s with outbox := v } = g s) (n kind : Nat) (code : Code)
    (unit : Nat) (d0 d1 : Word) : g (s.event n kind code unit d0 d1) = g s := by
  unfold Dev.event
  simp only
  split
  · rfl
  · split
    · exact hh s _
    · rw [Dev.msix_keeps _ hh ho, show ∀ (d : Dev) f, g (d.modRing n f) = g d from fun d f => hh d _, Dev.hostSend_keeps _ hh ho]

theorem Dev.eventAll_keeps (hh : ∀ s v, g { s with host := v } = g s) (ho : ∀ s v, g { s with outbox := v } = g s) (kind : Nat) (code : Code)
    (unit : Nat) (d0 d1 : Word) : g (s.eventAll kind code unit d0 d1) = g s :=
  Dev.fold_keeps g (fun s _ => s.event_keeps hh ho _ kind code unit d0 d1) s _

theorem Dev.eventTo_keeps (hh : ∀ s v, g { s with host := v } = g s) (ho : ∀ s v, g { s with outbox := v } = g s) (n : Option Nat) (kind : Nat)
    (code : Code) (unit : Nat) (d0 d1 : Word) : g (s.eventTo n kind code unit d0 d1) = g s := by
  cases n
  · rfl
  · exact s.event_keeps hh ho _ kind code unit d0 d1

/-! ### Sync counters -/

theorem Dev.count_keeps (he : ∀ s v, g { s with evc := v } = g s) (bank src n : Nat) (unit part vc : Option Nat) :
    g (s.count bank src n unit part vc) = g s := by
  unfold Dev.count
  split
  · rfl
  · exact he s _

theorem Dev.raise_keeps (hc : ∀ s v, g { s with coll := v } = g s) (i : Nat) (cause : Code) : g (s.raise i cause) = g s := by
  refine Dev.fold_keeps g (fun s e => ?_) s _
  cases e.2 with
  | none => rfl
  | some k =>
    simp only
    split
    · exact hc s _
    · rfl

theorem Dev.setCtr_keeps (hs : ∀ s v, g { s with sync := v } = g s) (he : ∀ s v, g { s with evc := v } = g s)
    (hc : ∀ s v, g { s with coll := v } = g s) (i : Nat) (v : Word) (cause : Code) : g (s.setCtr i v cause) = g s := by
  have h (w : Coll) : g { s with sync := put 0 s.sync i v, coll := w } = g s := (hc { s with sync := put 0 s.sync i v } w).trans (hs s _)
  unfold Dev.setCtr
  simp only
  split
  · rw [Dev.count_keeps _ he, h]
  · rw [Dev.raise_keeps _ hc, Dev.count_keeps _ he, h]

theorem Dev.addCtr_keeps (hs : ∀ s v, g { s with sync := v } = g s) (he : ∀ s v, g { s with evc := v } = g s)
    (hc : ∀ s v, g { s with coll := v } = g s) (i : Nat) (v : Word) (cause : Code) : g (s.addCtr i v cause) = g s :=
  s.setCtr_keeps hs he hc i _ cause

theorem Dev.raiseGroup_keeps (hs : ∀ s v, g { s with sync := v } = g s) (he : ∀ s v, g { s with evc := v } = g s)
    (hc : ∀ s v, g { s with coll := v } = g s) (q : Nat) (cause : Code) : g (s.raiseGroup q cause) = g s := by
  unfold Dev.raiseGroup
  split
  · split
    · rfl
    · exact s.addCtr_keeps hs he hc _ _ cause
  · rfl

/-! ### Stores and memory -/

@[simp] theorem Dev.thr_storeTouch (c off n : Nat) (x : Tid) : (s.storeTouch c off n).thr x = s.thr x := by
  unfold Dev.storeTouch
  exact s.thr_modCore (by intro k; rfl) x

theorem Dev.storeWrite_keeps (hm : ∀ (s : Dev) c (f : Core → Core), (∀ k, (f k).threads = k.threads) → g (s.modCore c f) = g s)
    (c off : Nat) (bytes : List Byte) (mask : Nat) : g (s.storeWrite c off bytes mask) = g s := by
  unfold Dev.storeWrite
  simp only
  refine (hm _ c _ (by intro k; rfl)).trans (Dev.fold_keeps g (fun s w => ?_) s _)
  unfold Dev.storeTouch
  exact hm s c _ (by intro k; rfl)

@[simp] theorem Dev.thr_storeWrite (c off : Nat) (bytes : List Byte) (mask : Nat) (x : Tid) :
    (s.storeWrite c off bytes mask).thr x = s.thr x :=
  s.storeWrite_keeps (g := fun s => s.thr x) (fun s _ _ h => s.thr_modCore h x) c off bytes mask

theorem Dev.enqueue_keeps (hm : ∀ s v, g { s with mem := v } = g s) (k p : Nat) (r : MemReq) : g (s.enqueue k p r) = g s := by
  unfold Dev.enqueue
  simp only
  rw [hm]
  exact hm s _

theorem Dev.hubStore_keeps (hk : ∀ (s : Dev) c (f : Core → Core), (∀ k, (f k).threads = k.threads) → g (s.modCore c f) = g s)
    (hm : ∀ s v, g { s with mem := v } = g s) (hr : ∀ s v, g { s with ra := v } = g s) (a : Nat) (bytes : List Byte) :
    g (s.hubStore a bytes) = g s := by
  unfold Dev.hubStore
  split
  · split
    · exact s.storeWrite_keeps hk _ _ _ _
    · rfl
  · split
    · split
      · exact s.enqueue_keeps hm _ _ _
      · exact hr s _
    · rfl
  · rfl

/-! ### Completions -/

/-- A completion touches host records, the outbox, counters, memory and a core store: no thread, and none of the rest. -/
theorem Dev.complete_keeps (hk : ∀ (s : Dev) c (f : Core → Core), (∀ k, (f k).threads = k.threads) → g (s.modCore c f) = g s)
    (hm : ∀ s v, g { s with mem := v } = g s) (hr : ∀ s v, g { s with ra := v } = g s) (hh : ∀ s v, g { s with host := v } = g s) (ho : ∀ s v, g { s with outbox := v } = g s)
    (hs : ∀ s v, g { s with sync := v } = g s) (he : ∀ s v, g { s with evc := v } = g s) (hc : ∀ s v, g { s with coll := v } = g s)
    (q : Nat) (seq : BitVec 32) (code : Code) (result : Word) : g (s.complete q seq code result) = g s := by
  unfold Dev.complete
  split
  · rfl
  · simp only
    rw [show ∀ (d : Dev) f, g (d.modQueue q f) = g d from fun d f => hh d _, Dev.count_keeps _ he,
      Dev.when_keeps g _ _ (Dev.msix_keeps _ hh ho _ _)]
    split
    all_goals
      rw [Dev.when_keeps g _ _ (Dev.addCtr_keeps _ hs he hc _ _ _)]
      refine Dev.when_keeps g _ _ ?_
      split
      · exact s.hostSend_keeps hh ho _ _
      · split
        · exact s.hubStore_keeps hk hm hr _ _
        · rfl

@[simp] theorem Dev.thr_complete (q : Nat) (seq : BitVec 32) (code : Code) (result : Word) (x : Tid) :
    (s.complete q seq code result).thr x = s.thr x :=
  s.complete_keeps (g := fun s => s.thr x) (fun s _ _ h => s.thr_modCore h x) (fun _ _ => rfl) (fun _ _ => rfl) (fun _ _ => rfl)
    (fun _ _ => rfl) (fun _ _ => rfl) (fun _ _ => rfl) (fun _ _ => rfl) q seq code result

theorem Dev.legEnd_keeps (hk : ∀ (s : Dev) c (f : Core → Core), (∀ k, (f k).threads = k.threads) → g (s.modCore c f) = g s)
    (hm : ∀ s v, g { s with mem := v } = g s) (hr : ∀ s v, g { s with ra := v } = g s) (hh : ∀ s v, g { s with host := v } = g s) (ho : ∀ s v, g { s with outbox := v } = g s)
    (hs : ∀ s v, g { s with sync := v } = g s) (he : ∀ s v, g { s with evc := v } = g s) (hc : ∀ s v, g { s with coll := v } = g s)
    (q : Nat) (normal : Bool) : g (s.legEnd q normal) = g s := by
  have hg : ∀ (d : Dev) f, g (d.modGroup q f) = g d := fun d f => hc d _
  unfold Dev.legEnd
  split
  · rfl
  · simp only
    split
    · exact hg s _
    · split
      · rw [hg, hg]
      · cases ‹Group›.head with
        | none => simp only [Option.elim]; rw [hg, hg]
        | some seq => simp only [Option.elim]; rw [Dev.complete_keeps _ hk hm hr hh ho hs he hc, hg, hg]

@[simp] theorem Dev.thr_legEnd (q : Nat) (normal : Bool) (x : Tid) : (s.legEnd q normal).thr x = s.thr x :=
  s.legEnd_keeps (g := fun s => s.thr x) (fun s _ _ h => s.thr_modCore h x) (fun _ _ => rfl) (fun _ _ => rfl) (fun _ _ => rfl)
    (fun _ _ => rfl) (fun _ _ => rfl) (fun _ _ => rfl) (fun _ _ => rfl) q normal

/-- The end of a work item leaves every other thread, and of its own everything but the item. -/
theorem Dev.thr_endItem_ne {x y : Tid} (h : y ≠ x) (code : Code) (normal : Bool) : (s.endItem x code normal).thr y = s.thr y := by
  unfold Dev.endItem
  split
  · rfl
  · simp only
    split <;> simp [h]

theorem Dev.thr_endItem (x : Tid) (code : Code) (normal : Bool) : (s.endItem x code normal).thr x = { s.thr x with work := none } := by
  unfold Dev.endItem
  split
  · next h => rw [← h]
  · simp only
    split <;> simp

end Sys2Proof.Machine
end

