-- ==== Sys2Proof/Tests/Slice0.lean ====
section
/-! SUPPORT. Own tests: each check of the operands refuses an ill-formed command, words of the encoding decode, worked examples of
the manual, and for every statement with hypotheses a state and operands that meet them. -/

set_option Elab.async false

namespace Sys2Proof.Tests

open Sys2Proof Sys2Proof.Machine

/-! ### A small package at work: partition 0 owns every core, one interleave set, and queues 0–4 -/

def fab0 : FabricSection :=
  { dev := 5, domain := 1, plan := 0, bandwidthFirst := false, dx := 8, dy := 1, allotX := (14, 0, 0), allotY := (14, 0, 0), through := []
    waystation := false, ports := [], trunks := [] }

def rep0 : RepairSection :=
  { spareRows := [], exclCores := 0, exclArrays := 0, exclStacks := 0, exclEngines := 0, exclChans := [], stackRepairs := [], lanes := []
    lambdas := [] }

def img0 : Image :=
  { magic := 0x55545246, format := 1, hdrSize := 128, part := 0x7140, length := 8192, id := 1, version := 1, kind := 0, minClass := 1
    baseDigest := 0, serial := 0, unusedZero := true, chain := [[]], sig := some 0
    table := ([1, 2, 4, 5, 6, 0x10, 0x11].zipIdx.map fun e => ⟨e.1, 1, 256 + 64 * e.2, 64, true⟩).insertIdx 2 ⟨3, 1, 1024, 4096, true⟩
    certOk := true, sigOk := true, leafKey := 0, digestOk := true, digest := 0
    structure_ := [⟨0, 0, 0x7FFFFFFF, 0⟩, ⟨1, 1, 0x80000000, 0⟩], sets := [⟨true, 0, 0, 2 ^ 30, 0⟩], shares := [], capsule := (0, 0)
    owners := [(0, 0), (1, 0), (2, 0), (3, 0), (10, 1)], fabric := fab0, repair := rep0, power := ⟨[2400, 3800, 2800], 0, [1, 20, 200, 2000]⟩
    parts := [⟨0, 0, [(0, 3)], false, [(0, 4)], [(0, 1), (1, 2), (2, 0x304), (3, 3)], [⟨0, 2 ^ 21, 12⟩]⟩,
              ⟨1, 0, [], false, [], [(10, 4)], []⟩] }

/-- The start of an image file: the first words of its header and two entries of its section table. -/
def file0 : ImageFile :=
  { bytes := toBytes 4 0x55545246 ++ toBytes 2 1 ++ toBytes 2 128 ++ toBytes 2 0x7140 ++ toBytes 2 2 ++ toBytes 4 4096 ++ toBytes 8 7 ++
      toBytes 4 9 ++ [1, 2, 0, 0] ++ List.replicate 96 0 ++ (toBytes 2 1 ++ toBytes 2 1 ++ toBytes 4 256 ++ toBytes 4 64 ++ toBytes 4 5) ++
      (toBytes 2 0x10 ++ toBytes 2 3 ++ toBytes 4 512 ++ toBytes 4 128 ++ toBytes 4 6)
    certOk := true, sigOk := true, leafKey := 0, structure_ := img0.structure_, sets := img0.sets, shares := [], capsule := (0, 0)
    fabric := fab0, repair := rep0, power := img0.power, parts := img0.parts }

def boot0 : Boot := { powered := true, step := 10, part := 0x7140, released := 0xF, epoch := 1, compatClass := 2 }

def idev : Img :=
  { loaded := some img0, coresUsable := BitVec.allOnes 32, arraysUsable := BitVec.allOnes 64, stacksUsable := BitVec.allOnes 32
    engUsable := BitVec.allOnes 14, capsValid := true, bands := [0] }

/-- A thread at the first word of its core store, with that line in its cache. -/
def core0 (t : Thread) : Core := { threads := [(0, { t with pc := 0x020000000000 })], icache := [lineOf 0x020000000000] }

def dev0 : Dev := { boot := boot0, img := idev }
def x0 : Tid := ⟨0, 0⟩
/-- The package with thread 0 of core 0 as given. -/
def with0 (t : Thread) : State := { dev := { dev0 with cores := [(0, core0 t)] } }
def ready0 : Thread := { st := .ready, g := [(1, 8), (2, 7)] }

def i3 : Insn := ⟨3, 1, 2, 0, 0, 0⟩
def i1 : Insn := ⟨3, 1, 0, 0, 0, 0xFFFFFFFF⟩

/-! ### Witnesses: core instructions -/

/-- ScalarArithmeticWraps, and the corners of its fields: FN 1 of MULH, a shift amount of 63. -/
theorem wit_scalar : (with0 ready0).dev.issues x0 [1, 2, 0] = true ∧ (with0 ready0).dev.issues x0 [1, 2] = true ∧
    (with0 ready0).dev.issues x0 [1] = true ∧ rFmt i3 true true true false 0 = true ∧
    rFmt ⟨31, 1, 2, 0, 1, 0⟩ true true true false 1 = true ∧ rFmt ⟨3, 1, 2, 4, 0, 0⟩ true true true true 0 = true ∧
    iFmt i1 true true = true := by decide +kernel

/-- BranchAndJumpResults -/
theorem wit_branch : (with0 ready0).dev.issues x0 [1, 2] = true ∧ (0xFFFFFFF8#32).toNat % 8 = 0 ∧
    (with0 ready0).dev.issues x0 [] = true ∧ (with0 ready0).dev.issues x0 [1] = true ∧ iFmt ⟨3, 0, 0, 0, 0, 8⟩ true false = true ∧
    BitVec.ofInt 64 (((with0 ready0).dev.thr x0).pc.toNat + (8#32).toInt) = (0x020000000008#50).setWidth 64 ∧
    (0x020000000008#50).toNat % 8 = 0 ∧ iFmt ⟨3, 1, 0, 0, 0, 8⟩ true true = true ∧
    BitVec.ofInt 64 ((((with0 ready0).dev.thr x0).rg 1).toNat + (8#32).toInt) = (16#50).setWidth 64 := by decide +kernel

/-- ThreadStateInstructionResults: the last RDSYS selector is 5. -/
theorem wit_thread_state : rFmt ⟨0, 0, 0, 0, 0, 0⟩ false false false false 0 = true ∧ rFmt ⟨0, 1, 0, 0, 0, 0⟩ false true false false 0 = true ∧
    iFmt ⟨3, 0, 0, 0, 0, 5⟩ true false = true ∧ (with0 ready0).dev.partOfCore 0 = some 0 ∧ (with0 ready0).dev.devNum = 5 ∧
    (with0 ready0).dev.domNum = 1 := by decide +kernel

def fetching0 : State := with0 { st := .parkedFetch }
/-- The same package with nothing in the instruction cache. -/
def cold0 : State := { dev := { dev0 with cores := [(0, { core0 ready0 with icache := [] })] } }
/-- A program counter outside what the partition may fetch. -/
def astray0 : State := { dev := { dev0 with cores := [(0, { threads := [(0, { ready0 with pc := 0x3FFFFFFFFFFF8 })] })] } }

/-- IssueAndFetchRules -/
theorem wit_fetch : x0.ok = true ∧ fetching0.dev.live = true ∧ (fetching0.dev.thr x0).st = .parkedFetch ∧ fetching0.dev.coreRuns 0 = true ∧
    fetching0.dev.linePoisoned (128 * lineOf (fetching0.dev.thr x0).pc) = false ∧
    coreInstr (fldN (0xF : Word) 0 8) x0 (insnOf 0xF) = none ∧ coreInstr 2 x0 i3 = some (.add x0 i3) ∧
    (cold0.dev.thr x0).st = .ready ∧ cold0.dev.coreRuns 0 = true ∧ cold0.dev.fetchOk 0 (cold0.dev.thr x0).pc.toNat = true ∧
    (cold0.dev.core 0).icache.contains (lineOf (cold0.dev.thr x0).pc) = false ∧
    astray0.dev.coreRuns 0 = true ∧ astray0.dev.fetchOk 0 (astray0.dev.thr x0).pc.toNat = false ∧ (fetching0.dev.thr x0).st ≠ .ready := by decide +kernel

/-- IssueAndFetchRules: reserved fields and bad targets; RDSYS selector 6 is the first that is not defined. -/
theorem wit_reserved : rFmt ⟨3, 1, 2, 1, 0, 0⟩ true true true false 0 = false ∧ rFmt ⟨3, 1, 2, 0, 2, 0⟩ true true true false 1 = false ∧
    iFmt ⟨3, 1, 1, 0, 0, 0⟩ true true = false ∧ (4#32).toNat % 8 ≠ 0 ∧ rFmt ⟨1, 0, 0, 0, 0, 0⟩ false false false false 0 = false ∧
    6 ≤ (6#32).toNat ∧ ((((with0 ready0).dev.thr x0).rg 1).toNat + (4#32).toNat) % 8 ≠ 0 := by decide +kernel

/-- g1 as given. -/
def at1 (a : Word) : State := with0 { st := .ready, g := [(1, a), (2, 7), (3, 0)] }
def own0 : State := at1 0x020000000000
def last0 : State := at1 0x0200017FFE00

/-- LocalLoadsAndStores: the first and the last 512 bytes of the populated core store, every size at its upper bound. -/
theorem wit_local : own0.dev.issues x0 [1] = true ∧ own0.dev.issues x0 [1, 2] = true ∧ ownStore x0 0x020000000000 = some 0 ∧
    own0.dev.addrFault x0 0x020000000000 8 true true = none ∧ own0.dev.addrFault x0 0x020000000000 512 false true = none ∧
    own0.dev.storeBadAt 0 0 512 = false ∧ own0.dev.storeWriteBad 0 0 512 (2 ^ 512 - 1) = false ∧
    ownStore x0 0x0200017FFE00 = some 0x17FFE00 ∧ last0.dev.addrFault x0 0x0200017FFE00 512 false true = none ∧
    last0.dev.addrFault x0 0x0200017FFE00 64 false true = none ∧ last0.dev.storeBadAt 0 0x17FFE00 512 = false := by decide +kernel

/-- OffCoreAccessesAndAddressFaults: the store of core 1, and an odd address. -/
theorem wit_off_core : (at1 0x020002000000).dev.issues x0 [1, 2] = true ∧ ownStore x0 0x020002000000 = none ∧
    (at1 0x020002000000).dev.addrFault x0 0x020002000000 8 true true = none ∧
    (at1 0x020002000000).dev.addrFault x0 0x020002000000 512 false true = none ∧
    (at1 0x030000000000).dev.addrFault x0 0x030000000000 8 true true = none ∧
    (at1 3).dev.addrFault x0 3 2 true true = some E_ADDR_ALIGN ∧ (at1 3).dev.addrFault x0 3 512 false true = some E_ADDR_ALIGN ∧
    (at1 0x020001800000).dev.addrFault x0 0x020001800000 8 false true = some E_STORE_UNMAPPED ∧ (3#64).toNat % 8 ≠ 0 := by decide +kernel

/-- RemoteInstructionsUseThePort -/
theorem wit_remote : (at1 256).dev.issues x0 [1] = true ∧ (at1 256).dev.issues x0 [1, 2, 3] = true ∧ (at1 256).dev.issues x0 [1, 3] = true ∧
    rFmt ⟨4, 1, 0, 0, 0, 0⟩ true true false false 0 = true ∧ rFmt ⟨4, 1, 0, 0, 4, 0⟩ true true false false 4 = true ∧ 256 % (16 * 2 ^ 4) = 0 ∧
    rFmt ⟨4, 1, 2, 3, 0, 0⟩ true true true true 0 = true ∧ rFmt ⟨0, 1, 2, 0, 4, 0⟩ false true true false 4 = true ∧
    rFmt ⟨0, 1, 2, 3, 0, 0⟩ false true true true 0 = true ∧ raxaOk (((at1 256).dev.thr x0).rg 3) = true := by decide +kernel

/-- A port entry of thread `thr`. -/
def ent0 (thr : Nat) (k : EntryKind) (remote : Bool) : PEntry :=
  { thr, kind := k, epoch := 0, orphan := false, accepted := false, sent := true, ord := 0, remote
    pkt := dev0.thrPkt x0 .load 0 0 8, attempts := 1, timedOut := false, group := none, queue := 0, wseq := 0 }
/-- 64 entries of thread 0: its limit (R160). -/
def full0 : Dev := { dev0 with cores := [(0, { core0 ready0 with port := (List.range 64).map fun i => (i, some (ent0 0 .posted false)) })] }

/-- RemoteInstructionsUseThePort: with and without a free entry. -/
theorem wit_port : dev0.freeEntry 0 0 none = some 0 ∧ full0.freeEntry 0 0 none = none := by decide +kernel

/-- SyncFenceAndQueueInstructions -/
def sync0 : State := at1 0x030000000008
def out0 (t : Thread) (k : EntryKind) (remote : Bool) : State :=
  { dev := { dev0 with cores := [(0, { core0 t with port := [(0, some (ent0 0 k remote))] })] } }
theorem wit_sync : sync0.dev.issues x0 [1, 2, 3] = true ∧ rFmt ⟨0, 1, 2, 0, 7, 0⟩ false true true false 7 = true ∧
    sync0.dev.addrFault x0 0x030000000008 8 true false = none ∧ hgaFault 0x030000000008 8 = none ∧ sync0.dev.outstanding x0 false = false ∧
    (out0 ready0 .posted false).dev.outstanding x0 false = true ∧
    place (0x030000000008#64).toNat = .ctr 1 ∧ reached (sync0.dev.ctr 1) 0 = true ∧ reached (sync0.dev.ctr 1) 7 = false ∧
    fldN ((sync0.dev.thr x0).rg 3) 16 48 = 0 := by decide +kernel
def swaits0 : State := with0 { st := .parkedSync, wait := .sync 1 7 4 10 }
def post0 : State := at1 0
def status0 : State := out0 { st := .parkedAccess, wait := .qpost 0 5 4 } .qpost false
theorem wit_fence_qpost : swaits0.dev.live = true ∧ (swaits0.dev.thr x0).st = .parkedSync ∧ (swaits0.dev.thr x0).wait = .sync 1 7 4 10 ∧
    rFmt ⟨4, 0, 0, 0, 1, 0⟩ true false false false 1 = true ∧ (out0 ready0 .posted false).dev.outstanding x0 true = true ∧
    (out0 ready0 .posted false).dev.issues x0 [] = true ∧
    (with0 { st := .ready, g := [(2, 0x020000000040)] }).dev.issues x0 [1, 2] = true ∧ ownStore x0 0x020000000040 = some 64 ∧
    dev0.storeBadAt 0 64 64 = false ∧ (status0.dev.thr x0).st = .parkedAccess ∧ status0.dev.qpostCode x0 0 = E_OK ∧
    (((status0.dev.postEntry 0 5).upd x0 fun t => t.wg 4 (E_OK.setWidth 64)).pents 0).find? (fun p => p.2.thr == 0 && p.2.kind == .qpost) =
      some (0, ent0 0 .qpost false) := by decide +kernel

/-! ### Witnesses: replies, watchdogs, resets, work items, vectors -/

/-- RepliesAndPortEvents: one outstanding entry and its reply. -/
def reply0 (k : EntryKind) (poison : BitVec 16) : Dev :=
  { dev0 with cores := [(0, { core0 { st := .parkedAccess } with port := [(255, some (ent0 0 k true))], replies := [⟨255, [1, 0, 0, 0, 0, 0, 0, 0], poison, E_OK⟩] })] }
theorem wit_reply : (reply0 .posted 0).coreBusy 0 = false ∧ (reply0 .posted 0).live = true ∧
    ((reply0 (.load (.g 3 8 false)) 1).core 0).replies.find? (·.entry == 255) = some ⟨255, [1, 0, 0, 0, 0, 0, 0, 0], 1, E_OK⟩ ∧
    (reply0 (.load (.g 3 8 false)) 0).pent 0 255 = some (ent0 0 (.load (.g 3 8 false)) true) ∧
    (reply0 (.atomic 3) 0).pent 0 255 = some (ent0 0 (.atomic 3) true) ∧ (ent0 0 (.atomic 3) true).orphan = false := by decide +kernel
def port0 (stash : Option Stash) : State := out0 { st := .parkedPort, stash } .posted true
theorem wit_port_events : ((port0 none).dev.thr x0).st = .parkedPort ∧ (port0 none).dev.coreRuns 0 = true ∧
    ((port0 none).dev.pents 0).find? (fun p => p.2.thr == 0 && !p.2.accepted) = some (0, ent0 0 .posted true) ∧
    ((port0 none).dev.thr x0).blocked = [] ∧ ((port0 (some ⟨0x41, i3⟩)).dev.thr x0).stash = some ⟨0x41, i3⟩ ∧
    ((port0 (some ⟨0x41, i3⟩)).dev.freeEntry 0 0 none).isSome = true := by decide +kernel

def work0 : Work := ⟨0, 0, 0, false⟩
/-- ThreadWatchdogsAndResets -/
theorem wit_watchdogs : ((with0 { st := .ready, work := some work0 }).dev.thr x0).work.isSome = true ∧ dev0.coreBusy 0 = false ∧
    dev0.corePortOk 0 0 = true ∧ dev0.corePortOk 1 0 = false ∧ dev0.coreUsable 0 = true ∧ (with0 ready0).dev.outstanding x0 false = false ∧
    ((out0 { st := .resetting } .posted false).dev.thr x0).st = .resetting ∧ (out0 { st := .resetting } .posted false).dev.outstanding x0 false = true ∧
    (⟨31, 15⟩ : Tid).ok = true := by decide +kernel

def entry0 : QEntry := ⟨0, BitVec.ofNat 512 (1 + 0x020000000000 * 2 ^ 64 + 9 * 2 ^ 128), false⟩
def queued0 : Dev := { dev0 with host := { queues := [(0, { entries := [entry0], seq := 1 })] } }
/-- WorkItemsAndLegsStart: the next entry of compute queue 0. -/
theorem wit_compute : queued0.nextStart 0 = some entry0 ∧ queued0.ready = true ∧ queued0.readyOn 0 0 = true ∧ queued0.queueFirst 0 0 = true ∧
    (queued0.emptyThreads 0 false).contains 11 = true ∧ queued0.tests.running = [] ∧ eEntry entry0.e % 8 = 0 ∧ eEntry entry0.e < 2 ^ 50 := by
  decide +kernel

def grp0 : Group :=
  { queue := 3, group := 0, core := 0, part := 0, ctx := 0, rank := 0, p := 2, mtab := 0, cbase := 16, ccount := 2, gcb := 0, credits := 4
    timeout := 1, st := .running, inst := 1, head := some 0, leg := 0, legs := 1, legRunning := false, cause := E_OK, tokensIn := 0, gen := 0
    destroying := none, raised := none }
def legEntry0 : QEntry := ⟨0, BitVec.ofNat 512 (2 + 0x020000000000 * 2 ^ 256), true⟩
/-- A group whose entry has its gate table at the start of the core store: `gate` is the gate word of its leg. -/
def legs0 (gate : Word) : Dev :=
  { dev0 with coll := { groups := [(3, some grp0)] }, host := { queues := [(3, { entries := [legEntry0], seq := 1 })] }
              cores := [(0, { store := setBytes [] 0 (toBytes 8 gate.toNat) })] }
theorem wit_legs : (legs0 0x100).group 3 = some grp0 ∧ (legs0 0x100).groupHead 3 grp0 = some legEntry0 ∧ (legs0 0x100).legReady 3 = true ∧
    (legs0 0x100).legFirst 3 0 = true ∧ ((legs0 0x100).emptyThreads 0 true).contains 15 = true ∧
    (legs0 0x10200).gateWord grp0 legEntry0.e = some 0x10200 ∧ (0x10200#64).getLsbD 9 = true ∧
    (legs0 0x10200).gateHolds grp0 legEntry0.e = false ∧ grp0.legRunning = false ∧ grp0.st ≠ .aborted := by decide +kernel

/-- VectorResults: TY 2 and 3 are the last types of their rows; slice, FN and TY at their bounds. -/
theorem wit_vector : vFmt ⟨1, 2, 3, 0, 0, 0x27⟩ true false false true 2 fn0 = true ∧ vFmt ⟨1, 2, 3, 0, 0, 0x30⟩ true false false true 3 fn0 = true ∧
    vType ⟨1, 2, 3, 0, 0, 0x30⟩ = .int32 ∧ vFmt ⟨1, 2, 3, 4, 0, 0x20⟩ true true false true 2 fn0 = true ∧
    vFmt ⟨7, 2, 3, 0, 4, 0x30⟩ true false false true 3 (· < 5) = true ∧ vFmt ⟨1, 2, 0, 0, 0, 0x20⟩ false false false true 2 fn0 = true ∧
    vscaleEmax 8 = some 4 ∧ vFmt ⟨1, 2, 0, 0, 8, 0x320⟩ false false true false 2 (fun n => (vscaleEmax n).isSome) = true ∧
    vscaleBlocks ⟨1, 2, 0, 0, 8, 0x120⟩ * (vSlice ⟨1, 2, 0, 0, 8, 0x120⟩ + 1) ≤ 16 ∧
    vFmt ⟨1, 2, 3, 0, 0, 0x07⟩ true false false true 0 fn0 = true ∧ vcvtDst 1 = some (.bf16, false, false) ∧
    vFmt ⟨1, 2, 0, 0, 1, 0x00⟩ false true true true 9 (fun _ => true) = true ∧ vcvtOk ⟨1, 2, 0, 0, 1, 0x00⟩ = true ∧
    vFmt ⟨1, 1, 0, 0, 0, 0x90⟩ false false false false 9 fn0 = true ∧ vFmt ⟨1, 2, 2, 0, 0, 0x00⟩ true false false false 9 fn0 = true ∧
    fldN (7 : Word) 0 10 < (vType ⟨1, 2, 2, 0, 0, 0x00⟩).count := by decide +kernel

/-- MaskedAndPredicateElements -/
theorem wit_masked : (127 < Ty.fp32.count ∧ Ty.fp32.count * Ty.fp32.bits ≤ 4096) ∧ rFmt ⟨7, 7, 7, 0, 0, 0⟩ true true true false 0 = true ∧
    rFmt ⟨7, 7, 0, 0, 0, 0⟩ true true false false 0 = true ∧ Ty.e3m2.count * Ty.e3m2.bits = 4080 := by decide +kernel

/-! ### Witnesses: matrix arrays -/

/-- The descriptor of an MLOAD of no rows and one column, with a row pitch of 32 bytes. -/
def mloadDesc : List Byte := toBytes 64 (2 ^ 34 + 32 * 2 ^ 192)
/-- A descriptor at the start of the core store. -/
def desc0 (b : List Byte) (m : MArray) (t : Thread) : State :=
  { dev := { dev0 with cores := [(0, { core0 t with store := setBytes [] 0 b, a1 := m })] } }
def arrThr0 : Thread := { st := .ready, g := [(1, 0x020000000000)] }
def iArr : Insn := ⟨4, 1, 0, 0, 1, 0⟩
/-- ArrayQueueEntry: array 1, three instructions ahead at the most. -/
theorem wit_array_queue : let s := desc0 mloadDesc {} arrThr0
    s.dev.issues x0 [1] = true ∧ rFmt iArr true true false false 1 = true ∧ s.dev.arrFault x0 .mload iArr = none ∧
    s.dev.arrFault x0 .mdrv iArr = none ∧ (s.dev.arr 0 1).st = .ready ∧ (s.dev.arr 0 1).queue = [] ∧ s.dev.windowOpen 2 1 = false ∧
    descAt x0 ((s.dev.thr x0).rg 1) = some 0 ∧ s.dev.storeBadAt 0 0 64 = false ∧
    mxCheck 0 .mload (mxDesc (getBytes (s.dev.core 0).store 0 64)) = E_OK ∧
    mxCheck 0 .mload (mxDesc (toBytes 64 0)) ≠ E_OK ∧ (mxDesc (toBytes 64 0)).sync = 0 := by decide +kernel
def insn0 (kind : ArrKind) (shape : Word) : ArrInsn :=
  { id := 0, kind, desc := { mxDesc mloadDesc with shape, src := 0x020000000000 }, thr := 0, epoch := 0, gd := 4, ctl := 0, started := false
    code := E_OK, done := false, fed := 0, rows := 0, nan := false, inf := false, out := 0, tsync := 0, pipe := [], lastFeed := 0, ctx := 0
    job := 0, gen := 0, segs := (0, 0), slots := [] }
def arr0 (k : ArrInsn) (m : MArray := {}) : Dev :=
  { dev0 with cores := [(0, { core0 { st := .parkedArray, stash := some ⟨0xC0, iArr⟩ } with a1 := { m with queue := [k] } })] }
theorem wit_array_full : (desc0 mloadDesc { queue := List.replicate 4 (insn0 .mload 0) } arrThr0).dev.arrFault x0 .mload iArr = none ∧
    4 ≤ ((desc0 mloadDesc { queue := List.replicate 4 (insn0 .mload 0) } arrThr0).dev.arr 0 1).queue.length ∧
    (desc0 mloadDesc { st := .retired } arrThr0).dev.arrFault x0 .mload iArr = some E_ARRAY_ABSENT ∧
    ((arr0 (insn0 .mload 0)).thr x0).stash = some ⟨0xC0, iArr⟩ ∧ ((arr0 (insn0 .mload 0)).thr x0).st = .parkedArray ∧
    (arr0 (insn0 .mload 0)).coreRuns 0 = true := by decide +kernel

/-- N = 1, K = 1, one row. -/
def shape1 : Word := BitVec.ofNat 64 (2 ^ 24 + 2 ^ 34)
/-- MloadAndMstreamStart -/
theorem wit_array_start : let k := insn0 .mload shape1
    ((arr0 k).arr 0 1).queue.find? (!·.started) = some k ∧ ((arr0 k).arr 0 1).mayStart k = true ∧ (arr0 k).coreBusy 0 = false ∧
    ((arr0 k).arr 0 1).shadow = none ∧ (arr0 k).storeBadAt 0 0 (weightExtent k.desc.fmt k.desc.k k.desc.n k.desc.srcPitch.toNat) = false ∧
    ((arr0 k { shadow := some {} }).arr 0 1).shadow.isSome = true := by decide +kernel
theorem wit_mstream_start : let k := insn0 .mstream shape1
    ((arr0 k).arr 0 1).mayStart k = true ∧ ((arr0 k).arr 0 1).wvalid = false ∧
    mxPair ({ fmt := 6 } : Weights).fmt k.desc.fmt = false ∧ mxPair ({} : Weights).fmt k.desc.fmt = true ∧ ({} : Weights).k < k.desc.k ∧
    k.desc.k ≤ ({ k := 1, n := 1 } : Weights).k ∧ k.desc.n ≤ ({ k := 1, n := 1 } : Weights).n := by decide +kernel

/-- StreamRowsAndFeedCycles, and the power steps 0 and 24. -/
theorem wit_stream_rows : let k : ArrInsn := { insn0 .mstream shape1 with started := true }
    ((arr0 k { wvalid := true }).arr 0 1).queue.find? (fun k => k.kind == .mstream && k.started && !k.done) = some k ∧
    (arr0 k).storeBadAt 0 (k.desc.src.toNat - 0x020000000000) (mxBytes k.desc.fmt k.desc.k) = false ∧ (arr0 k).storeBadAt 0 0 0 = false ∧
    ({} : MArray).feedCycle 24 0 = 24 ∧ ({} : MArray).feedCycle 24 1 = 25 ∧ ({ window := some (0, 24) } : MArray).feedCycle 1 0 = 25 := by decide +kernel

/-- DrainRows: drain row 1,023 is the last. -/
theorem wit_drain_rows : let k : ArrInsn := { insn0 .mstream shape1 with started := true, pipe := [⟨1023, 0, [0x3F800000]⟩] }
    ((arr0 k).arr 0 1).queue.find? (fun k => k.kind == .mstream && !k.pipe.isEmpty) = some k ∧ k.desc.out = 0 ∧
    ((((arr0 k).arr 0 1).nextFeed ((arr0 k).powerStep 0)).any fun u => decide (u ≤ 526 + 4)) = true ∧
    (insn0 .mstream (shape1 + BitVec.ofNat 64 (2 ^ 59))).desc.out ≠ 0 ∧ (arr0 k).storeWriteBad 0 0 4 15 = false := by decide +kernel

/-- ArrayCompletionWatchdogAndReset: 17 columns are two operations for each row. -/
theorem wit_array_end : let k : ArrInsn := { insn0 .mload shape1 with started := true, done := true }
    let r : ArrInsn := { insn0 .mracc (BitVec.ofNat 64 (17 * 2 ^ 34)) with started := true }
    ((arr0 k).arr 0 1).queue.find? (·.finished) = some k ∧
    ((arr0 r).arr 0 1).queue.find? (fun k => k.kind == .mracc && k.started && !k.done) = some r ∧ ((arr0 r).arr 0 1).eccBad.contains 0 = false ∧
    ((arr0 r).arraySend 0 1 0 false { (arr0 r).arrayPkt r .accumulate 2 256 256 with acc := some (raccPayload {} r.desc 0) }).isSome = true ∧
    (r.fed + 1) % ((r.desc.n + 15) / 16) ≠ 0 ∧ ((arr0 k).arr 0 1).queue.any (·.started) = true ∧
    8 ≤ (((arr0 k { errTimes := List.replicate 8 0 }).arr 0 1).errTimes.filter fun t => decide ((arr0 k).clock < t + 1000)).length ∧
    ((arr0 k { st := .reset }).arr 0 1).st = .reset ∧ ((arr0 k { st := .reset }).arr 0 1).failures = [] := by decide +kernel

/-! ### Witnesses: HBM -/

def memReq (kind : MKind) : MemReq :=
  { kind, off := 64, size := if kind = .read then 512 else if kind = .write then 32 else 8, mask := 1, data := List.replicate 32 7, op1 := 1
    op2 := 2, acc := none, poison := 0, wmask := 0, clear := false, anchor := 12, part := some 0, src := .core 0 0, lead := 0, len := if kind = .read then 512 else if kind = .write then 32 else 8, riders := [], tag := 1 }
/-- Channel 30 of stack 31, as given. -/
def chan0 (c : Chan) (st : Stack := {}) : Dev := { dev0 with mem := { stks := [(31, { st with chans := [(30, c)] })], poison := [] } }
def hbm0 (kind : MKind) : Dev := chan0 { queue := [memReq kind] }
/-- The same with a poisoned word. -/
def sick0 (kind : MKind) : Dev := { hbm0 kind with mem := { (hbm0 kind).mem with poison := [memKey 31 30 64 / 32] } }
/-- HbmRequestsAreServed -/
theorem wit_hbm : ((hbm0 .read).chan 31 30).queue[0]? = some (memReq .read) ∧ (hbm0 .read).mayServe 31 30 0 (memReq .read) = true ∧
    (hbm0 .write).mayServe 31 30 0 (memReq .write) = true ∧ ((hbm0 .write).chan 31 30).st ≠ .dead ∧
    (partWords 64 32 1).any ((hbm0 .write).poisoned 31 30 ·) = false ∧ (hbm0 .swap).mayServe 31 30 0 (memReq .swap) = true ∧
    (hbm0 .swap).poisonBits 31 30 (memReq .swap) = 0 := by decide +kernel
/-- AccumulationIsExact: a clean and a poisoned line. -/
theorem wit_accum : (hbm0 .accum).mayServe 31 30 0 (memReq .accum) = true ∧ (hbm0 .accum).poisonBits 31 30 (memReq .accum) = 0 ∧
    (sick0 .accum).mayServe 31 30 0 (memReq .accum) = true ∧ (sick0 .accum).poisonBits 31 30 (memReq .accum) ≠ 0 := by decide +kernel
/-- AccumulationIsExact: a NaN of every type, one that fits and one that does not, at the bounds of the anchor. -/
theorem wit_contrib : contrib 0 0x7FC00000 = none ∧ contrib 3 0x7F = none ∧ contrib 0 0x3F800000 = some (false, 2 ^ 23, -23) ∧
    Memory.wf dev0.mem.data = true := by decide +kernel
theorem wit_contrib_range : ((2 ^ 23 : ℕ) : ℚ) * (2 : ℚ) ^ (-23 : ℤ) < (2 : ℚ) ^ ((511 : ℤ) + 14) ∧
    (2 : ℚ) ^ ((-512 : ℤ) + 14) ≤ ((2 ^ 23 : ℕ) : ℚ) * (2 : ℚ) ^ (-23 : ℤ) := by
  refine ⟨?_, ?_⟩ <;> norm_num
  · exact one_lt_pow₀ (by norm_num) (by norm_num)
  · exact inv_le_one_of_one_le₀ (one_le_pow₀ (by norm_num))
/-- InterleaveIsOneToOne: the first and the last granule of the set. -/
theorem wit_interleave : dev0.setAt 0 = some (⟨true, 0, 0, 2 ^ 30, 0⟩, 0) ∧ dev0.chanOf 0 = some (0, 0, 0) ∧
    dev0.setAt (2 ^ 30 - 1) = some (⟨true, 0, 0, 2 ^ 30, 0⟩, 0) ∧ (dev0.chanOf (2 ^ 30 - 1)).isSome = true := by decide +kernel

def turns0 (c : Chan) (held : Bool) : Dev :=
  { chan0 c with img := { idev with turns := [(31, 30)] }, mem := { (chan0 c).mem with held } }
/-- ChannelMaintenance: retraining and holds. -/
theorem wit_retrain : (turns0 {} false).chanThere 31 = true ∧ ((turns0 {} false).stk 31).inReset = false ∧ ((turns0 {} false).chan 31 30).st = .active ∧
    (turns0 {} true).ready = true ∧ (turns0 {} true).img.turns[(turns0 {} true).img.turnAt]? = some (31, 30) ∧ (turns0 {} true).mem.held = true ∧
    (turns0 {} false).mem.held = false ∧ ((turns0 {} false).stk 31).selfRefresh = false ∧
    ((chan0 { st := .retraining }).chan 31 30).st = .retraining ∧ ((chan0 { st := .retraining }).chan 31 30).retrainFails = 0 ∧
    ((chan0 { st := .retraining, retrainFails := 1 }).chan 31 30).retrainFails ≠ 0 ∧ fldN (0xFFFF#64) 0 16 ≠ 0 ∧ fldN (0x10000#64) 0 16 = 0 ∧
    ((turns0 {} true).chan 31 30).deferred = false ∧ ((turns0 { deferred := true } true).chan 31 30).deferred = true ∧
    ((turns0 { deferred := true } true).chan 31 30).st ≠ .migrating ∧
    (turns0 {} true).pow.lat < 3 ∧ 3 ≤ ({ turns0 {} true with pow := { lat := 4 } } : Dev).pow.lat ∧
    ((turns0 {} false).modStk 31 fun b => { b with inReset := true }).stk 31 = { (turns0 {} false).stk 31 with inReset := true } := by decide +kernel
/-- ChannelMaintenance: scrubs, migration, the command watchdog. -/
theorem wit_channel : (chan0 {}).poisoned 31 30 (chanWords - 1) = false ∧ fldN ((chan0 { ceTimes := List.replicate 512 0 }).migCtl 31) 0 16 ≤
      (chan0 { ceTimes := List.replicate 512 0 }).ceHour 31 30 ∧ (chan0 {}).ready = true ∧ (chan0 {}).stackFitted 31 = true ∧
    ((chan0 {}).stk 31).migStart = none ∧ (chan0 {}).stackPortOk 0 31 = true ∧ (chan0 {}).stackPortOk 1 31 = false ∧
    ((chan0 {} { migrating := some (30, 99) }).stk 31).migrating = some (30, 99) ∧ ((hbm0 .read).chan 31 30).queue ≠ [] ∧
    ((hbm0 .read).chan 31 30).wdogAt = none ∧ ((chan0 { wdogAt := some 0 }).chan 31 30).wdogAt = some 0 ∧ (chan0 {}).clock < 0 + 1000 ∧
    ((chan0 {}).stk 31).standbyFree = true ∧ ((chan0 {} { standbyFree := false }).stk 31).standbyFree = false := by decide +kernel

/-- SchedulerChoosesRoundRobin: the last thread of core 0, reserved or not, after a turn of its own and after two in a row. -/
theorem wit_scheduler : ((List.range 16).filter fun _ => false) = [] ∧ ((List.range 16).filter fun t => t == 15 || t == 0) ≠ [] ∧
    dev0.reserved ⟨0, 15⟩ = true ∧ dev0.reserved ⟨0, 0⟩ = false := by decide +kernel

/-! ### Witnesses: the start, the mailbox, registers -/

def rec0 : BoardRecord :=
  { tags := 0x03 :: requiredTags 0x7140, serial := 1, seq := 1, cores := 0, stackMap := 0, lanes := [], spareRows := [], stackRepairs := []
    chanExcl := [], lambdas := [], trim := [], oscTrim := 0, oscTable := [], sensorTables := [], pufHelper := []
    keyCheck := 0x66687aadf862bd776c8fc18b8e9f8e20, wrappedKey := [], cert := [], floors := [], fromHost := true, digest := 0 }
/-- A copy of the record under a PUF key; the check value of the record is that of the key 0. -/
def copy0 (key : BitVec 256) : RecCopy := ⟨true, key, true, rec0⟩
/-- A start at `step`. -/
def start0 (step : Nat) : Dev :=
  { boot := { powered := true, step, part := 0x7140, epoch := 1, compatClass := 2, steppings := List.replicate 5 (some 0x10) } }
/-- StartGoesThroughItsSteps: each step, and each code that halts it. -/
theorem wit_start : State.reset.dev.boot.powered = false ∧ (start0 1).live = true ∧ (start0 1).boot.halted = false ∧ (start0 1).rcv.hung = false ∧
    (start0 1).boot.signing = none ∧ chooseRecord 0x7140 none none = none ∧ chooseRecord 0x7126 none (some (copy0 1)) = some (copy0 1, true) ∧
    chooseRecord 0x7140 (some { copy0 0 with record := { rec0 with tags := [] } }) none = none ∧ recBound (copy0 1) = false ∧ recBound (copy0 0) = true ∧ compat (start0 4).boot.steppings = .ok 2 ∧
    compat [none, some 0x10, some 0x10, some 0x10, some 0x10] = .error E_DIE_SIDEBAND ∧
    compat [some 0x20, some 0x10, some 0x10, some 0x10, some 0x10] = .error E_DIE_STEP_UNKNOWN ∧
    compat [some 0, some 0x10, some 0x10, some 0x10, some 0x10] = .error E_DIE_STEP_UNSUP ∧
    [40].any (fun r => decide (r < 41) && (start0 4).railThere r) = true ∧ [41].any (fun r => decide (r < 41) && (start0 4).railThere r) = false ∧
    (start0 9).boot.imgWanted = false ∧ (start0 9).checkImage { img0 with sigOk := false } = some (E_IMG_SIGNATURE, 0xFF, 0) ∧
    (start0 9).boot.attnHeld = false := by decide +kernel
/-- The image of the small package passes every check of R118. -/
theorem wit_image : (start0 9).checkImage img0 = none := by decide +kernel

def linked0 (d : Dev) : Dev := { d with host := { d.host with p0 := { d.host.p0 with up := true } } }
def both0 (step : Nat) : Dev := { start0 step with boot := { (start0 step).boot with perst0 := true, perstBoth := true, halted := true } }
/-- ConfigurationPerstAndMailbox -/
theorem wit_perst : ((linked0 (start0 2)).hport 0).up = true ∧ (start0 2).perst 0 = false ∧ (start0 2).pinsTaken = false ∧
    (start0 2).boot.perstBoth = false ∧ (both0 2).boot.perstBoth = true ∧ (both0 2).perst 1 = false ∧ (both0 2).live = true ∧
    (both0 2).boot.halted = true := by decide +kernel
def mbox0 (step : Nat) (m n : Mbox) : Dev :=
  { start0 step with
    boot := { (start0 step).boot with halted := decide (step = 2), code := if step = 2 then E_BOOT_FW_INVALID else E_OK, imgWanted := true }
    host := { p0 := { mbox := m }, p1 := { mbox := n } }, csr := [(mboxBlock 0 * 2 ^ 20 + 8, 0x800000)] }
theorem wit_mailbox : ((mbox0 2 {} { busy := true }).hport 1).mbox.busy = true ∧ (mbox0 2 {} {}).wantsFw 0 = true ∧
    (mbox0 2 {} {}).mboxArgs 0 0x800000 = true ∧ (mbox0 9 {} {}).wantsImg = true ∧ (mbox0 9 {} {}).mboxArgs 0 0x2000000 = true ∧
    (mbox0 9 {} {}).wantsFw 0 = false ∧ (mbox0 2 {} {}).wantsImg = false ∧ ((mbox0 2 { busy := true, kind := 1 } {}).hport 0).mbox.kind = 1 ∧
    ((mbox0 9 { busy := true, kind := 2 } {}).hport 0).mbox.busy = true ∧ ((mbox0 9 { busy := true, kind := 2 } {}).hport 0).mbox.kind = 2 := by
  decide +kernel

/-- RegisterWrites: a plain register by both sizes, a core block of the other port, the last doorbell bytes of a queue, event counters. -/
theorem wit_csr : hubPlain (0x704 / 8 * 8) = some (0xFF, 0x14) ∧ 0x704 % 4 = 0 ∧ 0x700 % 8 = 0 ∧ dev0.coreOn 31 = true ∧ dev0.corePortOk 0 31 = false ∧
    dev0.doorOpen 0 0 = true ∧ 0x3C + 4 ≤ 0x40 ∧ dev0.bankShape 82 = some (5, 8) ∧ dev0.bankPortOk 0 82 = true ∧
    sourceOk 5 (dev0.boot.compatClass == 2) (fldN (0x66 &&& selMask) 0 8) = true ∧ dev0.bankShape 36 = some (3, 8) ∧
    dev0.bankPortOk 0 36 = false := by decide +kernel

/-! ### Witnesses: measurement, tests, die-to-die links, resets -/

/-- An entry of management queue `q` at its head: the command, and the bytes from offset 32 on. -/
def entryOf (cmd ops : Nat) : Entry := BitVec.ofNat 512 (5 + cmd * 2 ^ 48 + ops * 2 ^ 256)
def mgmt0 (q cmd ops : Nat) (d : Dev := dev0) : Dev :=
  { d with host := { d.host with queues := [(q, { entries := [⟨0, entryOf cmd ops, false⟩], seq := 1 })] } }
/-- The same with the entry started. -/
def run0 (q cmd ops : Nat) (d : Dev := dev0) : Dev := (mgmt0 q cmd ops d).markStarted q 0
theorem wit_runs : (mgmt0 2 3 0).runsMgmt 2 3 (entryOf 3 0) (run0 2 3 0) := ⟨by decide +kernel, _, _, rfl, rfl⟩

def signing0 (n : Nat) (key : Bool) : Dev :=
  { dev0 with boot := { boot0 with keyOk := key, signing := if n = 0 then none else some (⟨.queue 2, 0, 0, 0⟩, 0), quotes := List.replicate (n - 1) ⟨.queue 2, 0, 0, 0⟩ } }
/-- QuotesAndTheLog: no signature in progress, and one with 15 and with 16 quotes waiting. -/
theorem wit_quote : (mgmt0 2 3 0).mgmtHead 2 3 = some (entryOf 3 0) ∧ (mgmt0 2 2 0).mgmtHead 2 2 = some (entryOf 2 0) ∧
    ((mgmt0 2 2 0).queue 2).entries = [⟨0, entryOf 2 0, false⟩] ∧ (signing0 0 false).boot.keyOk = false ∧ (signing0 16 true).boot.signing.isSome = true ∧
    (signing0 16 true).boot.quotes.length < 16 ∧ 16 ≤ (signing0 17 true).boot.quotes.length ∧ (signing0 0 true).boot.signing = none ∧
    (signing0 0 true).boot.quotes = [] ∧ (signing0 1 true).boot.signing = some (⟨.queue 2, 0, 0, 0⟩, 0) ∧ dev0.boot.log.length < 4096 := by
  decide +kernel

def tests0 (t : Tests) : Dev := { dev0 with tests := t }
/-- TestRequestsAndGrants, AbsentTestUnitsAndForeignGrants: core 31 belongs to partition 1. -/
theorem wit_tests : dev0.testUnit (fldN (0x1F01#64) 0 3) (fldN (0x1F01#64) 8 10) = true ∧ dev0.testPending 1 31 = false ∧
    (tests0 { pending := [⟨1, 31⟩] }).testPending 1 31 = true ∧ dev0.testUnit (fldN (0x2001#64) 0 3) (fldN (0x2001#64) 8 10) = false ∧
    (dev0.testOwners (fldN (0x100001F01#64) 0 3) (fldN (0x100001F01#64) 8 10)).any (dev0.portOf · == 1) = true ∧ fldN (0x100001F01#64) 32 16 ≠ 0 ∧
    (dev0.testOwners 1 31).any (dev0.portOf · == 0) = false ∧ (mgmt0 2 4 0x10001).mgmtHead 2 4 = some (entryOf 4 0x10001) ∧
    ebytes (entryOf 4 0x10001) 32 1 = 1 ∧ ebytes (entryOf 4 0x10001) 34 2 = 1 ∧ (run0 2 4 0x10001).testUnit 1 1 = true ∧
    (run0 2 4 0x10001).issHfm (.queue 2) = true ∧ (run0 2 4 0x200001).testUnit 1 32 = false ∧
    (mgmt0 10 5 0x10001).mgmtHead 10 5 = some (entryOf 5 0x10001) ∧
    (run0 10 5 0x1F0001).testIssuerOwns (.queue 10) 1 31 = true ∧ (run0 10 5 0x10001).testIssuerOwns (.queue 10) 1 1 = false := by decide +kernel
theorem wit_test_runs : (tests0 { pending := [⟨1, 31⟩] }).testRunning 1 31 = false ∧ (tests0 { pending := [⟨1, 31⟩] }).testIdle 1 31 = true ∧
    (tests0 { pending := [⟨1, 31⟩] }).testHeld 1 31 = false ∧
    (tests0 { grants := [(5, 111, 1)] }).testGranted 5 111 = true ∧ (tests0 { running := [⟨5, 111, true⟩] }).testRunning 5 111 = true ∧
    dev0.stackFitted 32 = false ∧ dev0.coreUsable 32 = false ∧ linkOk 0x16 = false ∧ dev0.engFitted 14 = false := by decide +kernel

/-- Link 0 with bundle 27 of direction 1 as given. -/
def d2d0 (l : DLink) (b : Bundle := {}) : Dev := { dev0 with d2d := { links := [(0, { l with bundles := [(32 + 27, b)] })] } }
/-- D2dLinksInService: each clause; lane 67 with 16 and with 17 errors within 1 ms. -/
theorem wit_d2d : linkOk 0 = true ∧ ((d2d0 {} { st := .disabled }).bundle 0 1 27).st ≠ .active ∧ (d2d0 {}).testRunning 4 0 = false ∧
    (d2d0 {}).fab.auditing = [] ∧ ([63].all fun i : Nat => decide (i < 64)) = true ∧
    (let d := d2d0 {} { st := .active, mask := BitVec.ofNat 68 (2 ^ 67), errs := [(67, List.replicate 17 0)] }
     (d.bundle 0 1 27).st = .active ∧ d.linkQuiet 0 = false ∧ (d.link 0).maySend 0 1 0 = true ∧
      (d.bundle 0 1 27).mask.getLsbD 67 = true ∧ (d.bundle 0 1 27).laneFails d.clock 67 = true ∧ d.swapDue 0 1 27 67 = true ∧
      ((List.range 68).filter fun i => (0#68).getLsbD i && (d.bundle 0 1 27).mask.getLsbD i) = [] ∧
      ((List.range 68).filter fun i => (BitVec.allOnes 68).getLsbD i && (d.bundle 0 1 27).mask.getLsbD i) ≠ []) ∧
    (d2d0 {} { st := .active, mask := BitVec.ofNat 68 (2 ^ 67), errs := [(67, List.replicate 16 0)] }).swapDue 0 1 27 67 = false ∧
    ((d2d0 {} { st := .swapping }).bundle 0 1 27).st = .swapping ∧
    (start0 1).boot.compatClass = 2 ∧ State.reset.dev.boot.compatClass ≠ 2 ∧
    dev0.d2d.changing.contains 3 = false ∧ (dev0.link 3).down = !true ∧ (({ dev0 with d2d := { viaHub := [3] } } : Dev).d2d.viaHub.contains 3) = true ∧
    ({ dev0 with d2d := { changing := [3] } } : Dev).d2d.changing.contains 3 = true ∧ dev0.crossing 3 = false := by decide +kernel
/-- D2dLinksInService: a sender that has spent its credits. -/
theorem wit_d2d_spent : (({ spent1 := d2dQuota 0 1 } : DLink).maySend 0 1 0) = false := by
  simp [DLink.maySend, DLink.taken, DLink.again, DLink.spent, DLink.rx, DLink.tx]
/-- LaneSwapTakesTheLowestFreeLane, FlitsAreDeliveredInOrder: their clauses at the first and the last lane, before, at and after the next flit. -/
theorem wit_lane_swap : let d := d2d0 {} { st := .active, mask := BitVec.ofNat 68 (2 ^ 64 - 1) }
    let free := fun i => !(d.bundle 0 1 27).mask.getLsbD i && !(d.badLanes 0 1 27).getLsbD i && i != 0
    free 64 = true ∧ (∀ j, j < 64 → free j = false) ∧ (let r : Rx := { next := 5, held := [(7, 0)] }
      4 < r.next ∧ r.next < 6 ∧ r.held.any (·.1 == r.next) = false ∧ r.held.any (·.1 == r.next + 1) = false ∧ ∀ e ∈ r.held, r.next < e.1) := by
  decide +kernel

def reset0 (domain unit : Nat) (d : Dev := dev0) : Dev := { d with rcv := { d.rcv with active := [⟨domain, unit, E_OK, true⟩], go := true } }
/-- D2dRetrains -/
theorem wit_d2d_retrain : fldN (dev0.hub 0x200) 0 8 = 0 ∧ dev0.linkFitted 0 = true ∧ (d2d0 { st := .testing }).d2dBusy = true ∧ dev0.d2dBusy = false ∧
    dev0.endInReset 0 = false ∧ (reset0 3 0).endInReset 0 = true ∧ ((d2d0 { st := .deferred }).link 0).st = .deferred ∧
    agree 0 [] [] = true ∧ agree 0 [] [(0, BitVec.ofNat 68 (2 ^ 64 - 1))] = false ∧ ((d2d0 { st := .agreeing 3, escalated := true }).link 0).escalated = true ∧
    ((d2d0 { st := .agreeing 3 }).link 0).escalated = false ∧ ((d2d0 { held1 := true }).link 0).credHeld 1 = true ∧
    ((d2d0 { held1 := true }).link 0).tx 1 = [] ∧ ((d2d0 { held1 := true }).link 0).credHeld 0 = false ∧ ((d2d0 { tx1 := [(3, 0)] }).link 0).tx 1 ≠ [] ∧
    dev0.testRunning 4 0 = false := by decide +kernel
/-- D2dRetrains: reports of the lane test that agree and that do not, of a link whose dies a mismatch has reset or not. -/
theorem wit_d2d_reports : (∃ d : Dev, (d.link 0).st = .testing ∧ (let r := d.endReports 0 [] [] []; agree 0 r.2.1 r.2.2) = true ∧
      (let r := d.endReports 0 [] [0] []; agree 0 r.2.1 r.2.2 = false ∧ (r.1.link 0).escalated = false)) ∧
    (∃ d : Dev, (d.link 0).st = .testing ∧ (let r := d.endReports 0 [] [0] []; agree 0 r.2.1 r.2.2 = false ∧ (r.1.link 0).escalated = true)) :=
  ⟨⟨d2d0 { st := .testing }, by decide +kernel⟩, ⟨d2d0 { st := .testing, escalated := true }, by decide +kernel⟩⟩
/-- ReplayBufferKeepsFlits: a flit taken up before, one ahead of the next, the next one. -/
theorem wit_replay : let k : DLink := { rx1 := { next := 5, held := [(7, 0)] }, tx1 := [(6, 3)] }
    k.taken 1 4 = true ∧ k.taken 1 7 = true ∧ k.taken 1 6 = false ∧ k.taken 1 5 = false ∧ 5 = (k.rx 1).next ∧
    (∀ e ∈ (k.rx 1).held, 5 + 1 < e.1) ∧ k.again 1 6 = true ∧ k.content 1 6 9 = 3 := by decide +kernel

/-- CoreResets, UnitResets, DeviceResets: each unit at work, in reset and back. -/
theorem wit_core_reset : ({ dev0 with cores := [(0, { resetting := true })] } : Dev).core 0 = { resetting := true } ∧ dev0.inReset 3 0 = false ∧
    dev0.inReset 6 0 = false ∧ ({ dev0 with cores := [(0, { resetting := true })] } : Dev).arraysBack 0 = true ∧
    ({ dev0 with cores := [(0, { threads := [(0, { st := .resetting })], a1 := { st := .reset } })] } : Dev).coreBusy 0 = false := by decide +kernel
theorem wit_unit_reset : dev0.dieReleased 3 = true ∧ (reset0 3 3).inReset 3 3 = true ∧ (reset0 3 3).dieBack 3 = true ∧ (start0 4).dieReleased 3 = false ∧
    (start0 4).inReset 3 3 = false ∧ dev0.stackThere 31 = true ∧ dev0.inReset 4 31 = false ∧ (dev0.stk 31).inReset = false ∧
    (reset0 4 31).inReset 4 31 = true ∧ State.reset.dev.stackThere 32 = false ∧ ((reset0 4 31).link (0x20 + 31)).st = .running ∧
    dev0.engFitted 13 = true ∧ dev0.boot.engsLost.getLsbD 13 = false ∧ dev0.inReset 5 13 = false ∧ (dev0.eng 13).inReset = false ∧
    (reset0 5 13).inReset 5 13 = true ∧
    ({ start0 4 with boot := { (start0 4).boot with part := 0x7126, record := some { copy0 0 with record := { rec0 with stackMap := 1 } } } } : Dev).stackThere
      31 = false := by decide +kernel
theorem wit_device_reset : 3 ≤ ({ dev0 with rcv := { devTimes := [0, 0, 0] } } : Dev).devResets ∧ dev0.rcv.phase = 0 ∧ (reset0 6 0).inReset 6 0 = true ∧
    dev0.rcv.hung = false ∧ ({ dev0 with rcv := { hung := true } } : Dev).rcv.hung = true ∧ dev0.boot.halted = false ∧
    (both0 2).boot.halted = true ∧ (both0 2).live = true := by decide +kernel

/-! ### Witnesses: remote access, contexts, regions, management commands -/

/-- A request of device 7 for job 9 at the address, under key 3. -/
def pkt0 (kind : PKind) (addr : BitVec 50) (key : BitVec 32) : Packet :=
  { kind, ofKind := kind, vc := 0, cls := 0, route := 0, srcDev := 7, srcDom := 1, dstDev := 5, dstDom := 1, ctx := 2, job := 9, gen := 4, seq := 1
    retry := false, key, addr, size := if kind = .load ∨ kind = .store then 512 else 8, code := E_OK, data := [], mask := 0, poison := 0, op1 := 1
    op2 := 2, acc := if kind = .accumulate then some ⟨false, 0, 12, 1, 0, [0x3F800000]⟩ else none }
/-- Context 1023 holds job 9; region 0 is the first 2 MiB, key 3, for loads and stores only or for everything. -/
def ra0 (perm : BitVec 4) (ctx : Nat) (dedup : List Dedup) (st : CtxSt := .opened) : Dev :=
  { dev0 with ra := { ctxs := [(1023, { st, part := 0, job := 9, gen := 4 })], regions := [(0, some ⟨0, 2 ^ 21, 3, perm, 0, ctx, 4⟩)], dedup } }
def open0 : Dev := ra0 15 1023 []
/-- RequestsReachTheIngress -/
theorem wit_ingress : (pkt0 .load 0 3).ok = true ∧ (pkt0 .fetchAdd 504 3).ok = true ∧ open0.forMe (pkt0 .load 0 3) = true ∧
    open0.forMe { pkt0 .load 0 3 with dstDev := 6 } = false ∧
    ((open0.arrived (pkt0 .accumulate 0 3)).combine (pkt0 .accumulate 0 3) 0).2 = true ∧
    ((({ open0 with csr := [(0x800, 1)] } : Dev).arrived (pkt0 .accumulate 0 3)).combine (pkt0 .accumulate 0 3) 0).2 = false := by decide +kernel

def dd0 (prior : Option Word) : Dedup := ⟨7, 2, 1, 9, prior, []⟩
/-- TargetChecks: each check of a request fails alone, and passes; the generation differs by 2,048 and by 2,047. -/
theorem wit_target : State.reset.dev.jobCtx 9 = none ∧ open0.jobCtx 9 = some 1023 ∧ 2048 ≤ ((open0.ctx 1023).gen - 2052).toNat ∧
    ((open0.ctx 1023).gen - 2053).toNat < 2048 ∧ (open0.ctx 1023).gen ≠ 2053 ∧ (open0.ctx 1023).gen = (pkt0 .load 0 3).gen ∧
    isAtomic PKind.compareSwap = true ∧ isAtomic PKind.store = false ∧
    (ra0 15 1023 [dd0 (some 5)]).ra.dedup.find? (fun (e : Dedup) => e.isOf (pkt0 .swap 0 3)) = some (dd0 (some 5)) ∧
    open0.ra.dedup.any (·.isOf (pkt0 .swap 0 3)) = false ∧ open0.accessBad 1023 (pkt0 .swap 0 4) = some E_RA_KEY ∧
    open0.accessBad 1023 (pkt0 .swap 0 3) = none ∧ open0.ra.dedup.length < 8192 ∧ 8192 ≤ (List.replicate 8192 (dd0 none)).length ∧
    open0.accessBad 1023 (pkt0 .load 0 3) = none := by decide +kernel
theorem wit_access : open0.reachable (pkt0 .load 0x01FF00000000 3) = false ∧ open0.reachable (pkt0 .load 0x1FFE00 3) = true ∧
    open0.regionOf 0x1FFE00 512 = some ⟨0, 2 ^ 21, 3, 15, 0, 1023, 4⟩ ∧ open0.regionOf 0x200000 512 = none ∧
    open0.reachable (pkt0 .load 0x200000 3) = true ∧
    (ra0 15 1 []).regionOf 0 512 = some ⟨0, 2 ^ 21, 3, 15, 0, 1, 4⟩ ∧ permits 0 PKind.load = false ∧ permits 15 PKind.store = true ∧
    open0.ctrOk ⟨0, 2 ^ 21, 3, 15, 0, 1023, 4⟩ 0 = true ∧ open0.ctrOk ⟨0x030000000000, 2 ^ 21, 3, 15, 0, 1023, 4⟩ 0x03000007C000 = false := by
  decide +kernel

/-- A remote operation of thread 0 in the last entry of its port. -/
def wait0 (k : EntryKind) (attempts : Nat) : Dev :=
  { open0 with cores := [(0, { port := [(255, some { ent0 0 k true with attempts, pkt := { pkt0 .load 0 3 with srcDev := 5, dstDev := 7, ctx := 1023, seq := tagOf 0 255 } })] })] }
def answer0 (kind of : PKind) : Packet := { pkt0 kind 0 3 with ofKind := of, ctx := 1023, seq := tagOf 0 255 }
/-- AnswersAndTimeouts -/
theorem wit_answers : (answer0 .response .load).ok = true ∧ (wait0 (.load (.g 3 8 false)) 1).forMe (answer0 .response .load) = true ∧
    (((wait0 (.load (.g 3 8 false)) 1).arrived (answer0 .response .load)).entryOf (answer0 .response .load)).isSome = true ∧ isAtomic PKind.load = false ∧
    ({ chan0 { queue := [{ memReq .read with src := .remote (pkt0 .load 0 3) }] } with ra := open0.ra } : Dev).heldReq 31 30 0 = some (.remote (pkt0 .load 0 3)) ∧
    ((wait0 .posted 4).pent 0 255).isSome = true ∧ ((wait0 .posted 4).core 0).replies.any (·.entry == 255) = false ∧
    ((wait0 .posted 4).ctx 1023).gen = 4 ∧ (pkt0 .load 0 3).gen = 4 := by decide +kernel

/-- ContextCommands: the operands at their bounds, a job that is new, one that has a context, and none left. -/
def job0 (job gen part : Nat) : Nat := job + gen * 2 ^ 32 + part * 2 ^ 48
def full1 : Dev := { dev0 with ra := { ctxs := (List.range 1024).map fun n => (n, { st := .opened, job := BitVec.ofNat 24 (n + 10) }) } }
theorem look_map {α : Type} (d : α) (f : Nat → α) (l : List Nat) (k : Nat) (h : k ∈ l) : look d (l.map fun n => (n, f n)) k = f k := by
  induction l with
  | nil => cases h
  | cons a l ih =>
    by_cases e : a = k
    · simp [look, e]
    · simpa [look, e] using ih (by simpa [Ne.symm e] using h)
theorem wit_ctx_full : full1.freeCtx = none := by
  unfold Dev.freeCtx
  rw [List.find?_eq_none]
  intro n hn
  simp only [Dev.ctx, full1, look_map _ _ _ n hn]
  decide
theorem wit_ctx_open : (mgmt0 2 0x10 (job0 (2 ^ 24) 0 0)).mgmtHead 2 0x10 = some (entryOf 0x10 (job0 (2 ^ 24) 0 0)) ∧
    ebytes (entryOf 0x10 (job0 (2 ^ 24) 4096 0)) 32 4 = 2 ^ 24 ∧ ebytes (entryOf 0x10 (job0 0 4096 0)) 36 2 = 4096 ∧
    ebytes (entryOf 0x10 (job0 (2 ^ 24 - 1) 4095 1)) 32 4 < 2 ^ 24 ∧ ebytes (entryOf 0x10 (job0 (2 ^ 24 - 1) 4095 1)) 38 1 = 1 ∧
    (run0 2 0x10 0).defined 2 = false ∧ (run0 2 0x10 0).defined 1 = true ∧ (run0 2 0x10 0).mayName (.queue 2) 1 = true ∧
    (run0 10 0x10 0).mayName (.queue 10) 0 = false ∧ (run0 2 0x10 0).ctxOfJob 9 = none ∧ (run0 2 0x10 0).freeCtx = some 0 ∧
    (run0 2 0x10 0 (ra0 15 1023 [] .closed)).ctxOfJob 9 = some 1023 ∧ ((run0 2 0x10 0 (ra0 15 1023 [] .closed)).ctx 1023).st = .closed ∧
    ((run0 2 0x10 0 open0).ctx 1023).st ≠ .closed ∧ full1.ctxOfJob 9 = none := by decide +kernel
theorem wit_ctx : (mgmt0 2 0x11 1023 open0).mgmtHead 2 0x11 = some (entryOf 0x11 1023) ∧ ebytes (entryOf 0x11 1023) 32 2 = 1023 ∧
    ((run0 2 0x11 1023 open0).ctx 1023).st = .opened ∧ (run0 2 0x11 1023 open0).mayName (.queue 2) 0 = true ∧
    ebytes (entryOf 0x11 1024) 32 2 = 1024 ∧ ((run0 2 0x11 5 open0).ctx 5).st ≠ .opened ∧
    (mgmt0 2 0x12 9 open0).mgmtHead 2 0x12 = some (entryOf 0x12 9) ∧ (run0 2 0x12 9 open0).ctxOfJob 9 = some 1023 ∧
    (mgmt0 2 0x13 1023 (ra0 15 1023 [] .closed)).mgmtHead 2 0x13 = some (entryOf 0x13 1023) ∧
    ((ra0 15 1023 [] .tearing).ctx 1023).st = .tearing ∧ (ra0 15 1023 [] .tearing).teardownReady 1023 = true ∧
    ({ ra0 15 1023 [] .tearing with cores := [(0, { threads := [(0, { st := .ready, work := some ⟨0, 0, 1023, false⟩ })] })] } : Dev).teardownReady 1023 =
      false := by decide +kernel

/-- RegionCommands: BASE and SIZE at one unit, and the last region free. -/
def reg0 (base size ctx perm : Nat) : Nat := base + size * 2 ^ 64 + ctx * 2 ^ 160 + perm * 2 ^ 176
theorem wit_region : let e := entryOf 0x20 (reg0 0x200000 0x200000 1023 15)
    (mgmt0 2 0x20 (reg0 0x200000 0x200000 1023 15) open0).mgmtHead 2 0x20 = some e ∧ ebytes e 32 8 % mib2 = 0 ∧ ebytes e 40 8 = mib2 ∧ ebytes e 54 1 < 16 ∧
    ebytes e 52 2 < 1024 ∧ ebytes (entryOf 0x20 (reg0 1 0 0 16)) 32 8 % mib2 ≠ 0 ∧ ebytes (entryOf 0x20 (reg0 1 0 0 16)) 54 1 = 16 ∧
    (run0 2 0x20 0 open0).ctxOpenFor 1023 0 = true ∧ (run0 2 0x20 0 open0).ctxOpenFor 1022 0 = false ∧
    (run0 2 0x20 0 open0).rangeOwned 0 0x200000 0x200000 = true ∧ (run0 2 0x20 0 open0).rangeOwned 1 0x200000 0x200000 = false ∧
    (run0 2 0x20 0 open0).ra.regions.any (fun r => r.2.any fun r => rangesMeet r.base r.size 0x200000 0x200000) = false ∧
    (run0 2 0x20 0 open0).ra.regions.any (fun r => r.2.any fun r => rangesMeet r.base r.size 0 0x200000) = true ∧
    freeKey (run0 2 0x20 0 open0).ra.regions 4096 = some 1 := by decide +kernel
theorem wit_region_end : (mgmt0 2 0x21 0 open0).mgmtHead 2 0x21 = some (entryOf 0x21 0) ∧ (mgmt0 2 0x22 0 open0).mgmtHead 2 0x22 = some (entryOf 0x22 0) ∧
    (run0 2 0x21 0 open0).namedRegion 0 (.queue 2) = some ⟨0, 2 ^ 21, 3, 15, 0, 1023, 4⟩ ∧ (run0 2 0x21 4095 open0).namedRegion 4095 (.queue 2) = none ∧
    (let c : Issuer × Region := (.queue 2, ⟨0, 2 ^ 21, 3, 15, 0, 1023, 4⟩)
     ({ open0 with ra := { open0.ra with regionCmds := [c] } } : Dev).regionCmdOf 2 = some c ∧ open0.underOld c.2 = false ∧
     ({ open0 with ra := { open0.ra with ingress := [(.remote (pkt0 .load 0 3), pkt0 .load 0 3)] } } : Dev).underOld c.2 = true) := by decide +kernel

/-- A GROUP_CREATE of queue 3: rank 0 of 1, its member table in HBM, 16 counters, the control block in the store of core 0, 8 credits. -/
def grpOps (credits : Nat) : Nat :=
  3 + 1023 * 2 ^ 16 + 1 * 2 ^ 48 + 4096 * 2 ^ 64 + 0x020000000040 * 2 ^ 128 + 16 * 2 ^ 192 + 16 * 2 ^ 208 + credits * 2 ^ 240
/-- The member table names this device and counter 16. -/
def table0 (d : Dev) : Dev :=
  match d.chanOf 4096 with
  | some (k, p, off) => { d with mem := { d.mem with data := setBytes d.mem.data (memKey k p off) (toBytes 8 (5 + 16 * 2 ^ 16)) } }
  | none => d
/-- OtherManagementCommands: groups. -/
theorem wit_group : let d := run0 2 0x30 (grpOps 8) (table0 open0)
    (mgmt0 2 0x30 (grpOps 8) (table0 open0)).mgmtHead 2 0x30 = some (entryOf 0x30 (grpOps 8)) ∧ d.groupOk (.queue 2) (groupOf d (entryOf 0x30 (grpOps 8))) = true ∧
    d.groupOk (.queue 2) (groupOf d (entryOf 0x30 (grpOps 65))) = false ∧ d.rangeBusy (groupOf d (entryOf 0x30 (grpOps 8))) = false ∧
    ({ d with coll := { freed := [(16, 16, 0)] } } : Dev).rangeBusy (groupOf d (entryOf 0x30 (grpOps 8))) = true ∧
    d.reservedEntries 0 + 8 ≤ 192 ∧ 192 < ({ d with coll := { groups := [(9, some { grp0 with credits := 185 })] } } : Dev).reservedEntries 0 + 8 := by
  decide +kernel
theorem wit_other_mgmt : (mgmt0 2 0x31 3 (legs0 0)).mgmtHead 2 0x31 = some (entryOf 0x31 3) ∧ (run0 2 0x31 4).namedGroup (entryOf 0x31 4) (.queue 2) = none ∧
    ({ run0 2 0x31 3 with coll := { groups := [(3, some grp0)] } } : Dev).namedGroup (entryOf 0x31 3) (.queue 2) = some 3 ∧
    (mgmt0 2 0x32 3).mgmtHead 2 0x32 = some (entryOf 0x32 3) ∧ (mgmt0 2 0x40 (5 * 2 ^ 64)).mgmtHead 2 0x40 = some (entryOf 0x40 (5 * 2 ^ 64)) ∧
    ebytes (entryOf 0x40 (5 * 2 ^ 64)) 40 1 = 5 ∧ ebytes (entryOf 0x40 (6 * 2 ^ 64)) 40 1 = 6 ∧
    (mgmt0 2 0x41 (5 * 2 ^ 16)).mgmtHead 2 0x41 = some (entryOf 0x41 (5 * 2 ^ 16)) ∧ ebytes (entryOf 0x41 (2 + 5 * 2 ^ 16)) 32 1 = 2 ∧
    (run0 2 0x41 (5 * 2 ^ 16)).inDomain 5 = true ∧ ebytes (entryOf 0x41 (5 * 2 ^ 16 + 3 * 2 ^ 32)) 36 1 < 4 ∧
    64 ≤ (List.replicate 64 ((1 : Nat), (0 : Nat))).length ∧ (5, 0) ∉ List.replicate 64 ((1 : Nat), (0 : Nat)) ∧
    (mgmt0 2 0x50 (12 * 2 ^ 64)).mgmtHead 2 0x50 = some (entryOf 0x50 (12 * 2 ^ 64)) ∧ ebytes (entryOf 0x50 (20 * 2 ^ 64)) 40 1 = 20 ∧
    ebytes (entryOf 0x50 4095) 32 8 % 4096 ≠ 0 ∧ ebytes (entryOf 0x50 4096) 32 8 % 4096 = 0 ∧ dev0.img.loaded.isSome = true := by decide +kernel
/-- OtherManagementCommands: the answer to a command that queue 2 had forwarded to device 7. -/
theorem wit_forwarded : let e : Entry := BitVec.ofNat 512 (5 + (2 ^ 15 + 7) * 2 ^ 64)
    ({ dev0 with host := { queues := [(2, { entries := [⟨6, e, true⟩] })] } } : Dev).wakeEvent.forwardedEntry ⟨7, e, none, some (E_OK, 0)⟩ = some (2, 6) := by
  decide +kernel

/-! ### Witnesses: copies, the host interface, drain, reload, sideband -/

/-- A COPY entry: 64 bytes of this device, with its flags and the two domains. -/
def run1 (e : Entry) (queue : Nat := 1) (readout : Bool := false) : CopyRun :=
  { queue, seq := 0, readout, entry := e, ctx := 0, part := 0, issued := 0, finished := 0, out := [], code := E_OK, stopped := false, first := none
    sum := 0, flagged := 0 }
def copyEntry (kind flags doms : Nat) : Entry := BitVec.ofNat 512 (kind + flags * 2 ^ 8 + 5 * 2 ^ 306 + (4096 + 5 * 2 ^ 50) * 2 ^ 320 + 63 * 2 ^ 384 + doms * 2 ^ 480)
def copyq0 (e : Entry) : Dev := { linked0 dev0 with host := { (linked0 dev0).host with queues := [(1, { entries := [⟨0, e, false⟩], seq := 1 })] } }
def copies0 (r : CopyRun) : Dev := { linked0 dev0 with copy := { runs := [(511, some r)] } }
/-- CopyEngine: an entry from HBM to HBM, one with both sides in another domain, the queue's limit of four, and the next piece of each form. -/
theorem wit_copy : (copyq0 (copyEntry 2 0 0x11)).nextStart 1 = some ⟨0, copyEntry 2 0 0x11, false⟩ ∧ dev0.qType 1 = 2 ∧
    (copyq0 (copyEntry 2 0 0x11)).runsOf.countP (fun r => r.2.queue == 1) < 4 ∧ freeKey dev0.copy.runs 512 = some 0 ∧
    (dev0.markStarted 1 0).copyBad (run1 (copyEntry 2 0 0x11)) = none ∧
    (dev0.markStarted 1 0).copyBad (run1 (copyEntry 2 0 0x22)) = some E_RA_BULK_SIDES ∧
    4 ≤ ({ dev0 with copy := { runs := (List.range 4).map fun n => (n, some (run1 0)) } } : Dev).runsOf.countP (fun r => r.2.queue == 1) ∧
    (copies0 (run1 (copyEntry 2 0 0x11))).crun 511 = some (run1 (copyEntry 2 0 0x11)) ∧
    (copies0 (run1 (copyEntry 2 0 0x11))).canIssue (run1 (copyEntry 2 0 0x11)) = true ∧
    (copies0 (run1 (copyEntry 2 0x10 0x11))).canIssue (run1 (copyEntry 2 0x10 0x11)) = true ∧
    (run1 (copyEntry 2 0x10 0x11)).fromHost = true ∧ (run1 (copyEntry 2 0x10 0x11)).pieceLen 0 = 64 ∧
    (run1 (copyEntry 2 0x20 0x11)).toHost = true := by decide +kernel
theorem wit_copy_turn : (let s := copies0 (run1 (copyEntry 2 0 0x11))
      s.runsOf.all (fun e => !s.canIssue e.2 || decide (runTurn s.copy.last 511 ≤ runTurn s.copy.last e.1)) = true) ∧
    (copies0 (run1 (copyEntry 3 0x20 0x11) 1 true)).canIssue (run1 (copyEntry 3 0x20 0x11) 1 true) = true ∧
    ({ run1 (copyEntry 2 0x20 0x11) with out := [(0, 0, true)] } : CopyRun).out.isEmpty = false ∧
    (hbm0 .readout).mayServe 31 30 0 (memReq .readout) = true ∧ (memReq .readout).kind = .readout := by decide +kernel

def filled0 (n : Nat) : Dev := { dev0 with host := { queues := [(0, { entries := List.replicate n entry0 })] } }
/-- DoorbellsAndTheirWatchdog: 31 and 32 entries. -/
theorem wit_doorbell : dev0.doorOpen 1 0 = false ∧ dev0.doorOpen 0 0 = true ∧ ((filled0 31).queue 0).entries.length < 32 ∧
    32 ≤ ((filled0 32).queue 0).entries.length ∧ ((filled0 1).queue 0).entries = [entry0] ∧
    ((filled0 1).qType 0 == 1 || (filled0 1).qType 0 == 2 || (filled0 1).qType 0 == 3) = true ∧ fldN ((filled0 1).reg 0 0xB00 0x64) 0 16 ≠ 0 ∧
    (filled0 1).qHeld 0 = false ∧ (filled0 1).inWindow (((filled0 1).qOwner 0).getD 8) = false ∧
    fldN (({ filled0 1 with csr := [(0xB00, 0)] } : Dev).reg 0 0xB00 0x64) 0 16 = 0 ∧ ({ dev0 with rcv := { phase := 3 } } : Dev).qHeld 0 = true := by
  decide +kernel

/-- HostPorts: the highest speed and width, a record that waits, a pending vector. -/
theorem wit_host : dev0.perst 0 = false ∧ dev0.pinsTaken = false ∧ linkUpOk 1 6 8 true 1 = true ∧ linkUpOk 0 1 1 false 1 = true ∧ (dev0.hport 0).d3hot = false ∧ dev0.portOpen 0 = false ∧
    (dev0.hport 0).waiting.countP isRecord = 0 ∧ [Out.hostWrite 0 0 []].countP isRecord ≠ 0 ∧ (dev0.hport 0).unmasked.contains 2047 = false ∧
    ({ dev0 with host := { p0 := { pendingVec := [2047] } } } : Dev).hport 0 = { pendingVec := [2047] } ∧ ((linked0 dev0).hport 0).up = true ∧
    3 ≤ (linked0 dev0).boot.step := by decide +kernel

def drain0 (phase : Nat) : Dev := { dev0 with rcv := { phase } }
/-- AttentionDrain: each phase, at work and idle. -/
theorem wit_drain : (start0 9).takesPress = false ∧ (drain0 0).takesPress = true ∧ (drain0 2).rcv.blocked = false ∧ (drain0 3).rcv.phase = 3 ∧
    (drain0 3).working = false ∧ ({ drain0 3 with copy := { runs := [(0, some (run1 0))] } } : Dev).working = true ∧ (drain0 4).combWaiting = false ∧
    (drain0 4).fab.detuning = false ∧ (drain0 3).posting = false ∧ (drain0 0).pow.lat = 0 ∧ (drain0 1).rcv.phase = 1 := by decide +kernel

def loading0 (phase : ReloadPhase) (img : Image := img0) : Dev :=
  { dev0 with img := { idev with reload := some ⟨0, img, .queue 2, 10, phase, none⟩ } }
/-- A reload image of partition 0. -/
def reimg0 : Image :=
  { img0 with kind := 1, table := [⟨0x10, 1, 256, 64, true⟩], parts := [⟨0, 1, [(0, 1)], false, [(0, 4)], [(0, 1), (1, 2), (2, 0x304), (3, 3)], []⟩] }
/-- LiveReload: the limit of 1,000 ms, a reload in progress, a full log; the check that passes and one that fails; the drain. -/
theorem wit_reload : (mgmt0 2 1 (1000 * 2 ^ 96)).mgmtHead 2 1 = some (entryOf 1 (1000 * 2 ^ 96)) ∧ ebytes (entryOf 1 (1000 * 2 ^ 96)) 44 2 = 1000 ∧
    ebytes (entryOf 1 (1001 * 2 ^ 96)) 44 2 = 1001 ∧ (loading0 .check).img.reload.isSome = true ∧ dev0.img.reload = none ∧ dev0.boot.log.length < 4096 ∧
    4096 ≤ (List.replicate 4096 (0 : Nat)).length ∧ (loading0 .check).checkReload img0 reimg0 0 = none ∧
    (loading0 .check).checkReload img0 { reimg0 with sigOk := false } 0 = some (E_IMG_SIGNATURE, 0xFF, 0) ∧ (loading0 .drain).partRuns 0 = false ∧
    ({ loading0 .drain with cores := [(0, core0 ready0)] } : Dev).partRuns 0 = true ∧ (loading0 .drain).logFull = false := by decide +kernel
theorem wit_reload_full : ({ loading0 .drain with boot := { boot0 with log := List.replicate 4096 ⟨0, 0, 0, 0⟩ } } : Dev).logFull = true := by
  have h : (List.replicate 4096 (⟨0, 0, 0, 0⟩ : MeasEntry)).length = 4096 := List.length_replicate
  exact decide_eq_true (by rw [h]; exact Nat.le_add_right ..)

/-- Sideband: powered and live, shut down, SUPV_N low. -/
theorem wit_sideband : dev0.boot.powered = true ∧ dev0.pinsTaken = false ∧ ({ dev0 with pow := { shutdown := true } } : Dev).live = false ∧
    (dev0.side.offset.toNat < 0x80000) ∧ dev0.side.supvLow = false ∧ ({ dev0 with side := { supvLow := true } } : Dev).side.supvLow = true ∧
    ({ dev0 with pow := { shutdown := true } } : Dev).pow.shutdown = true ∧ ({ dev0 with boot := { boot0 with jtagSeen := true } } : Dev).boot.jtagSeen = true := by
  decide +kernel

/-! ### Witnesses: fabric, optics, power, temperature -/

def img1 : Image := { img0 with fabric := { fab0 with ports := List.replicate 4 ⟨false, 6, 1, 0⟩ } }
/-- Ports and engines all up, or as given. -/
def fabric0 (p : FPort := { st := .up }) (g : Engine := { calibrated := true }) : Dev :=
  { dev0 with img := { idev with loaded := some img1 }
              fab := { ports := (List.range 6).map fun n => (n, p), engs := (List.range 14).map fun n => (n, g) } }
def held0 (d : Dev) (dst : Nat) : Dev := { d with fab := { d.fab with held := [{ pkt0 .load 0 3 with srcDev := 5, dstDev := dst }] } }
/-- PacketsAndCredits: a held packet whose segment is usable, and one whose segment is not. -/
theorem wit_packets : dev0.img.loaded.isSome = true ∧ (held0 dev0 5).nextUsable { pkt0 .load 0 3 with srcDev := 5, dstDev := 5 } = true ∧
    (held0 dev0 6).nextUsable { pkt0 .load 0 3 with srcDev := 5, dstDev := 6, dstDom := 2 } = false ∧ (fabric0 {}).fport 5 = {} ∧ ((fabric0).fport 5).st = .up ∧
    (fabric0).tests.running = [] ∧ LinkRef.ok (.circuit 15) = true ∧ ((fabric0 { creditHeld := true }).fport 5).creditHeld = true ∧
    ((fabric0 { creditHeld := true }).fport 5).rx.quiet = true ∧ (fabric0).linkServes (LinkRef.port 5) = true ∧
    (fabric0).fab.auditing.contains (LinkRef.port 5) = false ∧ (fabric0).fab.audited.contains (LinkRef.port 5, (fabric0).clock) = false ∧
    ({ fabric0 with fab := { (fabric0).fab with audited := [(LinkRef.port 5, 0)] } } : Dev).fab.audited.contains (LinkRef.port 5, (fabric0).clock) = true ∧
    ({ fabric0 with fab := { (fabric0).fab with auditing := [LinkRef.port 5] } } : Dev).fab.auditing.contains (LinkRef.port 5) = true ∧
    ((fabric0).auditOwn (LinkRef.port 5)).all (fun e => ((fabric0).auditOwn (LinkRef.port 5)).contains e) = true ∧
    ((fabric0).auditOwn (LinkRef.port 5)).all (fun e => [].contains e) = false ∧ (pkt0 .load 0 3).ok = true ∧
    inputOk (.port 5) = true ∧ inputOk (.circuit 15) = true ∧ isTrunk (.port 3) = false ∧ isTrunk (.port 4) = true ∧
    (portPairs 5)[0]?.isSome = true ∧ LinkRef.ok (.d2d 0) = true ∧ ((fabric0 {}).fport 5).creditHeld = false ∧
    ((fabric0 { nbrHeld := true }).fport 5).nbrHeld = true ∧ ((fabric0 { nbrHeld := true }).fport 5).unacked = [] ∧
    ((fabric0 {}).fport 5).nbrHeld = false := by decide +kernel

def ckt0 (k : Circuit) : Dev := { dev0 with fab := { ckts := [(15, k), (7, k)] } }
/-- CircuitsAndCombiningTimers: the last circuit of each level. -/
theorem wit_circuit : ((ckt0 { st := .up }).ckt 15).st = .up ∧ ((ckt0 { st := .training }).ckt 15).st = .training ∧ ((ckt0 { st := .broken }).ckt 7).st = .broken ∧
    ((ckt0 { st := .broken }).ckt 15).st = .broken ∧ ((ckt0 { st := .returning }).ckt 15).st = .returning ∧ ((ckt0 { st := .returning }).ckt 15).unacked = [] ∧
    ({ dev0 with fab := { detuning := true } } : Dev).fab.detuning = true ∧ (fabric0).cktLit 15 = true ∧ dev0.cktLit 15 = false ∧
    ({ unacked := [(1, pkt0 .load 0 3)] } : Circuit).unacked ≠ [] ∧
    ({ dev0 with axa := { comb := [(16383, some { Comb.start (pkt0 .accumulate 0 3) ⟨false, 0, 12, 1, 0, [0]⟩ with awaiting := true })], closed := true } } :
      Dev).axa.closed = true ∧ dev0.rcv.flushing = false := by decide +kernel

def opt0 (f : Fibre) (g : Engine := { calibrated := true }) : Dev := fabric0 { st := .training } { g with fibs := [(7, f)] }
/-- LaserSupplyAndWavelengths: an input in each state, a fibre with and without a spare. -/
theorem wit_optics : (opt0 {}).engThere 13 = true ∧ ((opt0 {}).eng 13).input 1 = .ok ∧
    (({ inB := .lost } : Engine).input 1) = .lost ∧ (({ inB := .low } : Engine).input 1) = .low ∧ (({ inB := .recalibrating } : Engine).input 1) = .recalibrating ∧
    (((opt0 { active0 := 0x3FFF }).fib 13 7).spares 0).isEmpty = false ∧ ({ eng := 13, fib := 7, dir := 0, lam := 13 } : LambdaRef).ok = true ∧
    ((opt0 { active0 := 0x3FFF }).fib 13 7).neighbour 0 13 = true ∧ ((opt0 { active0 := 0x3FFF }).fib 13 7).spares 0 = [14, 15] ∧
    ((opt0 { active0 := 0xFFFF }).fib 13 7).spares 0 = [] ∧ ((opt0 {}).fib 13 7).neighbour 0 13 = false ∧ ((opt0 {}).eng 13).inReset = false ∧
    (let l := ((opt0 {}).eng 13).level 1
     l - 16 < l - 15 ∧ l - 15 ≤ l - 15 ∧ l - 31 < l - 30 ∧ l - 30 ≤ l - 30) := by decide +kernel
/-- PortsTrainAndDiscover -/
theorem wit_ports : (opt0 { training := true }).canTrain 13 = true ∧ ((opt0 { training := true }).fib 13 7).training = true ∧ (opt0 {}).hears 13 = true ∧
    ({ opt0 {} with rcv := { phase := 4 } } : Dev).hears 13 = false ∧ (opt0 {}).rcv.phase < 4 ∧
    ((opt0 { rxLost := true }).fib 13 7).rxLost = true ∧ ((opt0 { rxLost := true }).fib 13 7).txLost = false ∧ ((opt0 {}).fport 3).heldBySw = false ∧ ((opt0 {}).fport 3).st ≠ .up ∧
    ((fabric0).fport 3).st = .up ∧ ((fabric0 { st := .noNeighbour }).fport 3).st = .noNeighbour ∧ ((opt0 {}).fport 3).nbr = none ∧
    (opt0 {}).portUnused 4 = true ∧ (opt0 {}).portUnused 3 = false ∧ ({ window := true } : Engine).window = true ∧
    ((fabric0 { st := .quarantined }).fport (portOfEng 13)).st = .quarantined ∧ ((opt0 { up := true }).fib 13 7).up = true := by decide +kernel
def sel0 (p : FPort) (g : Engine := { calibrated := true }) : Dev := { fabric0 p g with csr := [(0x500, 3)] }
theorem wit_port_control : (sel0 { st := .up }).portSel = some 3 ∧ (enginesOf 3).any (fun e => ((sel0 { st := .up }).eng e).laserLost) = false ∧
    (enginesOf 3).any (fun e => ((sel0 { st := .up } { calibrated := true, inA := .lost }).eng e).laserLost) = true ∧
    ((sel0 { st := .withdrawn, heldBySw := true }).fport 3).heldBySw = true ∧ ((sel0 { st := .withdrawn }).fport 3).st = .withdrawn ∧
    (sel0 { st := .withdrawn }).rcv.phase < 4 := by decide +kernel

/-- ModesAndLatencyStates -/
theorem wit_modes : dev0.ready = true ∧ ({ dev0 with pow := { change := some 2 } } : Dev).pow.change.isSome = true ∧ dev0.pow.change = none ∧
    dev0.pow.modeNow ≠ 1 ∧ dev0.dipInForce = false ∧ ({ dev0 with pow := { rails := [(3, { dipped := true })] } } : Dev).dipInForce = true ∧
    dev0.pow.lat = 0 ∧ dev0.coreUsable 31 = true ∧ dev0.coreBusy 31 = false ∧ dev0.coreIdle 31 = true ∧
    1 ≤ ({ dev0 with pow := { lt0 := 20, lt1 := 20 } } : Dev).latTarget ∧ ({ dev0 with pow := { lt0 := 20, lt1 := 20 } } : Dev).latTarget = 2 ∧
    dev0.deviceIdle = true ∧ (filled0 1).deviceIdle = false ∧ ({ dev0 with pow := { lat := 2, waking := true } } : Dev).pow.lat = 2 ∧
    dev0.pow.fabRef = true ∧ dev0.inReset 6 0 = false ∧ dev0.pow.waking = false ∧ dev0.pow.later = none := by decide +kernel
/-- PowerLimitAndDips: each counter at its bound; the rails of a stack, a core, and those that stand for nothing else. -/
theorem wit_power : (10 ≤ ({ lowRounds := 10 } : Power).lowRounds ∧ ({ lowRounds := 9 } : Power).lowRounds < 10) ∧
    100 ≤ ({ overRounds := 100 } : Power).overRounds ∧ dev0.pow.forced = false ∧ dev0.pow.forceLogged = false ∧ dev0.pow.modeNow ≠ 2 ∧
    1000 ≤ ({ easyRounds := 1000, forced := true } : Power).easyRounds ∧ dev0.railThere 40 = true ∧ railStack 5 = none ∧ railStack 6 = some 0 ∧
    railStack 37 = some 31 ∧ railStack 38 = none ∧ dev0.railThere 37 = true ∧ dev0.stackFitted 31 = true ∧ dev0.stackFitted 32 = false ∧
    dev0.railSet 37 = 1050 ∧ 95 * 1050 ≤ 100 * 998 ∧ 100 * 997 < 95 * 1050 ∧ 100 * 944 < 90 * 1050 ∧ 90 * 1050 ≤ 100 * 945 ∧ 96 * 1050 < 100 * 1009 ∧
    modeAmps (dev0.dieMode 3) = 1000 := by decide +kernel
/-- ThermalCommands: each counter at its bound. -/
theorem wit_thermal : (10 ≤ ({ cool := 10 } : DieTherm).cool ∧ ({ cool := 9 } : DieTherm).cool < 10) ∧ 100 ≤ ({ hot := 100 } : DieTherm).hot ∧
    1000 ≤ ({ cold := 1000, forced := true } : DieTherm).cold ∧ TUnit.ok (.eng 13) = true ∧ TUnit.sensors (.eng 13) = 2 ∧
    dev0.sensorRounds (.eng 13) 1 < 3 ∧ 3 ≤ ({ dev0 with pow := { sensors := [(.eng 13, 1, 0, 3)] } } : Dev).sensorRounds (.eng 13) 1 ∧
    dev0.pow.excluded.contains (.eng 13, 1) = false ∧ dev0.pow.deltaOn.contains (.cd 3, .cd 0) = false ∧
    (({ deltas := [(.cd 3, .cd 0, 3)] } : Power).deltas.any fun e => e.1 == .cd 3 && e.2.1 == .cd 0 && decide (3 ≤ e.2.2)) = true ∧
    (dev0.dieT 3).blind = false ∧ shutdownAt (.eng 13) ≤ 1150 ∧ 1149 < shutdownAt (.eng 13) := by decide +kernel
/-- CorrectionTables -/
theorem wit_tables : (List.replicate 17 (5 : Int)).length = 17 := by decide +kernel

/-! ### Witnesses: the whole machine -/

/-- EveryCommandAnswers, StepTakesTheFront, EveryStepKeepsThreadsSettled, RegisterAndStoreFrames -/
theorem wit_whole : Instr.wf (.flr 2) = false ∧ actsWithoutPower (.flr 0) = false ∧ State.reset.dev.live = false ∧ dev0.live = true ∧ dev0.coreRuns 31 = true ∧
    dev0.pow.lat < 2 ∧ dev0.coreClocked 31 = true ∧ ({ dev0 with cores := [(31, { p1 := true })] } : Dev).coreClocked 31 = false ∧
    dev0.settled = true ∧ (with0 ready0).dev.settled = true ∧ (with0 ready0).dev.quiet = true := by decide +kernel
/-- RegisterAndStoreFrames: ADD on the small package. -/
theorem wit_frame : answers (.add x0 i3) (with0 ready0) (((with0 ready0).dev.issued x0).modThr x0 fun t => (t.wg 3 (8 + 7)).retire) := rfl
theorem wit_step : ∃ t, step (with0 ready0) = .next t := ⟨_, rfl⟩

/-! ### Ill-formed commands, one for each check of an operand -/

def badPkt : Packet := { pkt0 .load 0 3 with size := 0 }
theorem test_wf_refuses_1 : (List.all [
    .dieReleaseTimeout 4, .configRequest ⟨2, none⟩, .perstAssert 2, .perstDeassert 2, .csrWrite 2 0 0 8 0, .csrWrite 0 144 0 8 0, .csrWrite 0 0 (2 ^ 20) 8 0,
    .csrWrite 0 0 0 2 0, .csrWrite 0 0 4 8 0, .csrAccessBad 2 true 0, .mboxBootFirmware 2, .mboxWholeImage 2, .mboxFetchDone 2 (.image file0),
    .quote 4096, .logRead 4096, .testReq 2 0, .testGrant 2 0, .mgmtTestReq 4096, .mgmtTestGrant 4096, .testIdleStart 6 0, .testWindowEnd 6 0,
    .testComplete 6 0 ⟨false, [], 0, [], [], []⟩, .d2dFlitReceive 0x16 0 0 0 ⟨true, []⟩ 0, .d2dFlitReceive 0 2 0 0 ⟨true, []⟩ 0, .d2dFlitReceive 0 0 28 0 ⟨true, []⟩ 0, .d2dFlitReceive 0 0 0 0 ⟨true, [64]⟩ 0,
    .laneSwap 0x16 0 0 ⟨0, []⟩, .laneSwap 0 2 0 ⟨0, []⟩, .laneSwap 0 0 28 ⟨0, []⟩, .laneSwap 0 0 0 ⟨68, []⟩, .laneSwapDone 0x16 0 0, .laneSwapDone 0 2 0,
    .laneSwapDone 0 0 28, .laneMarginLive 0x16 0 0 ⟨0, []⟩, .laneMarginLive 0 2 0 ⟨0, []⟩, .laneMarginLive 0 0 28 ⟨0, []⟩, .creditReturnAfterRetrain (.port 6) 0,
    .creditReturnAfterRetrain (.port 0) 2, .pathChange 0x16 true, .pathChangeDone 0x16, .d2dRetrain 2, .d2dRetrainDeferredStart 0x16,
    .d2dRetrainReport 0x16 [] ⟨[], []⟩, .widthEscalate 0x16, .fetchLineArrive ⟨32, 0⟩ 0 true, .fetchLineArrive x0 512 true, .computeEntryStart 4096 0 0,
    .computeEntryStart 0 32 0, .computeEntryStart 0 0 16, .illegalInstruction ⟨32, 0⟩ 0, .nop ⟨32, 0⟩ i3, .endWork ⟨32, 0⟩ i3, .add ⟨32, 0⟩ i3,
    .sub ⟨32, 0⟩ i3, .mul ⟨32, 0⟩ i3, .mulh ⟨32, 0⟩ i3, .and ⟨32, 0⟩ i3, .or ⟨32, 0⟩ i3, .xor ⟨32, 0⟩ i3, .shl ⟨32, 0⟩ i3, .shr ⟨32, 0⟩ i3] fun (c : Instr) => !c.wf) = true := by decide +kernel
theorem test_wf_refuses_2 : (List.all [
    .sra ⟨32, 0⟩ i3, .slt ⟨32, 0⟩ i3, .sltu ⟨32, 0⟩ i3, .sel ⟨32, 0⟩ i3, .addi ⟨32, 0⟩ i3, .andi ⟨32, 0⟩ i3, .ori ⟨32, 0⟩ i3, .xori ⟨32, 0⟩ i3,
    .shli ⟨32, 0⟩ i3, .shri ⟨32, 0⟩ i3, .srai ⟨32, 0⟩ i3, .lih ⟨32, 0⟩ i3, .beq ⟨32, 0⟩ i3, .bne ⟨32, 0⟩ i3, .blt ⟨32, 0⟩ i3, .bge ⟨32, 0⟩ i3,
    .bltu ⟨32, 0⟩ i3, .bgeu ⟨32, 0⟩ i3, .jal ⟨32, 0⟩ i3, .jalr ⟨32, 0⟩ i3, .rdsys ⟨32, 0⟩ i3, .rkey ⟨32, 0⟩ i3, .icinv ⟨32, 0⟩ i3, .ld ⟨32, 0⟩ i3,
    .st ⟨32, 0⟩ i3, .vld ⟨32, 0⟩ i3, .vst ⟨32, 0⟩ i3, .pld ⟨32, 0⟩ i3, .pst ⟨32, 0⟩ i3, .rld ⟨32, 0⟩ i3, .rvld ⟨32, 0⟩ i3, .rst ⟨32, 0⟩ i3,
    .rvst ⟨32, 0⟩ i3, .raxa ⟨32, 0⟩ i3, .rfadd ⟨32, 0⟩ i3, .rswap ⟨32, 0⟩ i3, .rcas ⟨32, 0⟩ i3, .sadd ⟨32, 0⟩ i3, .swait ⟨32, 0⟩ i3,
    .swaitTimeout ⟨32, 0⟩, .fence ⟨32, 0⟩ i3, .qpost ⟨32, 0⟩ i3, .qpostStatus ⟨32, 0⟩, .vadd ⟨32, 0⟩ i3, .vsub ⟨32, 0⟩ i3, .vmul ⟨32, 0⟩ i3,
    .vfma ⟨32, 0⟩ i3, .vmin ⟨32, 0⟩ i3, .vmax ⟨32, 0⟩ i3, .vcmp ⟨32, 0⟩ i3, .vcvt ⟨32, 0⟩ i3, .vexp2 ⟨32, 0⟩ i3, .vrcp ⟨32, 0⟩ i3, .vrsq ⟨32, 0⟩ i3,
    .vand ⟨32, 0⟩ i3, .vor ⟨32, 0⟩ i3, .vxor ⟨32, 0⟩ i3, .vbcast ⟨32, 0⟩ i3, .vext ⟨32, 0⟩ i3, .vsum ⟨32, 0⟩ i3] fun (c : Instr) => !c.wf) = true := by decide +kernel
theorem test_wf_refuses_3 : (List.all [
    .vscale ⟨32, 0⟩ i3, .pand ⟨32, 0⟩ i3, .por ⟨32, 0⟩ i3, .pnot ⟨32, 0⟩ i3, .mload ⟨32, 0⟩ i3, .mstream ⟨32, 0⟩ i3, .mdrain ⟨32, 0⟩ i3,
    .mracc ⟨32, 0⟩ i3, .mdrv ⟨32, 0⟩ i3, .arrayQueueSlotFree ⟨32, 0⟩, .arrayInstrStart 32 0, .arrayInstrStart 0 2, .arrayRowFeed 32 0,
    .arrayRowFeed 0 2, .drainRowWrite 32 0 [], .drainRowWrite 0 2 [], .arrayInstrComplete 32 0, .arrayInstrComplete 0 2, .mraccOperationSend 32 0,
    .mraccOperationSend 0 2, .arrayResidueRate 32 0, .arrayResidueRate 0 2, .arrayResetEscalate 32 0, .arrayResetEscalate 0 2, .remoteReply 32 0,
    .remoteReply 0 256, .portAccept ⟨32, 0⟩, .portEntryFree ⟨32, 0⟩, .retireWdog ⟨32, 0⟩, .parkWdog ⟨32, 0⟩, .arrayWdog 32 0, .arrayWdog 0 2,
    .threadReset 2 0 0, .threadReset 0 32 0, .portOrphan ⟨32, 0⟩, .threadResetEscalate ⟨32, 0⟩, .coreReset (.hub 0) 32, .coreResetEscalate 32,
    .imgReload 4096 file0, .read 32 0 0 ⟨[], [], []⟩, .read 0 31 0 ⟨[], [], []⟩, .write 32 0 0 ⟨[], [], []⟩, .write 0 31 0 ⟨[], [], []⟩, .accum 32 0 0 ⟨[], [], []⟩,
    .accum 0 31 0 ⟨[], [], []⟩, .atomic 32 0 0 ⟨[], [], []⟩, .atomic 0 31 0 ⟨[], [], []⟩, .readout 32 0 0 ⟨[], [], []⟩, .readout 0 31 0 ⟨[], [], []⟩,
    .mgmt 32 (.selfRefresh true), .retrainDone 32 0 true, .retrainDone 0 31 true, .memRetrainHold 2 0, .scrubPass 32 0 0 [], .scrubPass 0 31 0 [],
    .migrateThreshold 32 0, .migrateThreshold 0 31, .migStart 2 0 0, .migStart 0 32 0, .migStart 0 0 31] fun (c : Instr) => !c.wf) = true := by decide +kernel
theorem test_wf_refuses_4 : (List.all [
    .migrateDone ⟨32, []⟩, .cmdWatchdog 32 0, .cmdWatchdog 0 31, .laserLow 14 0 0, .laserLow 0 2 0, .laserLost 14 0 0, .laserLost 0 2 0, .laserNotice 14 0,
    .laserRecover 14 0 0, .laserRecover 0 2 0, .laserRecalDone 14 0, .laserRecalDone 0 2, .continuousCalibration 14 0, .continuousCalibration 0 8,
    .lambdaSwap ⟨14, 0, 0, 0⟩, .throughFail ⟨14, 0, 0, 0⟩, .fibrePairTrained 14 0 [], .fibrePairTrained 0 8 [],
    .ident 14 0 ⟨0, 0, 0, 0, 0, true, 0, 0, 0, 0⟩, .ident 0 8 ⟨0, 0, 0, 0, 0, true, 0, 0, 0, 0⟩, .identResend 6, .portMissing 6, .heartbeatWdog 14 0,
    .heartbeatWdog 0 8, .qualificationWindowEnd 14, .trainingRetry 6, .signalRegain 14, .withdraw 6 0, .linkReset (.hub 0) 14, .linkResetEscalate 14,
    .portFlitReceive 6 0 ⟨0, 0⟩ true 0, .packetForward badPkt ⟨(.port 0), 0⟩, .packetForward (pkt0 .load 0 3) ⟨(.port 6), 0⟩, .packetForward (pkt0 .load 0 3) ⟨(.circuit 7), 0⟩, .linkCredit (.port 6) 0 0 0, .breakNotice 16, .circuitHeartbeatWdog 16,
    .circuitRestore 16, .circuitReturn 16, .creditAudit (.port 6), .audit (.port 6) [], .routeQuery 2 0, .load badPkt, .store badPkt,
    .accumulate badPkt, .fetchAdd badPkt, .swap badPkt, .compareSwap badPkt, .syncAdd badPkt, .copyRead badPkt, .copyWrite badPkt, .response badPkt,
    .negativeAcknowledgement badPkt, .hold badPkt, .holdRepeat 32 0 0, .holdRepeat 0 31 0, .release badPkt, .attemptTimeout 32 0,
    .attemptTimeout 0 256, .ctxOpen 4096, .ctxTeardown 4096, .jobTeardown 4096] fun (c : Instr) => !c.wf) = true := by decide +kernel
theorem test_wf_refuses_5 : (List.all [
    .ctxFree 4096, .teardownComplete 1024, .teardownEscalate 1024, .regionAdd 4096, .regionRemove 4096, .regionRenew 4096, .regionCommandDone 4096,
    .post 2 0, .post 0 4096, .copyEntryStart 4096, .copyPieceIssue 512 [], .bulkLost 512, .combiningFlush 16384, .combiningStale 16384,
    .groupCreate 4096, .groupDestroy 4096, .collAbort 4096, .legDispatch 4096 0, .legDispatch 0 16, .peerTimeout 4096, .portExpect 4096,
    .fabAvoid 4096, .evtRing 4096, .flr 2, .cplLost 2, .msixUnmask 2 0, .msixUnmask 0 2048, .qProgressWdog 4096, .dieHeartbeat 4, .stackMgmtWdog 32,
    .engMgmtWdog 14, .computeDieReset (.hub 0) 4, .stackReset (.hub 0) 32, .dieResetEscalate 4, .stackResetEscalate 32, .tstepLower 4,
    .thermModeForced 4, .thermForceEnd 4, .thermSensor (.cd 4) 0, .thermSensor .hub 8, .clkDeltaT (.cd 4) .hub, .clkDeltaT .hub (.cd 4),
    .modeChange 2 0, .pwrFastLimit ⟨4, 0⟩, .dipWarn ⟨41, 0⟩, .dipReset ⟨41, 0⟩, .dipFloorRelease ⟨41, 0⟩, .pwrStackLost ⟨32, 0⟩, .thermalShutdown ⟨(.cd 4), 0⟩, .latTol 2 0,
    .coreP1Entry 32, .vrNoAck 8, .evcSel 2 0 0 0, .evcSel 0 83 0 0, .evcSel 0 0 32 0, .snapArm 2, .snapNow 2, .arrayResetDone 32 0 true,
    .arrayResetDone 0 2 true, .coreResetDone 32] fun (c : Instr) => !c.wf) = true := by decide +kernel
theorem test_wf_refuses_6 : (List.all [
    .computeDieResetDone 4, .stackResetDone 32, .linkResetDone 14, .pcieLinkDown 2 true, .pcieLinkUp 2 1 1 ⟨true, 1⟩, .pcieLinkUp 0 0 1 ⟨true, 1⟩,
    .pcieLinkUp 0 7 1 ⟨true, 1⟩, .pcieLinkUp 0 1 3 ⟨true, 3⟩, .pcieLinkUp 0 1 1 ⟨true, 2⟩, .pcieLinkUp 0 1 8 ⟨false, 4⟩, .idleControlFlit 14 0, .idleControlFlit 0 8] fun (c : Instr) => !c.wf) = true := by decide +kernel
/-- The bounds inside the operands: thread, wavelength, link, unit and packet. -/
theorem test_wf_operands : (List.all [(⟨0, 16⟩ : Tid), ⟨32, 15⟩] fun x => !x.ok) = true ∧
    (List.all [(⟨0, 8, 0, 0⟩ : LambdaRef), ⟨0, 0, 2, 0⟩, ⟨0, 0, 0, 16⟩, ⟨14, 0, 0, 0⟩] fun l => !l.ok) = true ∧
    (List.all [LinkRef.circuit 16, .d2d 0x16, .d2d 0x40] fun l => !l.ok) = true ∧ (List.all [TUnit.stack 32, .eng 14] fun u => !u.ok) = true ∧
    (List.all [{ badPkt with size := 513 }, { pkt0 .load 0 3 with vc := 6 }, { pkt0 .load 0 3 with srcDev := 2 ^ 14 },
      { pkt0 .load 0 3 with srcDom := 16 }, { pkt0 .load 0 3 with dstDev := 2 ^ 14 }, { pkt0 .load 0 3 with dstDom := 16 },
      { pkt0 .load 0 3 with ctx := 1024 }, pkt0 .load 1 3] fun p => !p.ok) = true ∧
    (List.all [Instr.thermSensor (.eng 0) 2, .thermSensor (.stack 0) 4, .thermSensor (.cd 0) 36] fun c => !c.wf) = true := by decide +kernel

/-! ### Words of the encoding, written out from R276–R280, one for each group of opcodes -/

/-- D = 3 (bits 12:8), A = 2 (bits 17:13), B = 5 (bits 22:18), C = 6 (bits 27:23), FN = 1 (bits 31:28); the upper word is 0x10. -/
theorem test_words : decodeCore x0 (0x00000010_00000000 + 0x10000000 + 6 * 0x800000 + 5 * 0x40000 + 2 * 0x2000 + 3 * 0x100 + 0x02) =
      .add x0 ⟨3, 2, 5, 6, 1, 0x10⟩ ∧ decodeCore x0 (8 * 2 ^ 32 + 2 * 0x2000 + 5 * 0x40000 + 0x20) = .beq x0 ⟨0, 2, 5, 0, 0, 8⟩ ∧
    decodeCore x0 (0x10 * 2 ^ 32 + 3 * 0x10000000 + 2 * 0x2000 + 3 * 0x100 + 0x40) = .ld x0 ⟨3, 2, 0, 0, 3, 0x10⟩ ∧
    decodeCore x0 (2 * 0x2000 + 3 * 0x100 + 0x50) = .rld x0 ⟨3, 2, 0, 0, 0, 0⟩ ∧ decodeCore x0 (2 * 0x2000 + 5 * 0x40000 + 0x60) = .sadd x0 ⟨0, 2, 5, 0, 0, 0⟩ ∧
    decodeCore x0 (0x20 * 2 ^ 32 + 2 * 0x2000 + 5 * 0x40000 + 3 * 0x100 + 0x80) = .vadd x0 ⟨3, 2, 5, 0, 0, 0x20⟩ ∧
    decodeCore x0 (2 * 0x2000 + 3 * 0x100 + 0xC0) = .mload x0 ⟨3, 2, 0, 0, 0, 0⟩ ∧ decodeCore x0 0xFF = .illegalInstruction x0 0xFF := by decide +kernel

/-! ### Values the manual works out, and published test values of the two standards it names -/

/-- R281: a sum that wraps. -/
theorem test_add_wraps : ∃ t, exec (.addi x0 ⟨3, 1, 0, 0, 0, 0xFFFFFFF7⟩) (with0 ready0) = .next t ∧
    (t.dev.thr x0).rg 3 = 0xFFFFFFFF_FFFFFFFF ∧ (t.dev.thr x0).pc = 0x020000000008 := ⟨_, rfl, by decide +kernel⟩
/-- The example of exact accumulation: 2^24, 1.0 and −2^24 at anchor 12, and their sum of 2^100. -/
theorem test_accumulation : convert 0 0x4B800000 12 = (BitVec.ofNat 128 (2 ^ 124), 0) ∧ convert 0 0x3F800000 12 = (BitVec.ofNat 128 (2 ^ 100), 0) ∧
    convert 0 0xCB800000 12 = (BitVec.ofInt 128 (-(2 ^ 124)), 0) ∧
    (convert 0 0x4B800000 12).1 + (convert 0 0x3F800000 12).1 + (convert 0 0xCB800000 12).1 = BitVec.ofNat 128 (2 ^ 100) := by decide +kernel
/-- The example of exact-block accumulation: (256, 2^-4, 2^-4, −256) by (256, 2^-4, 2^-4, 256) is +0, and 2^-7 under XB. -/
theorem test_block_sum : let p := fun (a b : Nat) => (decodeNum .e4m3 a).mul (decodeNum .e4m3 b)
    let ps := [p 0x78 0x78, p 0x18 0x18, p 0x18 0x18, p 0xF8 0x78]
    sumEach ps = 0 ∧ sumBlocks 16 ps 0 = 0x3C000000 := by decide +kernel
/-- The table of steep levels: 85, 87, 90 and 95 °C. -/
theorem test_steep : [850, 870, 900, 950].map steepOf = [0, 3, 8, 15] := by decide +kernel
/-- The example of routing: from (5, 0) to (62, 101) and back, X and Y. -/
theorem test_routes : axis 5 57 true true true = some ⟨-1, 2, -1, 2⟩ ∧ axis 0 (-27) true true true = some ⟨0, -1, 1, -3⟩ ∧
    axis 62 (-57) true true true = some ⟨-2, -2, 1, 1⟩ ∧ axis 101 27 true true true = some ⟨3, 1, -1, 0⟩ := by decide +kernel
/-- FIPS 180-4: the digest of "abc". The check value of CRC-32 over "123456789". -/
theorem test_digests : sha256 [0x61, 0x62, 0x63] = 0xba7816bf8f01cfea414140de5dae2223b00361a396177a9cb410ff61f20015ad ∧
    crc32 [0x31, 0x32, 0x33, 0x34, 0x35, 0x36, 0x37, 0x38, 0x39] = 0xCBF43926 := by decide +kernel
/-- R100, R101: the first words of a header and two entries of a section table. -/
theorem test_image_file : let i := readImage file0
    i.magic = 0x55545246 ∧ i.part = 0x7140 ∧ i.length = 4096 ∧ i.id = 7 ∧ i.version = 9 ∧ i.kind = 1 ∧ i.minClass = 2 ∧ i.unusedZero = true ∧
    i.table.map (fun e => (e.type, e.offset, e.length)) = [(1, 256, 64), (0x10, 512, 128)] := by decide +kernel
/-- The example of exit latencies: 100 µs and 1,000 µs allow P2 of 50 µs, not P3. -/
theorem test_latency : ({ dev0 with img := { idev with loaded := some { img0 with power := ⟨[2400, 3800, 2800], 0, [2, 50, 500, 5000]⟩ } }
                                    pow := { lt0 := 100, lt1 := 1000 } } : Dev).latTarget = 2 := by decide +kernel

end Sys2Proof.Tests
end

section
/-! Register writes (R15, R16, R19, R560, R563, R668, R678, R679, R704): where a write of each window ends up, and what is left of
one that the window does not take. -/

namespace Sys2Proof.Machine

variable (s : Dev)

/-! ### Core blocks -/

/-- A wake event touches the power state only. -/
theorem Dev.wakeEvent_keeps {β : Type} {g : Dev → β} (hp : ∀ s v, g { s with pow := v } = g s) : g s.wakeEvent = g s := by
  unfold Dev.wakeEvent
  split
  · exact hp s _
  · rfl

@[simp] theorem Dev.wakeEvent_coreOn (c : Nat) : s.wakeEvent.coreOn c = s.coreOn c :=
  s.wakeEvent_keeps (g := fun s => s.coreOn c) (fun _ _ => rfl)
@[simp] theorem Dev.wakeEvent_corePortOk (port c : Nat) : s.wakeEvent.corePortOk port c = s.corePortOk port c :=
  s.wakeEvent_keeps (g := fun s => s.corePortOk port c) (fun _ _ => rfl)

/-- R560: a core block takes no write of the port that does not serve the core's partition. -/
theorem Dev.coreWrite_foreign {s : Dev} {port c : Nat} (off : Nat) (w : WBits) (hc : s.coreOn c = true)
    (hp : s.corePortOk port c = false) : s.coreWrite port c off w = s.wakeEvent.logE E_HOST_NOT_OWNER c := by
  simp [Dev.coreWrite, hc, hp]

/-! ### Doorbell pages -/

/-- R563: the first 64 bytes of an open doorbell page are STAGE. -/
theorem Dev.doorWrite_stage {s : Dev} {port q o : Nat} (size : Nat) (v : Word) (h : s.doorOpen port q = true) (ho : o < 0x40) :
    s.doorWrite port q o size v = s.stageWrite q o size v := by
  simp [Dev.doorWrite, h, ho]

theorem Dev.ready_of_doorOpen {s : Dev} {port q : Nat} (h : s.doorOpen port q = true) : s.ready = true :=
  (Bool.and_eq_true_iff.mp h).1

/-! ### Counter banks -/

theorem Dev.bankWrite_owned {s : Dev} {port b kind n : Nat} (f : Nat → Nat → Dev → Dev) (hs : s.bankShape b = some (kind, n))
    (hp : s.bankPortOk port b = true) : s.bankWrite port b f = f kind n s := by
  simp [Dev.bankWrite, hs, hp]

theorem Dev.bankWrite_foreign {s : Dev} {port b kind n : Nat} (f : Nat → Nat → Dev → Dev) (hs : s.bankShape b = some (kind, n))
    (hp : s.bankPortOk port b = false) : s.bankWrite port b f = s.logE E_HOST_NOT_OWNER (b - 5) := by
  simp [Dev.bankWrite, hs, hp]

/-- R668: a source that the kind of bank has is taken as written. -/
theorem Dev.selWrite_source {s : Dev} {kind : Nat} {v : Word} (b j : Nat)
    (h : sourceOk kind (s.boot.compatClass == 2) (fldN (v &&& selMask) 0 8) = true) :
    s.selWrite b kind j v = s.modCtr b j fun c => { c with sel := v &&& selMask } := by
  simp [Dev.selWrite, h]

/-! ### Which window a block is -/

/-- R15, R16: a plain register of the HUB block takes the written bits of its field. -/
theorem Dev.csrWrite_hubPlain {off : Nat} {field reset : Word} (port size : Nat) (v : Word)
    (h : hubPlain (off / 8 * 8) = some (field, reset)) :
    s.csrWrite port 0 off size v = s.plainWrite 0 (off / 8 * 8) (wbits off size v) field reset := by
  simp [Dev.csrWrite, Dev.hubWrite, h]

theorem Dev.csrWrite_core {s : Dev} {c : Nat} (port off size : Nat) (v : Word) (hr : s.ready = true) (hc : c < 32) :
    s.csrWrite port (0x10 + c) off size v = s.coreWrite port c (off / 8 * 8) (wbits off size v) := by
  have h0 : ¬ 0x10 + c = 0 := by omega
  have h1 : ¬ 0x10 + c = 1 := by omega
  have h2 : ¬ 0x80 ≤ 0x10 + c := by omega
  have h3 : 0x10 ≤ 0x10 + c ∧ 0x10 + c < 0x30 := by omega
  simp only [Dev.csrWrite, hr, h0, h1, h2, h3, Bool.not_true, Bool.false_eq_true, if_false, and_self, if_true,
    Nat.add_sub_cancel_left]

/-- R558: doorbell page `q` lies at block 0x80 + q / 256. -/
theorem Dev.csrWrite_door {s : Dev} {o : Nat} (port q size : Nat) (v : Word) (hr : s.ready = true) (ho : o < 4096) :
    s.csrWrite port (0x80 + q / 256) (4096 * (q % 256) + o) size v = s.doorWrite port q o size v := by
  have h0 : ¬ 0x80 + q / 256 = 0 := by omega
  have h1 : ¬ 0x80 + q / 256 = 1 := by omega
  have h2 : 0x80 ≤ 0x80 + q / 256 := by omega
  have hq : (0x80 + q / 256 - 0x80) * 256 + (4096 * (q % 256) + o) / 4096 = q := by omega
  have ho' : (4096 * (q % 256) + o) % 4096 = o := by omega
  simp only [Dev.csrWrite, hr, h0, h1, h2, hq, ho', Bool.not_true, Bool.false_eq_true, if_false, if_true]

/-! ### The commands -/

/-- What a well-formed write answers. -/
theorem answers_csrWrite {s : State} {port block off size : Nat} {v : Word} {d : Dev} (hl : s.dev.live = true) (hp : port < 2)
    (hb : block < 144) (ho : off < 2 ^ 20) (hs : size = 4 ∨ size = 8) (ha : off % size = 0)
    (hd : s.dev.csrWrite port block off size v = d) : answers (.csrWrite port block off size v) s d := by
  have hwf : (Instr.csrWrite port block off size v).wf = true := by
    simp only [wf_csrWrite, Bool.and_eq_true, Bool.or_eq_true, decide_eq_true_eq, beq_iff_eq]
    exact ⟨⟨⟨⟨hp, hb⟩, ho⟩, hs⟩, ha⟩
  exact answers_act (f := fun s => s.csrWrite port block off size v) (exec_csrWrite port block off size v s) hwf hl hd

/-- R667: the write of SEL `j` of a bank that is there. -/
theorem answers_evcSel {s : State} {port bank j : Nat} {v : Word} {d : Dev} (hl : s.dev.live = true) (hp : port < 2)
    (hb : bank < 83) (hj : j < 32) (hr : s.dev.ready = true)
    (hd : (s.dev.bankWrite port bank fun kind n s => if j < n then s.selWrite bank kind j v else s) = d) :
    answers (.evcSel port bank j v) s d := by
  refine answers_actIf (exec_evcSel port bank j v s) (by simp [hp, hb, hj]) hl ?_
  simpa [hr] using hd

/-- Settles O27: a command of each clause is well-formed, and its write ends up in the window that its block is. -/
theorem registerWrites : Obligations.RegisterWrites := by
  intro s port hl hp
  refine ⟨?plain, ?core, ?stage, ?bad, ?evc⟩
  case plain =>
    intro off size v field reset ho hs ha hf
    exact answers_csrWrite hl hp (by omega) ho hs ha (s.dev.csrWrite_hubPlain port size v hf)
  case core =>
    intro c off v hr hc ho ha hon hport
    exact answers_csrWrite hl hp (by omega) ho (.inr rfl) ha
      ((Dev.csrWrite_core port off 8 v hr hc).trans (Dev.coreWrite_foreign _ _ hon hport))
  case stage =>
    intro q o size v hq hs ha hfit hopen
    have haligned : (4096 * (q % 256) + o) % size = 0 := by rcases hs with rfl | rfl <;> omega
    exact answers_csrWrite hl hp (by omega) (by omega) hs haligned
      ((Dev.csrWrite_door port q size v (Dev.ready_of_doorOpen hopen) (by omega)).trans (Dev.doorWrite_stage size v hopen (by omega)))
  case bad =>
    intro isWrite size
    exact answers_act (exec_csrAccessBad port isWrite size s) (by simp [hp]) hl rfl
  case evc =>
    intro hr
    refine ⟨fun bank j v kind n hb hj hn hs => ⟨fun hport hsrc => ?_, fun hport => ?_⟩, ?_, ?_⟩
    · refine answers_evcSel hl hp hb hj hr ((Dev.bankWrite_owned _ hs hport).trans ?_)
      rw [if_pos hn, Dev.selWrite_source bank j hsrc]
    · exact answers_evcSel hl hp hb hj hr (Dev.bankWrite_foreign _ hs hport)
    · exact answers_actIf (exec_snapArm port s) (by simp [hp]) hl (by simp [hr, Dev.snapArmed])
    · exact answers_actIf (exec_snapNow port s) (by simp [hp]) hl (by simp [hr])

end Sys2Proof.Machine
end

section
/-! Die-to-die links in service (R25, R26, R33, R34, R36, R41, R365): what a flit leaves of its link, what a lane swap leaves of its
bundle. -/

namespace Sys2Proof

/-! ### Keys of a sparse table -/

variable {α : Type}

theorem any_key_insert (m : SMap α) (k j : Nat) (v : α) :
    (insert m k v).any (·.1 == j) = (k == j || m.any (·.1 == j)) := by
  induction m with
  | nil => rfl
  | cons e m ih =>
    obtain ⟨i, w⟩ := e
    unfold insert
    split
    · next h => subst h; simp
    · split
      · rfl
      · simp only [List.any_cons, ih]
        exact Bool.or_left_comm _ _ _

/-- The entries from key `n` on. -/
theorem any_key_filter_le (m : SMap α) (n k : Nat) :
    (m.filter fun e => decide (n ≤ e.1)).any (·.1 == k) = (decide (n ≤ k) && m.any (·.1 == k)) := by
  rw [List.any_filter]
  induction m with
  | nil => simp
  | cons e m ih =>
    rw [List.any_cons, List.any_cons, ih, Bool.and_or_distrib_left]
    by_cases h : e.1 = k
    · rw [h]
    · rw [beq_false_of_ne h, Bool.and_false, Bool.and_false]

theorem any_key_drop (m : SMap α) {k j : Nat} (h : k ≠ j) : (drop m k).any (·.1 == j) = m.any (·.1 == j) := by
  rw [drop, List.any_filter]
  congr 1
  funext e
  by_cases he : e.1 = j
  · subst he
    simp [Ne.symm h]
  · simp [he]

theorem any_key_of_lt {m : SMap α} {k : Nat} (h : ∀ e ∈ m, k < e.1) : m.any (·.1 == k) = false := by
  rw [List.any_eq_false]
  intro e he heq
  exact (h e he).ne' (beq_iff_eq.mp heq)

/-! ### Bits of a mask -/

theorem getLsbD_setBit {w : Nat} (m : BitVec w) (i : Nat) {j : Nat} (hj : j < w) :
    (Machine.setBit m i).getLsbD j = (decide (j = i) || m.getLsbD j) := by
  rw [Machine.setBit, BitVec.getLsbD_or, BitVec.getLsbD_ofNat, Nat.testBit_two_pow, Bool.or_comm]
  simp [hj, eq_comm]

theorem getLsbD_clearBit {w : Nat} (m : BitVec w) (i : Nat) {j : Nat} (hj : j < w) :
    (Machine.clearBit m i).getLsbD j = (m.getLsbD j && j != i) := by
  rw [Machine.clearBit, BitVec.getLsbD_and, BitVec.getLsbD_not, BitVec.getLsbD_ofNat, Nat.testBit_two_pow]
  simp [hj, bne, beq_eq_decide, eq_comm]

end Sys2Proof

namespace Sys2Proof.Machine

/-! ### A receiver (R25, R365) -/

/-- Nothing is delivered where the flit that is next has not arrived. -/
theorem Rx.advance_waits (n : Nat) {r : Rx} (h : r.held.any (·.1 == r.next) = false) : Rx.advance n r = r := by
  cases n with
  | zero => rfl
  | succ n => simp [Rx.advance, h]

theorem Rx.advance_delivers (n : Nat) {r : Rx} (h : r.held.any (·.1 == r.next) = true) :
    Rx.advance (n + 1) r = Rx.advance n
      { r with delivered := r.delivered ++ [look 0 r.held r.next], held := drop r.held r.next, next := r.next + 1 } := by
  simp [Rx.advance, h]

variable (r : Rx) (flit : BitVec 1024)

theorem Rx.receive_bad (seq : Nat) : r.receive seq false flit = { r with nakked := addNew r.nakked seq } := rfl

/-- R365: a flit delivered before is not delivered again. -/
theorem Rx.receive_old {r : Rx} {seq : Nat} (h : seq < r.next) :
    r.receive seq true flit = { r with nakked := r.nakked.filter (· ≠ seq) } := by
  simp [Rx.receive, h]

theorem Rx.receive_new {r : Rx} {seq : Nat} (h : ¬ seq < r.next) :
    r.receive seq true flit =
      Rx.advance (r.held.length + 1) { r with held := insert r.held seq flit, nakked := r.nakked.filter (· ≠ seq) } := by
  simp [Rx.receive, h]

/-- R25: a flit ahead of one that is missing is held. -/
theorem Rx.receive_ahead {r : Rx} {seq : Nat} (h : r.next < seq) (hm : r.held.any (·.1 == r.next) = false) :
    r.receive seq true flit = { r with held := insert r.held seq flit, nakked := r.nakked.filter (· ≠ seq) } := by
  have hne : (seq == r.next) = false := beq_false_of_ne (by omega)
  rw [Rx.receive_new flit (by omega), Rx.advance_waits]
  rw [any_key_insert, hne, hm, Bool.or_self]

/-- R25: the flit that is next is delivered, and no other where its successor has not arrived. -/
theorem Rx.receive_next {r : Rx} (hm : r.held.any (·.1 == r.next + 1) = false) :
    r.receive r.next true flit = { r with
      next := r.next + 1, delivered := r.delivered ++ [flit], held := drop (insert r.held r.next flit) r.next
      nakked := r.nakked.filter (· ≠ r.next) } := by
  have hhere : (insert r.held r.next flit).any (·.1 == r.next) = true := by rw [any_key_insert, beq_self_eq_true, Bool.true_or]
  have hgap : (drop (insert r.held r.next flit) r.next).any (·.1 == r.next + 1) = false := by
    rw [any_key_drop _ (by omega), any_key_insert, hm]
    simp
  rw [Rx.receive_new flit (lt_irrefl _), Rx.advance_delivers _ hhere, Rx.advance_waits _ hgap, look_insert_same]

/-! ### Both directions of a link -/

variable (k : DLink) (dir : Nat)

@[simp] theorem DLink.rx_setRx (v : Rx) : (k.setRx dir v).rx dir = v := by unfold DLink.setRx DLink.rx; split <;> rfl
@[simp] theorem DLink.tx_setTx (v : SMap (BitVec 1024)) : (k.setTx dir v).tx dir = v := by unfold DLink.setTx DLink.tx; split <;> rfl
@[simp] theorem DLink.credHeld_hold (b : Bool) : (k.hold dir b).credHeld dir = b := by unfold DLink.hold DLink.credHeld; split <;> rfl
@[simp] theorem DLink.tx_setRx (i : Nat) (v : Rx) : (k.setRx dir v).tx i = k.tx i := by unfold DLink.setRx; split <;> rfl
@[simp] theorem DLink.rx_setTx (i : Nat) (v : SMap (BitVec 1024)) : (k.setTx dir v).rx i = k.rx i := by unfold DLink.setTx; split <;> rfl
@[simp] theorem DLink.rx_setSpent (i n : Nat) : (k.setSpent dir n).rx i = k.rx i := by unfold DLink.setSpent; split <;> rfl
@[simp] theorem DLink.tx_setSpent (i n : Nat) : (k.setSpent dir n).tx i = k.tx i := by unfold DLink.setSpent; split <;> rfl
@[simp] theorem DLink.bundles_setRx (v : Rx) : (k.setRx dir v).bundles = k.bundles := by unfold DLink.setRx; split <;> rfl
@[simp] theorem DLink.bundles_setTx (v : SMap (BitVec 1024)) : (k.setTx dir v).bundles = k.bundles := by unfold DLink.setTx; split <;> rfl
@[simp] theorem DLink.bundles_setSpent (n : Nat) : (k.setSpent dir n).bundles = k.bundles := by unfold DLink.setSpent; split <;> rfl
@[simp] theorem DLink.bundles_hold (b : Bool) : (k.hold dir b).bundles = k.bundles := by unfold DLink.hold; split <;> rfl

variable {dir}

theorem DLink.rx_setRx_other (v : Rx) (h : dir < 2) : (k.setRx dir v).rx (1 - dir) = k.rx (1 - dir) := by
  interval_cases dir <;> rfl
theorem DLink.tx_setTx_other (v : SMap (BitVec 1024)) (h : dir < 2) : (k.setTx dir v).tx (1 - dir) = k.tx (1 - dir) := by
  interval_cases dir <;> rfl

/-! ### The replay buffer (R25) -/

variable (seq : Nat)

/-- R25: the link once the sender of a direction keeps the flit of a sequence number: sent now, or before. -/
def DLink.keep (dir : Nat) : DLink := if k.again dir seq then k else k.sendFlit dir seq flit

@[simp] theorem DLink.rx_sendFlit (i : Nat) : (k.sendFlit dir seq flit).rx i = k.rx i := by simp [DLink.sendFlit]
@[simp] theorem DLink.tx_sendFlit : (k.sendFlit dir seq flit).tx dir = insert (k.tx dir) seq flit := by simp [DLink.sendFlit]
@[simp] theorem DLink.bundles_sendFlit : (k.sendFlit dir seq flit).bundles = k.bundles := by simp [DLink.sendFlit]
theorem DLink.tx_sendFlit_other (h : dir < 2) : (k.sendFlit dir seq flit).tx (1 - dir) = k.tx (1 - dir) := by
  rw [DLink.sendFlit, DLink.tx_setSpent, DLink.tx_setTx_other _ _ h]

@[simp] theorem DLink.rx_keep (i : Nat) : (k.keep flit seq dir).rx i = k.rx i := by unfold DLink.keep; split <;> simp
@[simp] theorem DLink.bundles_keep : (k.keep flit seq dir).bundles = k.bundles := by unfold DLink.keep; split <;> simp
theorem DLink.tx_keep_other (h : dir < 2) : (k.keep flit seq dir).tx (1 - dir) = k.tx (1 - dir) := by
  unfold DLink.keep
  split
  · rfl
  · exact k.tx_sendFlit_other flit seq h

@[simp] theorem DLink.again_keep : (k.keep flit seq dir).again dir seq = true := by
  unfold DLink.keep
  split
  · assumption
  · rw [DLink.again, DLink.tx_sendFlit, any_key_insert, beq_self_eq_true, Bool.true_or]

/-- R25: a replay carries what the buffer holds; a flit sent for the first time is what the buffer comes to hold. -/
@[simp] theorem DLink.content_keep : (k.keep flit seq dir).content dir seq flit = k.content dir seq flit := by
  rw [DLink.content, DLink.again_keep, if_pos rfl, DLink.content, DLink.keep]
  split
  · rfl
  · rw [DLink.tx_sendFlit, look_insert_same]

/-! ### A flit arrives (R25) -/

variable {k seq} (ok : Bool)

theorem DLink.arrive_taken (h : k.taken dir seq = true) : k.arrive dir seq ok flit = k := by simp [DLink.arrive, h]

/-- R25: a flit not taken up before is received, and the sender drops what the receiver has delivered. -/
theorem DLink.arrive_untaken (h : k.taken dir seq = false) :
    k.arrive dir seq ok flit =
      ((k.keep flit seq dir).setRx dir ((k.rx dir).receive seq ok (k.content dir seq flit))).setTx dir
        (((k.keep flit seq dir).tx dir).filter fun e =>
          decide (((k.rx dir).receive seq ok (k.content dir seq flit)).next ≤ e.1)) := by
  have hkeep : (if k.taken dir seq || k.again dir seq then k else k.sendFlit dir seq flit) = k.keep flit seq dir := by
    rw [h, Bool.false_or, DLink.keep]
  have htaken : (k.keep flit seq dir).taken dir seq = false := by rw [DLink.taken, DLink.rx_keep, ← DLink.taken, h]
  simp only [DLink.arrive, hkeep, htaken, DLink.rx_keep, DLink.content_keep, Bool.false_eq_true, if_false]

theorem DLink.rx_arrive (h : k.taken dir seq = false) :
    (k.arrive dir seq ok flit).rx dir = (k.rx dir).receive seq ok (k.content dir seq flit) := by
  rw [DLink.arrive_untaken flit ok h, DLink.rx_setTx, DLink.rx_setRx]

/-- R25: the flit comes again exactly while the receiver has not passed it. -/
theorem DLink.again_arrive (h : k.taken dir seq = false) :
    (k.arrive dir seq ok flit).again dir seq = decide (((k.arrive dir seq ok flit).rx dir).next ≤ seq) := by
  rw [DLink.rx_arrive flit ok h, DLink.again, DLink.arrive_untaken flit ok h, DLink.tx_setTx, any_key_filter_le, ← DLink.again,
    DLink.again_keep, Bool.and_true]

theorem DLink.next_le_of_untaken (h : k.taken dir seq = false) : (k.rx dir).next ≤ seq :=
  not_lt.mp (of_decide_eq_false (Bool.or_eq_false_iff.mp h).1)

variable (k seq)

theorem DLink.bundles_arrive : (k.arrive dir seq ok flit).bundles = k.bundles := by
  cases h : k.taken dir seq
  · rw [DLink.arrive_untaken flit ok h]; simp
  · rw [DLink.arrive_taken flit ok h]

/-- A flit leaves the other direction of its link alone. -/
theorem DLink.arrive_other (hd : dir < 2) :
    (k.arrive dir seq ok flit).rx (1 - dir) = k.rx (1 - dir) ∧ (k.arrive dir seq ok flit).tx (1 - dir) = k.tx (1 - dir) := by
  cases h : k.taken dir seq
  · rw [DLink.arrive_untaken flit ok h]
    exact ⟨by rw [DLink.rx_setTx, DLink.rx_setRx_other _ _ hd, DLink.rx_keep],
      by rw [DLink.tx_setTx_other _ _ hd, DLink.tx_setRx, DLink.tx_keep_other _ _ _ hd]⟩
  · rw [DLink.arrive_taken flit ok h]
    exact ⟨rfl, rfl⟩

/-! ### Links and bundles of the device -/

section

variable (s : Dev) (l b : Nat)

theorem Dev.link_of_d2d {s t : Dev} (h : s.d2d = t.d2d) (l : Nat) : s.link l = t.link l := by rw [Dev.link, Dev.link, h]

/-- A change of a link that keeps its bundles. -/
theorem Dev.bundle_modLink {s : Dev} {l : Nat} {f : DLink → DLink} (h : (f (s.link l)).bundles = (s.link l).bundles) (dir b : Nat) :
    (s.modLink l f).bundle l dir b = s.bundle l dir b := by
  rw [Dev.bundle, Dev.link_modLink, h, Dev.bundle]

/-- Credits are none of a link's bundles. -/
theorem Dev.bundle_hold (i : Nat) (h : Bool) : (s.modLink l (·.hold dir h)).bundle l i b = s.bundle l i b :=
  Dev.bundle_modLink ((s.link l).bundles_hold dir h) i b

theorem Dev.countLink_keeps {β : Type} {g : Dev → β} (he : ∀ s v, g { s with evc := v } = g s) (die : Option Nat) (src : Nat) :
    g (s.countLink die src l) = g s := by
  cases die with
  | none => rfl
  | some n => exact s.count_keeps he _ _ _ _ _ _

/-- R90: work stops no test where none runs. -/
theorem Dev.workFor_idle {s : Dev} {kind unit : Nat} (h : s.testRunning kind unit = false) : s.workFor kind unit = s := by
  have hnone : (s.tests.running.any fun r => r.kind == kind && r.unit == unit && !r.granted) = false := by
    rw [Dev.testRunning, List.any_eq_false] at h
    rw [List.any_eq_false]
    intro r hr
    simp [Bool.eq_false_iff.mpr (h r hr)]
  rw [Dev.workFor, hnone, if_neg Bool.false_ne_true]

/-- R428: where no audit runs, none is given up. -/
theorem Dev.auditing_idle {s : Dev} (h : s.fab.auditing = []) (p : LinkRef → Bool) :
    ({ s with fab := { s.fab with auditing := s.fab.auditing.filter p } } : Dev) = s := by
  have : { s.fab with auditing := s.fab.auditing.filter p } = s.fab := by
    rw [h, List.filter_nil, ← h]
  rw [this]

/-! ### A flit at its bundle (R25, R26, R51) -/

/-- R26, R51: the counters of a bundle after a flit. -/
def Bundle.counted (u : Bundle) (now : Nat) (ok : Bool) (errs : List Nat) (replayed : Bool) : Bundle :=
  { u.countErrs now errs with
    crcErr := if ok then u.crcErr else sat16 u.crcErr
    replay := if replayed then sat16 u.replay else u.replay }

/-- R428, R674: the device once a flit of a link is noted: an audit of the link is over, and the dies at its ends count it. -/
def Dev.flitNoted (s : Dev) (l dir : Nat) (replayed : Bool) : Dev :=
  ((({ s with fab := { s.fab with auditing := s.fab.auditing.filter (· ≠ .d2d l) } } : Dev).countLink
    (sendDie l dir) 0x24 l).countLink (recvDie l dir) 0x25 l).when replayed fun s => s.countLink (sendDie l dir) 0x26 l

theorem Dev.flitNoted_keeps {β : Type} {g : Dev → β} (hf : ∀ s v, g { s with fab := v } = g s)
    (he : ∀ s v, g { s with evc := v } = g s) (l dir : Nat) (replayed : Bool) : g (s.flitNoted l dir replayed) = g s := by
  rw [Dev.flitNoted, Dev.when_keeps g _ _ (Dev.countLink_keeps _ _ he _ _), Dev.countLink_keeps _ _ he, Dev.countLink_keeps _ _ he, hf]

section

variable {s l b} {errs : List Nat} (ht : s.testRunning 4 l = false)
include ht

/-- R25, R54, R426: a flit that its bundle, its link or its sender does not let through changes nothing. -/
theorem Dev.d2dFlit_stopped (ha : s.fab.auditing = [])
    (h : (s.bundle l dir b).st ≠ .active ∨ s.linkQuiet l = true ∨ (s.link l).maySend l dir seq = false) :
    s.d2dFlit l dir b seq ok errs flit = s := by
  have h' : (s.bundle l dir b).st ≠ .active ∨ s.linkQuiet l ∨ !(s.link l).maySend l dir seq := by simpa using h
  simp only [Dev.d2dFlit, Dev.workFor_idle ht, Dev.auditing_idle ha]
  exact if_pos h'

variable (hst : (s.bundle l dir b).st = .active) (hq : s.linkQuiet l = false) (hm : (s.link l).maySend l dir seq = true)
include hst hq hm

/-- R25: a flit that is let through is counted, arrives at its link, and is asked for again where its CRC fails. -/
theorem Dev.d2dFlit_passed : s.d2dFlit l dir b seq ok errs flit =
    (((s.flitNoted l dir ((s.link l).taken dir seq || (s.link l).again dir seq)).modLink l (·.arrive dir seq ok flit)).modBundle l dir b
      (·.counted s.clock ok errs ((s.link l).taken dir seq || (s.link l).again dir seq))).when (!ok)
        (·.out (.replay (.d2d l) dir seq)) := by
  have h' : ¬ ((s.bundle l dir b).st ≠ .active ∨ s.linkQuiet l ∨ !(s.link l).maySend l dir seq) := by simp [hst, hq, hm]
  have hclock (r : Bool) : (s.flitNoted l dir r).clock = s.clock := s.flitNoted_keeps (fun _ _ => rfl) (fun _ _ => rfl) l dir r
  rw [← hclock ((s.link l).taken dir seq || (s.link l).again dir seq), Dev.d2dFlit, Dev.workFor_idle ht]
  refine (if_neg h').trans ?_
  cases ok <;> rfl

/-- What a flit that is let through leaves of its link, of its bundle, and of what goes out. -/
theorem Dev.d2dFlit_effect :
    { (s.d2dFlit l dir b seq ok errs flit).link l with bundles := (s.link l).bundles } = (s.link l).arrive dir seq ok flit ∧
    (s.d2dFlit l dir b seq ok errs flit).bundle l dir b =
      (s.bundle l dir b).counted s.clock ok errs ((s.link l).taken dir seq || (s.link l).again dir seq) ∧
    (s.d2dFlit l dir b seq ok errs flit).outbox = s.outbox ++ if ok then [] else [.replay (.d2d l) dir seq] := by
  have hd2d (r : Bool) : (s.flitNoted l dir r).d2d = s.d2d := s.flitNoted_keeps (fun _ _ => rfl) (fun _ _ => rfl) l dir r
  have hout (r : Bool) : (s.flitNoted l dir r).outbox = s.outbox := s.flitNoted_keeps (fun _ _ => rfl) (fun _ _ => rfl) l dir r
  have hlink (r : Bool) : (s.flitNoted l dir r).link l = s.link l := Dev.link_of_d2d (hd2d r) l
  rw [Dev.d2dFlit_passed flit seq ok ht hst hq hm]
  refine ⟨?_, ?_, ?_⟩
  · rw [Dev.when_keeps (·.link l) _ _ rfl, Dev.modBundle, Dev.link_modLink, Dev.link_modLink, hlink,
      ← DLink.bundles_arrive flit (s.link l) seq ok]
  · rw [Dev.when_keeps (·.bundle l dir b) _ _ rfl, Dev.bundle_modBundle, Dev.bundle_modLink (DLink.bundles_arrive _ _ _ _), Dev.bundle,
      hlink, ← Dev.bundle]
  · cases ok
    · rw [Bool.not_false, Dev.when_true, Dev.out_outbox, Dev.modBundle_outbox, Dev.modLink_outbox, hout]
      rfl
    · rw [Bool.not_true, Dev.when_false, Dev.modBundle_outbox, Dev.modLink_outbox, hout]
      simp

end

/-! ### A lane swap (R33, R34) -/

/-- A repair is logged and reported, and touches no link. -/
theorem Dev.repaired_d2d (code : Code) (unit : Nat) (d : Word) : (s.repaired code unit d).d2d = s.d2d := by
  unfold Dev.repaired Dev.report
  split
  · exact Dev.eventAll_keeps (g := Dev.d2d) _ (fun _ _ => rfl) (fun _ _ => rfl) _ _ _ _ _
  · rfl

section

variable {s l b} {lane i : Nat}
  (hfree : ((List.range 68).find? fun i => !(s.bundle l dir b).mask.getLsbD i && !(setBit (s.badLanes l dir b) lane).getLsbD i) = some i)
include hfree

theorem Dev.bundle_swapLane : (s.swapLane l dir b lane).bundle l dir b =
    { (s.bundle l dir b).exclude (setBit 0 lane) with
      errs := [], st := .swapping, mask := setBit (clearBit (s.bundle l dir b).mask lane) i } := by
  simp only [Dev.swapLane, hfree]
  rw [Dev.bundle, Dev.link_of_d2d (Dev.repaired_d2d _ _ _ _), ← Dev.bundle, Dev.bundle_modBundle, Dev.bundle_hold,
    Dev.bundle_modBundle]
  rfl

/-- R37: the receiver of the bundle's direction holds its credits. -/
theorem Dev.credHeld_swapLane : ((s.swapLane l dir b lane).link l).credHeld dir = true := by
  simp only [Dev.swapLane, hfree]
  rw [Dev.link_of_d2d (Dev.repaired_d2d _ _ _ _), Dev.modBundle, Dev.link_modLink, Dev.link_modLink]
  exact DLink.credHeld_hold _ _ _

end

theorem Bundle.excl_exclude (u : Bundle) (m : BitVec 68) : (u.exclude m).excl = u.excl ||| m := by
  ext i
  simp only [Bundle.excl, Bundle.exclude, BitVec.getElem_or]
  exact (sup_sup_distrib_right u.exclA[i] u.exclB[i] m[i]).symm

/-- R34: the lane that a swap finds is the lowest that is neither in use, nor excluded, nor the failing one. -/
theorem Dev.swapLane_finds_lowestFree {d : Dev} {l dir b lane i : Nat} (hi : i < 68)
    (hfree : (!(d.bundle l dir b).mask.getLsbD i && !(d.badLanes l dir b).getLsbD i && i != lane) = true)
    (hlow : ∀ j, j < i → (!(d.bundle l dir b).mask.getLsbD j && !(d.badLanes l dir b).getLsbD j && j != lane) = false) :
    ((List.range 68).find? fun i => !(d.bundle l dir b).mask.getLsbD i && !(setBit (d.badLanes l dir b) lane).getLsbD i) = some i := by
  have hbad {j : Nat} (hj : j < 68) : (!(setBit (d.badLanes l dir b) lane).getLsbD j) = (!(d.badLanes l dir b).getLsbD j && j != lane) := by
    rw [getLsbD_setBit _ _ hj, Bool.not_or, Bool.and_comm]
    rfl
  rw [List.find?_range_eq_some]
  refine ⟨?_, List.mem_range.mpr hi, fun j hj => ?_⟩
  · rw [hbad hi, ← Bool.and_assoc, hfree]
  · rw [hbad (by omega), ← Bool.and_assoc, hlow j hj]
    rfl

end

end Sys2Proof.Machine

namespace Sys2Proof.Machine

/-! ### The commands of a link in service -/

/-- A lane that is to be swapped is, and the flits in flight are asked for again. -/
theorem answers_laneSwap_due {s : State} {l dir b lane : Nat} {flying : List (Nat × BitVec 1024)} (hl : s.dev.live = true)
    (hwf : (Instr.laneSwap l dir b ⟨lane, flying⟩).wf = true) (h : s.dev.swapDue l dir b lane = true) :
    answers (.laneSwap l dir b ⟨lane, flying⟩) s (((s.dev.swapLane l dir b lane).loseFlits l dir flying).restartAgree l) :=
  answers_act (exec_laneSwap l dir b ⟨lane, flying⟩ s) hwf hl (if_pos h)

/-- Settles O31: a flit by what it leaves of its receiver and of the replay buffer, a lane swap by the lane it takes. -/
theorem d2dLinksInService : Obligations.D2dLinksInService := by
  refine ⟨?commands, ?swap, ?receiver, ?arrival⟩
  case commands =>
    intro s l dir b hl hlink hdir hb
    refine ⟨?stopped, ?passed, ?laneSwap, ?swapDone, ?noMargin, ?margin, ?change, ?changeDone⟩
    case stopped =>
      intro seq ok errs flit herrs ht ha h
      exact answers_act (exec_d2dFlitReceive l dir b seq ⟨ok, errs⟩ flit s) (by simp [hlink, hdir, hb, herrs]) hl
        (Dev.d2dFlit_stopped flit seq ok ht ha h)
    case passed =>
      intro seq ok errs flit herrs ht hst hq hm
      exact ⟨_, answers_act (exec_d2dFlitReceive l dir b seq ⟨ok, errs⟩ flit s) (by simp [hlink, hdir, hb, herrs]) hl rfl,
        Dev.d2dFlit_effect flit seq ok ht hst hq hm⟩
    case laneSwap =>
      intro lane flying hlane
      have hwf : (Instr.laneSwap l dir b ⟨lane, flying⟩).wf = true := by simp [hlink, hdir, hb, hlane]
      refine ⟨fun hmask hst hfails => answers_laneSwap_due hl hwf ?_, answers_laneSwap_due hl hwf, fun h => ?_⟩
      · simp [Dev.swapDue, hmask, hst, hfails]
      · exact answers_act (exec_laneSwap l dir b ⟨lane, flying⟩ s) hwf hl (if_neg (Bool.eq_false_iff.mp h))
    case swapDone =>
      intro hst
      exact answers_act (exec_laneSwapDone l dir b s) (by simp [hlink, hdir, hb]) hl (if_neg (not_not_intro hst))
    case noMargin =>
      intro failing flying hclass
      exact answers_act (exec_laneMarginLive l dir b ⟨failing, flying⟩ s) (by simp [hlink, hdir, hb]) hl (if_pos (.inl hclass))
    case margin =>
      intro failing flying hclass hst hq d lanes
      have hgo : ¬ (s.dev.boot.compatClass ≠ 2 ∨ (s.dev.bundle l dir b).st ≠ .active ∨ s.dev.linkQuiet l) := by
        simp [hclass, hst, hq]
      refine ⟨fun hnone => ?_, fun hsome => ?_⟩
      · refine answers_act (exec_laneMarginLive l dir b ⟨failing, flying⟩ s) (by simp [hlink, hdir, hb]) hl ((if_neg hgo).trans ?_)
        split
        · rfl
        · next h => exact absurd hnone h
      · refine answers_act (exec_laneMarginLive l dir b ⟨failing, flying⟩ s) (by simp [hlink, hdir, hb]) hl ((if_neg hgo).trans ?_)
        split
        · next h => exact absurd h hsome
        · rfl
    case change =>
      intro hl4 hchanging up hdown hvia
      refine answers_act (exec_pathChange l up s) (by simp [hlink]) hl (if_neg ?_)
      rw [hchanging, hdown, hvia]
      simp [hl4]
    case changeDone =>
      intro hchanging hcrossing
      refine answers_act (exec_pathChangeDone l s) (by simp [hlink]) hl (if_neg ?_)
      rw [hchanging, hcrossing]
      decide
  case swap =>
    intro d l dir b lane hlane hdir hb u free u' i hi hf hlow
    have hfind := Dev.swapLane_finds_lowestFree hi hf hlow
    have hu' : u' = _ := Dev.bundle_swapLane hfind
    refine ⟨by rw [hu'], ?_, Dev.credHeld_swapLane hfind, fun j hj => ?_⟩
    · rw [hu']
      exact (Bundle.excl_exclude u (setBit 0 lane)).trans (by simp [setBit])
    · rw [hu', getLsbD_setBit _ _ hj, getLsbD_clearBit _ _ hj]
  case receiver =>
    intro r seq flit
    refine ⟨fun h => ?_, fun h hm => ?_, ?_, rfl⟩
    · rw [Rx.receive_old flit h]
      exact ⟨rfl, rfl⟩
    · rw [Rx.receive_ahead flit h hm]
      exact ⟨rfl, rfl⟩
    · rintro rfl hm -
      rw [Rx.receive_next flit hm]
      exact ⟨rfl, rfl⟩
  case arrival =>
    intro k dir seq ok flit hdir k'
    refine ⟨DLink.arrive_taken flit ok, fun ht hok => ?_, fun ht hok hseq hgap => ?_, DLink.arrive_other flit k seq ok hdir⟩
    · subst hok
      rw [DLink.again_arrive flit false ht, DLink.rx_arrive flit false ht, Rx.receive_bad]
      exact ⟨rfl, rfl, decide_eq_true (DLink.next_le_of_untaken ht)⟩
    · subst hok hseq
      have hrx := (DLink.rx_arrive flit true ht).trans (Rx.receive_next _ (any_key_of_lt hgap))
      rw [DLink.again_arrive flit true ht, hrx]
      exact ⟨rfl, rfl, decide_eq_false (by simp)⟩

end Sys2Proof.Machine
end

section
/-! The start (R55, R58, R61, R67, R70, R73–R79, R117–R122): what a halt, a measurement, the start setting and step 10 leave of the
device, and what each step that completes leads to. -/

namespace Sys2Proof.Machine

variable {β : Type} {g : Dev → β} (s : Dev)

/-! ### Messages and log entries -/

/-- An entry of the error log, made or not. -/
theorem Dev.logWhen_boot (b : Bool) (code : Code) (unit : Nat) : (s.when b fun s => s.logE code unit).boot = s.boot :=
  Dev.when_keeps Dev.boot s b rfl

theorem Dev.msix_boot (port vec : Nat) : (s.msix port vec).boot = s.boot := s.msix_keeps (fun _ _ => rfl) (fun _ _ => rfl) port vec

/-! ### A halt (R67) -/

/-- R67: a halt of the fabric writes engines and ports only. -/
theorem Dev.stopFabric_keeps (hf : ∀ s v, g { s with fab := v } = g s) : g s.stopFabric = g s := by
  unfold Dev.stopFabric
  exact (Dev.fold_keeps g (fun s p => hf s _) _ _).trans (Dev.fold_keeps g (fun s e => Dev.fold_keeps g (fun s f => hf s _) s _) s _)

/-- R67, R578: a halt logs its code, darkens the fabric and tells both hosts. -/
theorem Dev.haltStart_keeps (hh : ∀ s v, g { s with host := v } = g s)
    (ho : ∀ s v, g { s with outbox := v } = g s) (code : Code) :
    g (s.haltStart code) =
      g (({ s with boot := { s.boot with halted := true, code } } : Dev).stopFabric.logE code s.boot.step) := by
  rw [Dev.haltStart, Dev.msix_keeps _ hh ho, Dev.msix_keeps _ hh ho]

theorem Dev.haltStart_boot (code : Code) : (s.haltStart code).boot = { s.boot with halted := true, code } := by
  rw [Dev.haltStart_keeps s (g := Dev.boot) (fun _ _ => rfl) (fun _ _ => rfl), Dev.logE_boot]
  exact Dev.stopFabric_keeps (g := Dev.boot) _ fun _ _ => rfl

/-- R67: the code of a halt is the newest entry of the error log. -/
theorem Dev.haltStart_logged (code : Code) : ((s.haltStart code).rcv.log.map (·.code)).head? = some code := by
  rw [Dev.haltStart_keeps s (g := Dev.rcv) (fun _ _ => rfl) (fun _ _ => rfl)]
  rfl

/-- A command that halts the start of a device at the step of `s`. -/
theorem halts_of_haltStart {c : Instr} {s : State} {code : Code} (d : Dev) (h : answers c s (d.haltStart code))
    (hstep : d.boot.step = s.dev.boot.step) :
    ∃ d : Dev, answers c s d ∧ d.boot.halted = true ∧ d.boot.code = code ∧ d.boot.step = s.dev.boot.step ∧
      (d.rcv.log.map (·.code)).head? = some code := by
  refine ⟨d.haltStart code, h, ?_, ?_, ?_, d.haltStart_logged code⟩ <;> rw [Dev.haltStart_boot]
  exact hstep

/-! ### A measurement (R78, R81) -/

/-- A measurement writes accumulators, log and extensions that wait. -/
theorem Dev.extend_keeps (hb : ∀ s accs log w, g { s with boot := { s.boot with accs := accs, log := log, extWait := w } } = g s)
    (acc : Nat) (event : BitVec 8) (version : BitVec 32) (digest : BitVec 256) : g (s.extend acc event version digest) = g s := by
  unfold Dev.extend
  split
  · exact hb s _ _ _
  · exact hb s _ _ _

section

variable (acc : Nat) (event : BitVec 8) (version : BitVec 32) (digest : BitVec 256)

@[simp] theorem Dev.extend_firmware : (s.extend acc event version digest).boot.firmware = s.boot.firmware :=
  s.extend_keeps (g := (·.boot.firmware)) (fun _ _ _ _ => rfl) acc event version digest
@[simp] theorem Dev.extend_fwSlot : (s.extend acc event version digest).boot.fwSlot = s.boot.fwSlot :=
  s.extend_keeps (g := (·.boot.fwSlot)) (fun _ _ _ _ => rfl) acc event version digest
@[simp] theorem Dev.extend_record : (s.extend acc event version digest).boot.record = s.boot.record :=
  s.extend_keeps (g := (·.boot.record)) (fun _ _ _ _ => rfl) acc event version digest
@[simp] theorem Dev.extend_recCopy : (s.extend acc event version digest).boot.recCopy = s.boot.recCopy :=
  s.extend_keeps (g := (·.boot.recCopy)) (fun _ _ _ _ => rfl) acc event version digest
@[simp] theorem Dev.extend_keyOk : (s.extend acc event version digest).boot.keyOk = s.boot.keyOk :=
  s.extend_keeps (g := (·.boot.keyOk)) (fun _ _ _ _ => rfl) acc event version digest

end

/-! ### The next step (R61) -/

section

variable (n : Nat)

theorem Dev.toStep_record : (s.toStep n).boot.record = s.boot.record := rfl
theorem Dev.toStep_recCopy : (s.toStep n).boot.recCopy = s.boot.recCopy := rfl
theorem Dev.toStep_keyOk : (s.toStep n).boot.keyOk = s.boot.keyOk := rfl
theorem Dev.toStep_pow : (s.toStep n).pow = s.pow := rfl

end

/-! ### The start setting (R624) -/

/-- The voltages of the dies are set at their rails. -/
theorem Dev.setDies_keeps (hr : ∀ s v, g { s with pow := { s.pow with rails := v } } = g s)
    (ho : ∀ s v, g { s with outbox := v } = g s) : g s.setDies = g s := by
  have hset (s : Dev) (n mv : Nat) : g (if (s.rail n).set = mv then s else s.setVolt n mv) = g s := by
    split
    · rfl
    · exact (ho _ _).trans (hr s _)
  exact Dev.fold_keeps g (fun s n => hset s n _) s _

theorem Dev.startSetting_boot : s.startSetting.boot = s.boot := Dev.setDies_keeps (g := Dev.boot) _ (fun _ _ => rfl) fun _ _ => rfl
theorem Dev.startSetting_modeNow : s.startSetting.pow.modeNow = 2 := by
  rw [Dev.startSetting, Dev.setDies_keeps (g := fun s => s.pow.modeNow) _ (fun _ _ => rfl) fun _ _ => rfl]
theorem Dev.startSetting_osc : s.startSetting.pow.osc = s.pow.osc := by
  rw [Dev.startSetting, Dev.setDies_keeps (g := fun s => s.pow.osc) _ (fun _ _ => rfl) fun _ _ => rfl]

/-! ### Tests that leave (R92) -/

theorem Dev.testLeave_boot (kind unit : Nat) : (s.testLeave kind unit).boot = s.boot := by
  unfold Dev.testLeave
  simp only
  split <;> rfl

theorem Dev.testReport_boot (kind unit result : Nat) (code : Code) : (s.testReport kind unit result code).boot = s.boot := by
  unfold Dev.testReport
  refine (Dev.fold_keeps Dev.boot (fun s n => ?_) _ _).trans rfl
  refine (Dev.when_keeps Dev.boot _ _ ?_).trans (s.event_keeps (fun _ _ => rfl) (fun _ _ => rfl) _ _ _ _ _ _)
  exact Dev.msix_boot _ _ _

theorem Dev.testMessage_boot (kind unit : Nat) : (s.testMessage kind unit).boot = s.boot :=
  Dev.fold_keeps Dev.boot (fun s _ => s.msix_boot _ _) s _

theorem Dev.stopTest_boot (kind unit : Nat) : (s.stopTest kind unit).boot = s.boot := by
  unfold Dev.stopTest
  split
  · exact (Dev.testReport_boot _ _ _ _ _).trans (s.testLeave_boot kind unit)
  · rfl

theorem Dev.resetTests_boot (hit : Nat → Nat → Bool) : (s.resetTests hit).boot = s.boot :=
  Dev.fold_keeps Dev.boot (fun s (r : TestRun) => s.stopTest_boot r.kind r.unit) s _

theorem Dev.testDropAbsent_boot : s.testDropAbsent.boot = s.boot := by
  unfold Dev.testDropAbsent
  split
  · rfl
  · refine (Dev.fold_keeps Dev.boot (fun s r => ?_) _ _).trans (s.resetTests_boot _)
    exact Dev.testMessage_boot _ r.kind r.unit

/-! ### Step 10 (R68) -/

theorem Dev.endActive_boot (domain unit : Nat) : (s.endActive domain unit).boot = s.boot := rfl

theorem Dev.startChange_boot (m : BitVec 2) : (s.startChange m).boot = s.boot := by
  unfold Dev.startChange
  split
  · rfl
  · split <;> rfl

/-- R86: the reports of the start are sent, and none is kept. -/
theorem Dev.sendReports_boot : s.sendReports.boot = { s.boot with reports := [] } :=
  Dev.fold_keeps Dev.boot (fun s _ => s.eventAll_keeps (g := Dev.boot) (fun _ _ => rfl) (fun _ _ => rfl) _ _ _ _ _) _ _

/-- R66, R68: where no press is held, the start is at its last step. -/
theorem Dev.readyStep_step (h : s.boot.attnHeld = false) : s.readyStep.boot.step = 10 := by
  simp only [Dev.readyStep, Dev.startChange_boot, Dev.sendReports_boot, Dev.testDropAbsent_boot, Dev.endActive_boot, h, Dev.when_false]

/-! ### The steps -/

/-- The start is at step `n`, not halted, and its hub runs. -/
theorem Dev.starting_of {s : Dev} {n : Nat} (hstep : s.boot.step = n) (hhalt : s.boot.halted = false) (hhung : s.rcv.hung = false) :
    s.starting n = true := by
  simp [Dev.starting, hstep, hhalt, hhung]

variable {s}

/-- R70, R79: firmware that verified runs, from the slot that held it, and step 3 begins. -/
theorem Dev.runFirmware_boot (f : FwObj) (slot : Bool) :
    (s.runFirmware f slot).boot.step = 3 ∧ (s.runFirmware f slot).boot.fwSlot = slot ∧
      (s.runFirmware f slot).boot.firmware = some f := by
  simp [Dev.runFirmware, Dev.toStep]

/-- R70: slot B is taken where the firmware of slot A does not verify. -/
theorem Dev.fwStep_verified {a b : FwObj} (h : a.verifies = true ∨ b.verifies = true) :
    s.fwStep a b = s.runFirmware (if a.verifies then a else b) (!a.verifies) := by
  unfold Dev.fwStep
  cases ha : a.verifies
  · simp [h.resolve_left (by simp [ha])]
  · simp

theorem Dev.fwStep_invalid {a b : FwObj} (ha : a.verifies = false) (hb : b.verifies = false) :
    s.fwStep a b = s.haltStart E_BOOT_FW_INVALID := by
  simp [Dev.fwStep, ha, hb]

section

/-- R73–R79: the device with a record of this package, once both of its parts are measured. -/
def Dev.recordKept (s : Dev) (r : RecCopy) (second : Bool) : Dev :=
  ((({ s with boot := { s.boot with
      record := some r, recCopy := second, keyOk := r.unwraps, code := if r.unwraps then s.boot.code else E_KEY_UNWRAP } } : Dev).when
    (!r.unwraps) fun s => s.logE E_KEY_UNWRAP 0).extend 1 0x02 r.record.seq r.record.digest).extend 1 0x03 0 (sha256 r.record.floors)

variable {p q : Option RecCopy} {r : RecCopy} {second : Bool}

theorem Dev.recordStep_none (h : chooseRecord s.boot.part p q = none) : s.recordStep p q = s.haltStart E_BOOT_RECORD_INVALID := by
  simp only [Dev.recordStep, h]

theorem Dev.recordStep_foreign (h : chooseRecord s.boot.part p q = some (r, second)) (hb : recBound r = false) :
    s.recordStep p q = s.haltStart E_BOOT_RECORD_FOREIGN := by
  simp [Dev.recordStep, h, hb]

/-- R73–R77, R653: a record of this package is kept and measured, and the start setting made. -/
theorem Dev.recordStep_bound (h : chooseRecord s.boot.part p q = some (r, second)) (hb : recBound r = true) :
    s.recordStep p q =
      (({ s.recordKept r second with pow := { (s.recordKept r second).pow with osc := r.record.oscTrim } } : Dev).startSetting.toStep 4) := by
  simp only [Dev.recordStep, h, hb, Bool.not_true, Bool.false_eq_true, if_false]
  rfl

/-- R73–R77: what the start remembers of the record: the copy it came from, and whether the device key unwrapped. -/
theorem Dev.recordKept_boot (s : Dev) (r : RecCopy) (second : Bool) :
    (s.recordKept r second).boot.record = some r ∧ (s.recordKept r second).boot.recCopy = second ∧
      (s.recordKept r second).boot.keyOk = r.unwraps := by
  simp only [Dev.recordKept, Dev.extend_record, Dev.extend_recCopy, Dev.extend_keyOk, Dev.logWhen_boot, and_self]

end

section

variable {bad : List Nat} {tests : List LaneTest}

theorem Dev.lanesStep_incompatible {code : Code} (h : compat s.boot.steppings = .error code) :
    s.lanesStep bad tests = ({ s with boot := { s.boot with compatClass := 0, compatCode := code } } : Dev).haltStart code := by
  simp only [Dev.lanesStep, h]

variable {n : Nat} (h : compat s.boot.steppings = .ok n)
include h

/-- R689: a rail that is there has failed. -/
theorem Dev.lanesStep_rail (hbad : bad.any (fun r => decide (r < 41) && s.railThere r) = true) :
    s.lanesStep bad tests = ({ s with boot := { s.boot with compatClass := n, compatCode := E_OK } } : Dev).haltStart E_VR_RAIL := by
  simp only [Dev.lanesStep, h]
  exact if_pos hbad

theorem Dev.lanesStep_step (hbad : bad.any (fun r => decide (r < 41) && s.railThere r) = false) :
    (s.lanesStep bad tests).boot.step = 5 := by
  simp only [Dev.lanesStep, h]
  split
  · next hfailed => exact absurd hfailed (Bool.eq_false_iff.mp hbad)
  · rfl

end

/-- R117: the image of the flash is taken where the record names it and none is being checked. -/
theorem Dev.imageStep_flash (hw : s.boot.imgWanted = false) (hd : s.boot.delivered = none) (f : Option ImageFile) :
    s.imageStep f = f.elim (s.rejectImage (E_IMG_FORMAT, 0xFF, 0)) fun f => s.takeImage (readImage f) false := by
  cases f <;> simp [Dev.imageStep, hw, hd]

theorem Dev.takeImage_bad {i : Image} {v : Verdict} (h : s.checkImage i = some v) (fromHost : Bool) :
    s.takeImage i fromHost = s.rejectImage v := by
  unfold Dev.takeImage
  split
  · next w hw => rw [Option.some.inj (hw.symm.trans h)]
  · next hw => cases hw.symm.trans h

theorem Dev.takeImage_good {i : Image} (h : s.checkImage i = none) (fromHost : Bool) :
    s.takeImage i fromHost = s.applyImage i fromHost := by
  unfold Dev.takeImage
  split
  · next w hw => cases hw.symm.trans h
  · rfl

/-- R120: the mailbox that delivered the image reports what its check found. -/
theorem Dev.checkedStep_delivered {port : Nat} {i : Image} (h : s.boot.delivered = some (port, i)) :
    s.checkedStep =
      (({ s with boot := { s.boot with delivered := none } } : Dev).takeImage i true).mboxEnd port
        (((s.checkImage i).map (·.1)).getD E_OK) := by
  simp only [Dev.checkedStep, h]

/-- Settles O25: the step that the start is at has its own effect, which halts the start or sets the next step. -/
theorem startGoesThroughItsSteps : Obligations.StartGoesThroughItsSteps := by
  intro s
  refine ⟨?powerGood, ?steps⟩
  case powerGood =>
    intro part rev h
    refine ⟨_, answers_actAlways (exec_powerGood part rev s) rfl (if_neg (Bool.eq_false_iff.mp h)), ?_⟩
    exact ⟨rfl, rfl, rfl, rfl, rfl, rfl, rfl, rfl, rfl, rfl⟩
  case steps =>
    intro hl hhalt hhung _ halts
    have answered {r : StepDone} {n : Nat} {e d : Dev} (hn : s.dev.boot.step = n)
        (hr : s.dev.stepDone r = if s.dev.starting n then e else s.dev) (hd : e = d) : answers (.startStepDone r) s d :=
      answers_act (exec_startStepDone r s) rfl hl ((hr.trans (if_pos (Dev.starting_of hn hhalt hhung))).trans hd)
    refine ⟨?rom, ?firmware, ?record, ?incompatible, ?rails, ?lanes, ?release, ?train, ?calibrate, ?links, ?image, ?checked, ?ready,
      ?timeout⟩
    case rom => exact fun l hn => answered hn rfl rfl
    case firmware =>
      refine fun a b hn => ⟨fun h => ?_, fun ha hb => ?_⟩
      · obtain ⟨hstep, hslot, hfw⟩ := Dev.runFirmware_boot (s := s.dev) (if a.verifies then a else b) (!a.verifies)
        exact ⟨_, answered hn rfl (Dev.fwStep_verified h), hstep, hslot, hfw⟩
      · exact halts_of_haltStart s.dev (answered hn rfl (Dev.fwStep_invalid ha hb)) rfl
    case record =>
      refine fun p q hn => ⟨fun h => ?_, fun r second h => ⟨fun hb => ?_, fun hb => ?_⟩⟩
      · exact halts_of_haltStart s.dev (answered hn rfl (Dev.recordStep_none h)) rfl
      · exact halts_of_haltStart s.dev (answered hn rfl (Dev.recordStep_foreign h hb)) rfl
      · obtain ⟨hrec, hcopy, hkey⟩ := s.dev.recordKept_boot r second
        refine ⟨_, answered hn rfl (Dev.recordStep_bound h hb), rfl, ?_⟩
        simp only [Dev.toStep_record, Dev.toStep_recCopy, Dev.toStep_keyOk, Dev.toStep_pow, Dev.startSetting_boot,
          Dev.startSetting_modeNow, Dev.startSetting_osc, hrec, hcopy, hkey, and_self]
    case incompatible =>
      exact fun bad fails code hn h => halts_of_haltStart _ (answered hn rfl (Dev.lanesStep_incompatible h)) rfl
    case rails =>
      exact fun bad fails n hn h hbad => halts_of_haltStart _ (answered hn rfl (Dev.lanesStep_rail h hbad)) rfl
    case lanes =>
      exact fun bad fails n hn h hbad => ⟨_, answered hn rfl rfl, Dev.lanesStep_step h hbad⟩
    case release =>
      refine fun hn => ⟨answered hn rfl rfl, fun die hdie => ?_⟩
      exact answers_act (exec_dieReleaseTimeout die s) (decide_eq_true hdie) hl (if_pos (Dev.starting_of hn hhalt hhung))
    case train => exact fun b hn => ⟨_, answered hn rfl rfl, rfl⟩
    case calibrate => exact fun c hn => ⟨_, answered hn rfl rfl, rfl⟩
    case links => exact fun hn => ⟨_, answered hn rfl rfl, rfl, rfl⟩
    case image =>
      refine fun hn hw hd => ⟨answered hn rfl (Dev.imageStep_flash hw hd none), fun f => ?_⟩
      refine answered hn rfl ((Dev.imageStep_flash hw hd (some f)).trans ?_)
      cases h : s.dev.checkImage (readImage f) with
      | some v => exact Dev.takeImage_bad h false
      | none => exact Dev.takeImage_good h false
    case checked =>
      intro port i hn hd s1
      have hsame : s.dev.checkImage i = s1.checkImage i := rfl
      refine ⟨fun v h => ?_, fun h => ?_⟩ <;> refine answered hn rfl ((Dev.checkedStep_delivered hd).trans ?_)
      · rw [Dev.takeImage_bad h, hsame, h]
        rfl
      · rw [Dev.takeImage_good h, hsame, h]
        rfl
    case ready => exact Dev.readyStep_step
    case timeout =>
      intro hpos hlt hwait
      refine halts_of_haltStart s.dev (answers_act (exec_bootStepTimeout s) rfl hl (if_neg ?_)) rfl
      rintro (h0 | h10 | hh | h9)
      · omega
      · omega
      · exact Bool.false_ne_true (hhalt.symm.trans hh)
      · exact hwait h9

end Sys2Proof.Machine
end

section
/-! Retrains of the die-to-die links (R37, R43–R46, R53, R54): what a retrain that begins leaves of its link, and the commands. -/

namespace Sys2Proof.Machine

variable {s : Dev} {l : Nat}

/-! ### A change of every bundle of a link -/

theorem Dev.link_modBundle (s : Dev) (l dir b : Nat) (f : Bundle → Bundle) :
    (s.modBundle l dir b f).link l =
      { s.link l with bundles := put {} (s.link l).bundles (32 * dir + b) (f (s.bundle l dir b)) } :=
  Dev.link_modLink s l _

/-- A change of bundles keeps what is read of a link beside them. -/
theorem Dev.link_foldBundles {β : Type} (g : DLink → β) (h : ∀ k v, g { k with bundles := v } = g k) (s : Dev) (l : Nat)
    (ids : List (Nat × Nat)) (f : Bundle → Bundle) :
    g ((s.fold ids fun s e => s.modBundle l e.1 e.2 f).link l) = g (s.link l) :=
  Dev.fold_keeps (fun s => g (s.link l)) (fun s e => by rw [Dev.link_modBundle, h]) s ids

section

variable {P : Bundle → Prop} {f : Bundle → Bundle} (hf : ∀ u, P (f u))
include hf

/-- Whatever index a change of a bundle names, it leaves what it establishes elsewhere. -/
theorem Dev.bundle_modBundle_of {dir b : Nat} (i j : Nat) (h : P (s.bundle l dir b)) : P ((s.modBundle l i j f).bundle l dir b) := by
  rw [Dev.bundle, Dev.link_modBundle]
  by_cases hk : 32 * dir + b = 32 * i + j
  · rw [hk, look_put_same]
    exact hf _
  · rw [look_put_ne _ _ _ hk]
    exact h

theorem Dev.bundle_foldBundles_of {dir b : Nat} (ids : List (Nat × Nat)) (h : P (s.bundle l dir b)) :
    P ((s.fold ids fun s e => s.modBundle l e.1 e.2 f).bundle l dir b) := by
  induction ids generalizing s with
  | nil => exact h
  | cons e ids ih => exact ih (Dev.bundle_modBundle_of hf e.1 e.2 h)

/-- What a change establishes of every bundle holds of each bundle that is named. -/
theorem Dev.bundle_foldBundles {e : Nat × Nat} {ids : List (Nat × Nat)} (he : e ∈ ids) :
    P ((s.fold ids fun s e => s.modBundle l e.1 e.2 f).bundle l e.1 e.2) := by
  induction ids generalizing s with
  | nil => cases he
  | cons a ids ih =>
    rcases List.mem_cons.mp he with rfl | he
    · refine Dev.bundle_foldBundles_of hf ids ?_
      rw [Dev.bundle_modBundle]
      exact hf _
    · exact ih he

end

/-! ### A retrain begins (R37, R43, R53) -/

/-- R37, R43: the link is in its lane test, and holds the credits of both directions. -/
theorem Dev.link_startRetrain (s : Dev) (l : Nat) (fresh : Bool) :
    ((s.startRetrain l fresh).link l).st = .testing ∧ ((s.startRetrain l fresh).link l).held0 = true ∧
      ((s.startRetrain l fresh).link l).held1 = true := by
  refine (Dev.link_foldBundles (fun k => k.st = .testing ∧ k.held0 = true ∧ k.held1 = true) (fun _ _ => rfl) _ l _ _).mpr ?_
  rw [Dev.link_modLink]
  exact ⟨rfl, rfl, rfl⟩

/-- R53: a retrain that software asks for trains every bundle of its link, and forgets the lanes excluded in service. -/
theorem Dev.bundle_startRetrain {e : Nat × Nat} (he : e ∈ bundleIds l) :
    ((s.startRetrain l true).bundle l e.1 e.2).st = .training ∧ ((s.startRetrain l true).bundle l e.1 e.2).excl = 0 := by
  refine Dev.bundle_foldBundles (P := fun u => u.st = .training ∧ u.excl = 0) (fun u => ⟨rfl, ?_⟩) he
  simp [Bundle.excl]

/-! ### A retrain is asked for (R53, R54) -/

theorem Dev.retrainReq_busy (h : s.d2dBusy = true) : s.retrainReq l = s.logE E_D2D_BUSY l := by simp [Dev.retrainReq, h]

theorem Dev.retrainReq_unfitted (hb : s.d2dBusy = false) (hf : s.linkFitted l = false) : s.retrainReq l = s := by
  simp [Dev.retrainReq, hb, hf]

/-- R54: the retrain starts, or waits for the die at an end that is in reset. -/
theorem Dev.retrainReq_fitted (hb : s.d2dBusy = false) (hf : s.linkFitted l = true) :
    s.retrainReq l =
      let d : Dev := { s with d2d := { s.d2d with retrainFor := addNew s.d2d.retrainFor l } }
      if s.endInReset l then d.modLink l fun k => { k with st := .deferred } else d.startRetrain l true := by
  simp only [Dev.retrainReq, hb, hf, Bool.not_true, Bool.false_eq_true, if_false]
  rfl

/-! ### The ends report (R44–R46) -/

theorem answers_d2dRetrainReport {s : State} {l : Nat} {tests : List LaneTest} {down : EndsDown} {d : Dev} (hl : s.dev.live = true)
    (hlink : linkOk l = true) (hst : (s.dev.link l).st = .testing ∨ ∃ n, (s.dev.link l).st = .agreeing n)
    (hd : s.dev.retrainReport l tests down.first down.second = d) : answers (.d2dRetrainReport l tests down) s d := by
  refine answers_act (exec_d2dRetrainReport l tests down s) hlink hl (Eq.trans ?_ hd)
  rcases hst with h | ⟨n, h⟩ <;> simp only [h]

/-- R46: the ends still disagree: the device is reset where their dies have been, and the dies whose report differs otherwise. -/
theorem Dev.widthEscalate_agreeing {n : Nat} (h : (s.link l).st = .agreeing n) :
    s.widthEscalate l =
      if (s.link l).escalated then (s.logE E_D2D_WIDTH_ESCALATE l).beginDevice E_D2D_WIDTH_ESCALATE false
      else
        ((s.logE E_D2D_WIDTH_ESCALATE l).modLink l fun k => { k with escalated := true }).fold
          (((if agree l (s.link l).repA (s.link l).published then [] else [(linkDies l).1]) ++
            if agree l (s.link l).repB (s.link l).published then [] else [(linkDies l).2]).filterMap id)
          fun s n => s.resetEndDie n (·.beginDie n E_D2D_WIDTH_ESCALATE false) := by
  simp only [Dev.widthEscalate, h]

/-! ### Credits after a retrain (R37) -/

theorem Dev.creditReturn_d2d (s : Dev) (l dir : Nat) :
    s.creditReturn (.d2d l) dir =
      if (s.link l).credHeld dir && ((s.link l).tx dir).isEmpty then
        (s.modLink l fun k => (k.hold dir false).setSpent dir 0).out (.quota (.d2d l) dir)
      else s := rfl

/-- Settles O32: each command by the branch of its effect that the premises choose, and a retrain that begins by what it
establishes of every bundle of its link. -/
theorem d2dRetrains : Obligations.D2dRetrains := by
  refine ⟨?commands, ?begins⟩
  case commands =>
    intro s l hl hlink
    refine ⟨?request, ?deferred, ?report, ?escalate, ?credit⟩
    case request =>
      intro port hport hsel d
      have answered {t : Dev} (ht : s.dev.retrainReq l = t) : answers (.d2dRetrain port) s t :=
        answers_act (exec_d2dRetrain port s) (decide_eq_true hport) hl (hsel ▸ ht)
      refine ⟨fun hb => answered (Dev.retrainReq_busy hb), fun hb hf => answered (Dev.retrainReq_unfitted hb hf),
        fun hb hf hr => answered ?_, fun hb hf hr => answered ?_⟩
      · exact (Dev.retrainReq_fitted hb hf).trans (if_neg (Bool.eq_false_iff.mp hr))
      · exact (Dev.retrainReq_fitted hb hf).trans (if_pos hr)
    case deferred =>
      intro hst hr hb
      refine answers_act (exec_d2dRetrainDeferredStart l s) hlink hl (if_neg ?_)
      simp [hst, hr, hb]
    case report =>
      intro tests downA downB hst r
      refine ⟨fun ha => ?agree, fun ha he => ?again, fun ha he => ?differ⟩ <;>
        refine answers_d2dRetrainReport hl hlink hst ?_
      case agree => exact if_pos ha
      case again => exact (if_neg (Bool.eq_false_iff.mp ha)).trans (if_pos he)
      case differ => exact (if_neg (Bool.eq_false_iff.mp ha)).trans (if_neg (Bool.eq_false_iff.mp he))
    case escalate =>
      intro n hst
      refine ⟨fun he => ?again, fun he => ?first⟩ <;> refine answers_act (exec_widthEscalate l s) hlink hl ?_
      case again => exact (Dev.widthEscalate_agreeing hst).trans (if_pos he)
      case first => exact (Dev.widthEscalate_agreeing hst).trans (if_neg (Bool.eq_false_iff.mp he))
    case credit =>
      intro dir hdir
      have hwf : (Instr.creditReturnAfterRetrain (.d2d l) dir).wf = true := by simp [LinkRef.ok, hlink, hdir]
      refine ⟨fun hheld hempty => ?returned, fun h => ?kept⟩ <;>
        refine answers_act (exec_creditReturnAfterRetrain (.d2d l) dir s) hwf hl ((s.dev.creditReturn_d2d l dir).trans ?_)
      case returned => exact if_pos (by simp [hheld, hempty])
      case kept => exact if_neg (by rcases h with h | h <;> simp [h])
  case begins =>
    intro d l _ _
    obtain ⟨hst, h0, h1⟩ := d.link_startRetrain l true
    exact ⟨hst, h0, h1, fun _ he => Dev.bundle_startRetrain he⟩

end Sys2Proof.Machine
end

section
/-! Configuration requests, PERST_N and the boot mailbox (R65, R66, R70, R117, R561, R562, R696): which branch a request takes, and what
a start that begins again keeps. -/

namespace Sys2Proof.Machine

variable (s : Dev) (port : Nat)

/-! ### Ports -/

/-- A message of a port leaves its mailbox. -/
theorem Dev.msix_mbox (vec : Nat) : ((s.msix port vec).hport port).mbox = (s.hport port).mbox := by
  unfold Dev.msix Dev.hostSend
  split
  · split
    · rfl
    · rw [Dev.hport_modHport]
  · rw [Dev.hport_modHport]

variable {port} in
theorem Dev.hport_modHport_other (f : HPort → HPort) (h : port < 2) : (s.modHport port f).hport (1 - port) = s.hport (1 - port) := by
  interval_cases port <;> rfl

/-! ### Configuration requests (R65) -/

/-- R65: what a port whose link is up answers: a retry until step 2 has ended. -/
theorem Dev.configReq_up {s : Dev} {port : Nat} (hstep : 2 ≤ s.boot.step) (hup : (s.hport port).up = true)
    (hperst : s.perst port = false) (d3 : Option Bool) :
    s.configReq port d3 =
      (d3.elim s fun b => s.when (decide (3 ≤ s.boot.step) || s.boot.halted) (·.setPower port b)).out
        (.config port (decide (3 ≤ s.boot.step) || s.boot.halted)) := by
  have hstep' : ¬ s.boot.step < 2 := by omega
  exact if_neg (by simp [hup, hperst, hstep'])

theorem answers_configRequest {s : State} {port : Nat} {d3 : Option Bool} {d : Dev} (hl : s.dev.live = true) (hp : port < 2)
    (hd : s.dev.configReq port d3 = d) : answers (.configRequest ⟨port, d3⟩) s d :=
  answers_act (exec_configRequest ⟨port, d3⟩ s) (decide_eq_true hp) hl hd

/-! ### The pins PERST_N (R66, R696) -/

@[simp] theorem Dev.perst_setPerst (b : Bool) : (s.setPerst port b).perst port = b := by
  unfold Dev.setPerst Dev.perst
  split <;> rfl

theorem Dev.setPerst_keeps {β : Type} {g : Dev → β} (h : ∀ s b, g { s with boot := b } = g s) (b : Bool) :
    g (s.setPerst port b) = g s := by
  unfold Dev.setPerst
  split <;> exact h s _

theorem Dev.setPerst_boot_keeps {β : Type} {g : Boot → β} (h : ∀ k v w, g { k with perst0 := v, perst1 := w } = g k) (b : Bool) :
    g (s.setPerst port b).boot = g s.boot := by
  unfold Dev.setPerst
  split <;> exact h s.boot _ _

@[simp] theorem Dev.setPerst_perstBoth (b : Bool) : (s.setPerst port b).boot.perstBoth = s.boot.perstBoth :=
  s.setPerst_boot_keeps port (g := (·.perstBoth)) (fun _ _ _ => rfl) b
@[simp] theorem Dev.setPerst_halted (b : Bool) : (s.setPerst port b).boot.halted = s.boot.halted :=
  s.setPerst_boot_keeps port (g := (·.halted)) (fun _ _ _ => rfl) b
@[simp] theorem Dev.setPerst_powered (b : Bool) : (s.setPerst port b).boot.powered = s.boot.powered :=
  s.setPerst_boot_keeps port (g := (·.powered)) (fun _ _ _ => rfl) b

section

variable {port} (hp : port < 2)
include hp

@[simp] theorem Dev.perst_setPerst_other (b : Bool) : (s.setPerst port b).perst (1 - port) = s.perst (1 - port) := by
  interval_cases port <;> rfl

theorem Dev.perst_both : (s.boot.perst0 && s.boot.perst1) = (s.perst port && s.perst (1 - port)) := by
  interval_cases port
  · rfl
  · exact Bool.and_comm _ _

theorem Dev.perst_either : (s.boot.perst0 || s.boot.perst1) = (s.perst port || s.perst (1 - port)) := by
  interval_cases port
  · rfl
  · exact Bool.or_comm _ _

/-- R66: the link of the port falls and its vectors are masked; that both ports have been held together is kept. -/
theorem Dev.perstOn_eq :
    s.perstOn port =
      { (s.setPerst port true).modHport port HPort.reset with
        boot := { (s.setPerst port true).boot with perstBoth := s.boot.perstBoth || s.perst (1 - port) } } := by
  have hboth : ((s.setPerst port true).boot.perst0 && (s.setPerst port true).boot.perst1) = s.perst (1 - port) := by
    rw [(s.setPerst port true).perst_both hp, Dev.perst_setPerst, Dev.perst_setPerst_other s hp, Bool.true_and]
  rw [← s.setPerst_perstBoth port true]
  unfold Dev.perstOn
  simp only [Dev.modHport_boot, hboth]
  cases s.perst (1 - port)
  · rw [Bool.or_false]
    rfl
  · rw [Bool.or_true]
    rfl

variable {s}

/-- R696: a port that is not the later of two held together. -/
theorem Dev.perstOff_first (h : s.boot.perstBoth = false ∨ s.perst (1 - port) = true) : s.perstOff port = s.setPerst port false := by
  refine if_pos ?_
  rw [Bool.or_assoc, (s.setPerst port false).perst_either hp, Dev.perst_setPerst_other s hp, Dev.setPerst_perstBoth]
  rcases h with h | h <;> simp [h]

/-- R696: on a halted start the later of the two begins step 1 again. -/
theorem Dev.perstOff_later (hboth : s.boot.perstBoth = true) (hother : s.perst (1 - port) = false) (hl : s.live = true)
    (hh : s.boot.halted = true) :
    s.perstOff port =
      ({ s.setPerst port false with boot := { (s.setPerst port false).boot with perstBoth := false } } : Dev).startAgain := by
  unfold Dev.perstOff
  refine (if_neg ?_).trans (if_pos ?_)
  · rw [Bool.or_assoc, (s.setPerst port false).perst_either hp, Dev.perst_setPerst_other s hp, Dev.setPerst_perstBoth]
    simp [hboth, hother]
  · have hlive : ({ s.setPerst port false with boot := { (s.setPerst port false).boot with perstBoth := false } } : Dev).live = s.live := by
      rw [Dev.live, Dev.live, ← s.setPerst_powered port false, s.setPerst_keeps port (g := Dev.side) (fun _ _ => rfl),
        s.setPerst_keeps port (g := Dev.pow) (fun _ _ => rfl)]
    rw [hlive, hl, Dev.setPerst_halted, hh]
    rfl

end

/-! ### A start that begins again (R696) -/

/-- A completion writes no byte of HBM: its record is a request that waits at a channel. -/
theorem Dev.hubStore_data (a : Nat) (bytes : List Byte) : (s.hubStore a bytes).mem.data = s.mem.data := by
  unfold Dev.hubStore
  split
  · split
    · exact s.storeWrite_keeps (g := fun s => s.mem.data) (fun _ _ _ _ => rfl) _ _ _ _
    · rfl
  · split
    · split <;> rfl
    · rfl
  · rfl


theorem Dev.hostSend_mem (o : Out) : (s.hostSend port o).mem = s.mem := s.hostSend_keeps (fun _ _ => rfl) (fun _ _ => rfl) port o
theorem Dev.msix_mem (vec : Nat) : (s.msix port vec).mem = s.mem := s.msix_keeps (fun _ _ => rfl) (fun _ _ => rfl) port vec
theorem Dev.addCtr_mem (i : Nat) (v : Word) (cause : Code) : (s.addCtr i v cause).mem = s.mem :=
  s.addCtr_keeps (fun _ _ => rfl) (fun _ _ => rfl) (fun _ _ => rfl) i v cause

theorem Dev.complete_data (q : Nat) (seq : BitVec 32) (code : Code) (result : Word) :
    (s.complete q seq code result).mem.data = s.mem.data := by
  have hkeep (s : Dev) (b : Bool) (f : Dev → Dev) (h : (f s).mem.data = s.mem.data) : (s.when b f).mem.data = s.mem.data :=
    Dev.when_keeps (fun s => s.mem.data) s b h
  unfold Dev.complete
  split
  · rfl
  · simp only [Dev.modQueue_mem, Dev.count_mem]
    refine (hkeep _ _ _ (by rw [Dev.msix_mem])).trans ?_
    split
    all_goals
      refine (hkeep _ _ _ (by rw [Dev.addCtr_mem])).trans (hkeep _ _ _ ?_)
      split
      · rw [Dev.hostSend_mem]
      · split
        · exact s.hubStore_data _ _
        · rfl

/-- What completions keep is kept as every entry of every queue completes. -/
theorem Dev.completeQueues_keeps {β : Type} {g : Dev → β} (h : ∀ (s : Dev) q seq code, g (s.complete q seq code) = g s) (code : Code) :
    g (s.fold s.host.queues fun s q => s.completeAll q.1 code) = g s :=
  Dev.fold_keeps g (fun s (q : Nat × Queue) => Dev.fold_keeps g (fun s (e : QEntry) => h s q.1 e.seq code) s _) s _

/-- R80, R696: step 1 begins in a new epoch; HBM, the measurement log and the crash capsule are kept. -/
theorem Dev.startAgain_effect :
    s.startAgain.boot.step = 1 ∧ s.startAgain.boot.halted = false ∧ s.startAgain.boot.epoch = s.boot.epoch + 1 ∧
      s.startAgain.boot.log = s.boot.log ∧ s.startAgain.mem.data = s.mem.data ∧ s.startAgain.rcv.capsule = s.rcv.capsule := by
  have hboot : (s.fold s.host.queues fun s q => s.completeAll q.1 E_ATTN_DRAIN).boot = s.boot :=
    s.completeQueues_keeps (fun s q seq code => s.complete_keeps (g := Dev.boot) (fun _ _ _ _ => rfl) (fun _ _ => rfl) (fun _ _ => rfl)
      (fun _ _ => rfl) (fun _ _ => rfl) (fun _ _ => rfl) (fun _ _ => rfl) (fun _ _ => rfl) q seq code 0) _
  have hrcv : (s.fold s.host.queues fun s q => s.completeAll q.1 E_ATTN_DRAIN).rcv = s.rcv :=
    s.completeQueues_keeps (fun s q seq code => s.complete_keeps (g := Dev.rcv) (fun _ _ _ _ => rfl) (fun _ _ => rfl) (fun _ _ => rfl)
      (fun _ _ => rfl) (fun _ _ => rfl) (fun _ _ => rfl) (fun _ _ => rfl) (fun _ _ => rfl) q seq code 0) _
  exact ⟨rfl, rfl, congrArg (·.epoch + 1) hboot, congrArg (·.log) hboot,
    s.completeQueues_keeps (g := fun s => s.mem.data) (fun s q seq code => s.complete_data q seq code 0) _, congrArg (·.capsule) hrcv⟩

/-! ### The boot mailbox (R70, R117, R561, R562) -/

theorem Dev.mboxEnd_boot (code : Code) : (s.mboxEnd port code).boot = s.boot :=
  Dev.msix_boot _ port 0

/-- R561: a request or a fetch that ended shows its code. -/
theorem Dev.mboxEnd_code (code : Code) : ((s.mboxEnd port code).hport port).mbox.code = code := by
  rw [Dev.mboxEnd, Dev.msix_mbox, Dev.modMbox, Dev.hport_modHport]

theorem Dev.modMbox_modMbox (f g : Mbox → Mbox) : (s.modMbox port f).modMbox port g = s.modMbox port fun m => g (f m) := by
  unfold Dev.modMbox Dev.modHport
  split <;> rfl

/-- R562: the start takes an object of the kind now, and ADDR and LEN are in range. -/
def Dev.mboxTakes (kind : Nat) : Bool :=
  if kind = 1 then s.wantsFw port && s.mboxArgs port 0x800000
  else if kind = 2 then s.wantsImg && s.mboxArgs port 0x2000000 else false

section

variable {s port} (kind : Nat) (hp : port < 2) (hb : (s.hport port).mbox.busy = false)
include hp hb

/-- R562: one mailbox fetches at a time. -/
theorem Dev.mboxGo_otherBusy (ho : (s.hport (1 - port)).mbox.busy = true) :
    s.mboxGo port kind = (s.modMbox port fun m => { m with kind }).mboxEnd port E_IMG_BUSY := by
  have ho' : ((s.modMbox port fun m => { m with kind }).hport (1 - port)).mbox.busy = true := by
    rw [Dev.modMbox, s.hport_modHport_other _ hp, ho]
  simp only [Dev.mboxGo, hb, Bool.false_eq_true, if_false]
  exact if_pos ho'

variable (ho : (s.hport (1 - port)).mbox.busy = false)
include ho

theorem Dev.mboxGo_bad (ht : s.mboxTakes port kind = false) :
    s.mboxGo port kind = (s.modMbox port fun m => { m with kind }).mboxEnd port E_MBOX_BAD := by
  have ho' : ((s.modMbox port fun m => { m with kind }).hport (1 - port)).mbox.busy = false := by
    rw [Dev.modMbox, s.hport_modHport_other _ hp, ho]
  simp only [Dev.mboxGo, hb, ho', Bool.false_eq_true, if_false]
  refine if_pos ?_
  rw [Bool.not_eq_true']
  exact ht

/-- R561: the object is fetched from host memory. -/
theorem Dev.mboxGo_fetch (ht : s.mboxTakes port kind = true) :
    s.mboxGo port kind =
      ((s.modMbox port fun m => { m with kind, go := true, busy := true, code := E_OK }).when (kind == 2) fun s =>
        { s with img := { s.img with st := 1 } }).out
        (.hostFetch port (s.reg (mboxBlock port) 0) (fldN (s.reg (mboxBlock port) 8) 0 32)) := by
  have ho' : ((s.modMbox port fun m => { m with kind }).hport (1 - port)).mbox.busy = false := by
    rw [Dev.modMbox, s.hport_modHport_other _ hp, ho]
  simp only [Dev.mboxGo, hb, ho', Bool.false_eq_true, if_false]
  refine (if_neg ?_).trans ?_
  · rw [Bool.not_eq_true', Bool.not_eq_false]
    exact ht
  · rw [Dev.modMbox_modMbox]
    cases kind == 2 <;> rfl

end

/-! ### What has been fetched (R70, R117, R120) -/

section

variable {s port} (hb : (s.hport port).mbox.busy = true)
include hb

theorem Dev.fetchDone_badFirmware (hk : (s.hport port).mbox.kind = 1) (hw : s.wantsFw port = true) {f : FwObj} (hf : f.verifies = false) :
    s.fetchDone port (.firmware f) = s.mboxEnd port E_BOOT_FW_INVALID := by
  simp [Dev.fetchDone, hb, hk, hw, hf]

/-- R70: firmware that verifies runs, and the halted start goes on. -/
theorem Dev.fetchDone_firmware (hk : (s.hport port).mbox.kind = 1) (hw : s.wantsFw port = true) {f : FwObj} (hf : f.verifies = true) :
    s.fetchDone port (.firmware f) =
      (({ s with boot := { s.boot with halted := false, code := E_OK } } : Dev).runFirmware f false).mboxEnd port E_OK := by
  simp [Dev.fetchDone, hb, hk, hw, hf]

/-- R117, R120: an image is delivered, and its check begins. -/
theorem Dev.fetchDone_image (hk : (s.hport port).mbox.kind = 2) (hw : s.wantsImg = true) (f : ImageFile) :
    s.fetchDone port (.image f) =
      { s with boot := { s.boot with imgWanted := false, delivered := some (port, readImage f) } } := by
  simp [Dev.fetchDone, hb, hk, hw]

end

theorem Dev.runFirmware_halted (f : FwObj) (slot : Bool) : (s.runFirmware f slot).boot.halted = s.boot.halted :=
  Dev.extend_keeps (g := (·.boot.halted)) _ (fun _ _ _ _ => rfl) 0 0x01 f.version f.digest

/-! ### The commands -/

section

variable {s : State} {port : Nat} {d : Dev} (hp : port < 2)
include hp

theorem answers_perstAssert (ht : s.dev.pinsTaken = false) (hd : s.dev.perstOn port = d) : answers (.perstAssert port) s d :=
  answers_actAlways (exec_perstAssert port s) (decide_eq_true hp) ((if_neg (Bool.eq_false_iff.mp ht)).trans hd)

theorem answers_perstDeassert (ht : s.dev.pinsTaken = false) (hd : s.dev.perstOff port = d) : answers (.perstDeassert port) s d :=
  answers_actAlways (exec_perstDeassert port s) (decide_eq_true hp) ((if_neg (Bool.eq_false_iff.mp ht)).trans hd)

theorem answers_mboxFetchDone (hl : s.dev.live = true) {obj : MboxObj} (hd : s.dev.fetchDone port obj = d) :
    answers (.mboxFetchDone port obj) s d :=
  answers_act (exec_mboxFetchDone port obj s) (decide_eq_true hp) hl hd

theorem answers_mboxBootFirmware (hl : s.dev.live = true) (hd : s.dev.mboxGo port 1 = d) : answers (.mboxBootFirmware port) s d :=
  answers_act (exec_mboxBootFirmware port s) (decide_eq_true hp) hl hd

theorem answers_mboxWholeImage (hl : s.dev.live = true) (hd : s.dev.mboxGo port 2 = d) : answers (.mboxWholeImage port) s d :=
  answers_act (exec_mboxWholeImage port s) (decide_eq_true hp) hl hd

end

/-- Settles O26: each request by the branch that its premises choose; a start that begins again by what it keeps. -/
theorem configurationPerstAndMailbox : Obligations.ConfigurationPerstAndMailbox := by
  refine ⟨fun s port hp => ⟨?config, fun ht => ⟨?assert, ?first, ?later⟩⟩, fun s port hl hp => ⟨?other, ?idle, ?fetched⟩⟩
  case config =>
    intro hl hstep hup hperst ok
    have answered (d3 : Option Bool) := answers_configRequest hl hp (Dev.configReq_up hstep hup hperst d3)
    refine ⟨answered none, fun b hok => ?_, fun b hok => ?_⟩ <;> have h := answered (some b)
    · rw [show (decide (3 ≤ s.dev.boot.step) || s.dev.boot.halted) = false from hok] at h
      exact h
    · rw [show (decide (3 ≤ s.dev.boot.step) || s.dev.boot.halted) = true from hok] at h
      exact h
  case assert =>
    refine ⟨_, answers_perstAssert hp ht (s.dev.perstOn_eq hp), s.dev.perst_setPerst port true, ?_, ?_, ?_, rfl⟩
    · exact congrArg HPort.up (Dev.hport_modHport _ port HPort.reset)
    · exact congrArg HPort.unmasked (Dev.hport_modHport _ port HPort.reset)
    · exact (Dev.hport_modHport_other _ HPort.reset hp).trans
        (s.dev.setPerst_keeps port (g := fun s => s.hport (1 - port)) (fun _ _ => rfl) true)
  case first => exact fun h => answers_perstDeassert hp ht (Dev.perstOff_first hp h)
  case later =>
    intro hboth hother hl hh
    refine ⟨_, answers_perstDeassert hp ht (Dev.perstOff_later hp hboth hother hl hh), ?_⟩
    obtain ⟨hstep, hhalt, hepoch, hlog, hdata, hcapsule⟩ := Dev.startAgain_effect
      { s.dev.setPerst port false with boot := { (s.dev.setPerst port false).boot with perstBoth := false } }
    refine ⟨hstep, hhalt, hepoch.trans ?_, hlog.trans ?_, hdata.trans ?_, hcapsule.trans ?_⟩
    · exact congrArg (· + 1) (s.dev.setPerst_boot_keeps port (g := (·.epoch)) (fun _ _ _ => rfl) false)
    · exact s.dev.setPerst_boot_keeps port (g := (·.log)) (fun _ _ _ => rfl) false
    · exact s.dev.setPerst_keeps port (g := fun s => s.mem.data) (fun _ _ => rfl) false
    · exact s.dev.setPerst_keeps port (g := fun s => s.rcv.capsule) (fun _ _ => rfl) false
  case other =>
    exact fun hb ho => ⟨answers_mboxBootFirmware hp hl (Dev.mboxGo_otherBusy 1 hp hb ho),
      answers_mboxWholeImage hp hl (Dev.mboxGo_otherBusy 2 hp hb ho)⟩
  case idle =>
    refine fun hb ho => ⟨fun hw ha => ?_, fun hw ha => ?_, fun hw => ?_, fun hw => ?_⟩
    · exact answers_mboxBootFirmware hp hl (Dev.mboxGo_fetch 1 hp hb ho (by simp [Dev.mboxTakes, hw, ha]))
    · exact answers_mboxWholeImage hp hl (Dev.mboxGo_fetch 2 hp hb ho (by simp [Dev.mboxTakes, hw, ha]))
    · exact answers_mboxBootFirmware hp hl (Dev.mboxGo_bad 1 hp hb ho (by simp [Dev.mboxTakes, hw]))
    · exact answers_mboxWholeImage hp hl (Dev.mboxGo_bad 2 hp hb ho (by simp [Dev.mboxTakes, hw]))
  case fetched =>
    refine fun hb => ⟨fun f hk hw => ⟨fun hf => ?bad, fun hf => ?good⟩, fun f hk hw => ?image⟩
    case bad => exact answers_mboxFetchDone hp hl (Dev.fetchDone_badFirmware hb hk hw hf)
    case good =>
      obtain ⟨hstep, -, hfw⟩ := Dev.runFirmware_boot (s := { s.dev with boot := { s.dev.boot with halted := false, code := E_OK } }) f false
      refine ⟨_, answers_mboxFetchDone hp hl (Dev.fetchDone_firmware hb hk hw hf), ?_, ?_, ?_, Dev.mboxEnd_code _ port E_OK⟩ <;>
        rw [Dev.mboxEnd_boot]
      · exact hstep
      · exact Dev.runFirmware_halted _ f false
      · exact hfw
    case image => exact answers_mboxFetchDone hp hl (Dev.fetchDone_image hb hk hw f)

end Sys2Proof.Machine
end

section
/-! Quotes and the log (R78, R80, R81, R83, R575): what LOG_READ and QUOTE answer, what the signature of a quote lets go on, and what an
extension leaves of the accumulators. -/

namespace Sys2Proof.Machine

variable {s : Dev}

/-! ### Quotes (R81, R83) -/

/-- R83: one quote is signed at a time. -/
theorem Dev.nextQuote_signing (h : s.boot.signing.isSome = true) : s.nextQuote = s := by
  obtain ⟨r, hr⟩ := Option.isSome_iff_exists.mp h
  simp only [Dev.nextQuote, hr]

theorem Dev.nextQuote_begins {r : QuoteReq} {l : List QuoteReq} (hs : s.boot.signing = none) (hq : s.boot.quotes = r :: l) :
    s.nextQuote = { s with boot := { s.boot with signing := some (r, s.boot.log.length), quotes := l } } := by
  simp only [Dev.nextQuote, hs, hq]

/-- R575: the quote that a QUOTE asks for. -/
def Dev.quoteAsked (s : Dev) (e : Entry) (iss : Issuer) : QuoteReq :=
  { iss, part := s.actPart iss, nonce := BitVec.ofNat 256 (ebytes e 32 32), buf := BitVec.ofNat 64 (eArg e) }

variable {e : Entry} {iss : Issuer}

/-- R77: without the device key nothing is signed. -/
theorem Dev.mgQuote_noKey (hk : s.boot.keyOk = false) : s.mgQuote e iss = s.answer iss E_KEY_UNWRAP := by
  simp [Dev.mgQuote, hk]

theorem Dev.mgQuote_busy (hk : s.boot.keyOk = true) (hs : s.boot.signing.isSome = true) (hq : 16 ≤ s.boot.quotes.length) :
    s.mgQuote e iss = s.answer iss E_QUOTE_BUSY := by
  simp [Dev.mgQuote, hk, hs, hq]

/-- R83: a quote that is taken joins those that wait. -/
theorem Dev.mgQuote_taken (hk : s.boot.keyOk = true) (h : s.boot.signing = none ∨ s.boot.quotes.length < 16) :
    s.mgQuote e iss =
      ({ s with boot := { s.boot with quotes := s.boot.quotes ++ [s.quoteAsked e iss] } } : Dev).nextQuote := by
  have hfree : (s.boot.signing.isSome && decide (16 ≤ s.boot.quotes.length)) = false := by
    rcases h with h | h <;> simp [h]
  simp only [Dev.mgQuote, hk, hfree, Bool.not_true, Bool.false_eq_true, if_false]
  rfl

theorem Dev.mgQuote_waits (hk : s.boot.keyOk = true) (hs : s.boot.signing.isSome = true) (hq : s.boot.quotes.length < 16) :
    s.mgQuote e iss = { s with boot := { s.boot with quotes := s.boot.quotes ++ [s.quoteAsked e iss] } } :=
  (Dev.mgQuote_taken hk (.inr hq)).trans (Dev.nextQuote_signing hs)

/-- R83: where no other quote is, the quote is signed at once, over the log as it is. -/
theorem Dev.mgQuote_begins (hk : s.boot.keyOk = true) (hs : s.boot.signing = none) (hq : s.boot.quotes = []) :
    s.mgQuote e iss = { s with boot := { s.boot with signing := some (s.quoteAsked e iss, s.boot.log.length) } } := by
  have hall : s.boot.quotes ++ [s.quoteAsked e iss] = s.quoteAsked e iss :: s.boot.quotes := by rw [hq]; rfl
  rw [Dev.mgQuote_taken hk (.inl hs), hall]
  exact Dev.nextQuote_begins hs rfl

/-- R81–R83: a signature lets the quote out, the extensions that waited be made, and the next quote begin. -/
theorem Dev.quoteDone_signing {r : QuoteReq} {n : Nat} (h : s.boot.signing = some (r, n)) (sig : BitVec 3072) :
    s.quoteDone sig =
      let d := (s.outBuf r.part r.buf (s.quoteBody r n ++ beBytes 384 sig.toNat)).answer r.iss E_OK
      (({ d with boot := { d.boot with signing := none, extWait := [] } } : Dev).fold d.boot.extWait fun s m => s.extendNow m).nextQuote := by
  simp only [Dev.quoteDone, h]

/-! ### Extensions (R78, R81) -/

variable (acc : Nat) (event : BitVec 8) (version : BitVec 32) (digest : BitVec 256)

theorem Dev.extend_signing (h : s.boot.signing.isSome = true) :
    s.extend acc event version digest =
      { s with boot := { s.boot with extWait := s.boot.extWait ++ [({ acc, event, version, digest } : MeasEntry)] } } :=
  if_pos h

theorem Dev.extend_free (h : s.boot.signing = none) :
    s.extend acc event version digest = s.extendNow { acc, event, version, digest } :=
  if_neg (by simp [h])

theorem Dev.extendNow_put (m : MeasEntry) : (s.extendNow m).boot.accs =
    put 0 s.boot.accs m.acc (sha256 (beBytes 32 (look 0 s.boot.accs m.acc).toNat ++ beBytes 32 m.digest.toNat)) := by
  simp only [Dev.extendNow]

/-- R78: an accumulator takes the digest of its old value and the new digest; the others stay. -/
theorem Dev.extendNow_accs (m : MeasEntry) :
    look 0 (s.extendNow m).boot.accs m.acc = sha256 (beBytes 32 (look 0 s.boot.accs m.acc).toNat ++ beBytes 32 m.digest.toNat) ∧
      ∀ a, a ≠ m.acc → look 0 (s.extendNow m).boot.accs a = look 0 s.boot.accs a := by
  rw [Dev.extendNow_put]
  exact ⟨look_put_same _ _ _ _, fun _ h => look_put_ne _ _ _ h⟩

/-- R80: the log takes the entry where it has a place. -/
theorem Dev.extendNow_log (m : MeasEntry) (h : s.boot.log.length < 4096) : (s.extendNow m).boot.log = s.boot.log ++ [m] :=
  if_pos h

/-! ### The commands -/

/-- R574: the management command at the head of its queue runs on the device with its entry started. -/
theorem Dev.runsMgmt_head {q cmd : Nat} {e : Entry} {h : QEntry} {l : List QEntry} (he : s.mgmtHead q cmd = some e)
    (hq : (s.queue q).entries = h :: l) : s.runsMgmt q cmd e (s.markStarted q h.seq) :=
  ⟨he, h, l, hq, rfl⟩

/-- Settles O28: each command by the branch that its premises choose. -/
theorem quotesAndTheLog : Obligations.QuotesAndTheLog := by
  intro s hl
  refine ⟨?log, ?quote, ?signed, fun acc event version digest hs => ?waits, fun acc event version digest hs hlen => ?free⟩
  case log =>
    intro q e h l hq he hent out d
    exact answers_mgmt (exec_logRead q s) (decide_eq_true hq) hl (Dev.runsMgmt_head he hent) rfl
  case quote =>
    intro q e h l hq he hent d r
    have answered {t : Dev} (ht : d.mgQuote e (.queue q) = t) : answers (.quote q) s t :=
      answers_mgmt (exec_quote q s) (decide_eq_true hq) hl (Dev.runsMgmt_head he hent) ht
    exact ⟨fun hk => answered (Dev.mgQuote_noKey hk), fun hk hs hn => answered (Dev.mgQuote_waits hk hs hn),
      fun hk hs hn => answered (Dev.mgQuote_busy hk hs hn), fun hk hs hn => answered (Dev.mgQuote_begins hk hs hn)⟩
  case signed =>
    intro sig r n hs d
    exact answers_act (exec_quoteSigned sig s) rfl hl (Dev.quoteDone_signing hs sig)
  case waits => rw [Dev.extend_signing _ _ _ _ hs]
  case free =>
    rw [Dev.extend_free _ _ _ _ hs]
    obtain ⟨hacc, hother⟩ := s.dev.extendNow_accs { acc, event, version, digest }
    exact ⟨hacc, hother, Dev.extendNow_log _ hlen⟩

end Sys2Proof.Machine
end


section
/-! Tests during work (R87, R88, R93–R98, R575): requests and grants, those that are ignored, and the starts and ends. -/

namespace Sys2Proof.Machine

variable {s : Dev} {kind unit : Nat}

/-! ### Requests (R87, R95) -/

/-- R87: one request for each unit and kind. -/
theorem Dev.testAsk_pending (h : s.testPending kind unit = true) : s.testAsk kind unit = s := if_pos h

theorem Tests.contains_pending (t : Tests) :
    t.pending.contains ⟨kind, unit⟩ = t.pending.any fun r => r.kind == kind && r.unit == unit := by
  rw [List.contains_eq_any_beq]
  congr 1
  funext r
  rw [Bool.eq_iff_iff, beq_iff_eq, Bool.and_eq_true, beq_iff_eq, beq_iff_eq]
  cases r
  simp [eq_comm]

theorem Dev.testAsk_new (h : s.testPending kind unit = false) :
    s.testAsk kind unit =
      ({ s with tests := { s.tests with pending := s.tests.pending ++ [{ kind, unit }] } } : Dev).testMessage kind unit := by
  have hask : s.tests.ask kind unit = { s.tests with pending := s.tests.pending ++ [{ kind, unit }] } :=
    if_neg (by rw [Tests.contains_pending]; exact Bool.eq_false_iff.mp h)
  rw [Dev.testAsk, hask]
  exact if_neg (Bool.eq_false_iff.mp h)

variable {v : Word}

theorem Dev.testReqWrite_there (hr : s.ready = true) (hu : s.testUnit (fldN v 0 3) (fldN v 8 10) = true) :
    s.testReqWrite v = s.testAsk (fldN v 0 3) (fldN v 8 10) :=
  if_pos (by rw [hr, hu]; rfl)

/-- R95: a unit that is not there is not tested. -/
theorem Dev.testReqWrite_absent (hu : s.testUnit (fldN v 0 3) (fldN v 8 10) = false) :
    s.testReqWrite v = s.logE E_TEST_DROPPED (fldN v 8 10) :=
  if_neg (by simp [hu])

section

variable {e : Entry} {iss : Issuer} (h1 : 1 ≤ ebytes e 32 1) (h5 : ebytes e 32 1 ≤ 5)
include h1 h5

theorem Dev.mgTestReq_absent (hu : s.testUnit (ebytes e 32 1) (ebytes e 34 2) = false) :
    s.mgTestReq e iss = (s.logE E_TEST_DROPPED (ebytes e 34 2)).answer iss E_TEST_DROPPED :=
  (if_neg (by omega)).trans (if_pos (by simp [hu]))

/-- R575: the HFM asks for a test of any unit, a partition for those it owns. -/
theorem Dev.mgTestReq_there (hu : s.testUnit (ebytes e 32 1) (ebytes e 34 2) = true)
    (ho : s.issHfm iss = true ∨ s.testIssuerOwns iss (ebytes e 32 1) (ebytes e 34 2) = true) :
    s.mgTestReq e iss = (s.testAsk (ebytes e 32 1) (ebytes e 34 2)).answer iss E_OK :=
  (if_neg (by omega)).trans ((if_neg (by simp [hu])).trans (if_neg (by rcases ho with h | h <;> simp [h])))

/-! ### Grants (R96, R97) -/

theorem Dev.mgTestGrant_owner (ho : s.testIssuerOwns iss (ebytes e 32 1) (ebytes e 34 2) = true) :
    s.mgTestGrant e iss = (s.grant (ebytes e 32 1) (ebytes e 34 2) (ebytes e 36 2)).answer iss E_OK :=
  (if_neg (by omega)).trans (if_neg (by simp [ho]))

/-- R97: a grant of a partition that does not own the unit is ignored. -/
theorem Dev.mgTestGrant_foreign (ho : s.testIssuerOwns iss (ebytes e 32 1) (ebytes e 34 2) = false) :
    s.mgTestGrant e iss = (s.logE E_TEST_NOT_OWNER (ebytes e 34 2)).answer iss E_TEST_NOT_OWNER :=
  (if_neg (by omega)).trans (if_pos (by simp [ho]))

end

/-- R96, R647: a window that is granted replaces one of the same unit, and wakes the device. -/
theorem Dev.grant_window {window : Nat} (hw : window ≠ 0) :
    s.grant kind unit window =
      { s.wakeEvent with tests := { s.tests with
        grants := s.tests.grants.filter (fun g => !(g.1 == kind && g.2.1 == unit)) ++ [(kind, unit, window)] } } := by
  rw [← s.wakeEvent_keeps (g := Dev.tests) fun _ _ => rfl]
  exact if_neg hw

variable {port : Nat}

theorem Dev.testGrantWrite_owner (h : (s.testOwners (fldN v 0 3) (fldN v 8 10)).any (s.portOf · == port) = true) :
    s.testGrantWrite port v = s.grant (fldN v 0 3) (fldN v 8 10) (fldN v 32 16) :=
  if_pos h

theorem Dev.testGrantWrite_foreign (h : (s.testOwners (fldN v 0 3) (fldN v 8 10)).any (s.portOf · == port) = false) :
    s.testGrantWrite port v = s.logE E_TEST_NOT_OWNER (fldN v 8 10) :=
  if_neg (Bool.eq_false_iff.mp h)

/-! ### Units that are not there (R95) -/

/-- A stack has 31 channels. -/
theorem Dev.testUnit_standby (s : Dev) (k : Nat) : s.testUnit 3 (32 * k + 31) = false := by
  simp [Dev.testUnit]

theorem Dev.testUnit_channel {k p : Nat} (hp : p < 32) (h : s.stackFitted k = false) : s.testUnit 3 (32 * k + p) = false := by
  have hk : (32 * k + p) / 32 = k := by omega
  simp [Dev.testUnit, hk, h]

theorem Dev.testUnit_core {c : Nat} (h : s.coreUsable c = false) : s.testUnit 1 c = false := by
  simp [Dev.testUnit, h]

theorem Dev.testUnit_array {c a : Nat} (ha : a < 2) (h : s.coreUsable c = false) : s.testUnit 2 (2 * c + a) = false := by
  have hc : (2 * c + a) / 2 = c := by omega
  simp [Dev.testUnit, hc, h]

theorem Dev.testUnit_link {l : Nat} (h : linkOk l = false) : s.testUnit 4 l = false := by
  simp only [linkOk, Bool.or_eq_false_iff, Bool.and_eq_false_iff, decide_eq_false_iff_not] at h
  simp only [Dev.testUnit, Dev.linkFitted, Bool.or_eq_false_iff, Bool.and_eq_false_iff, decide_eq_false_iff_not]
  omega

theorem Dev.testUnit_pair {e f : Nat} (hf : f < 8) (h : s.engFitted e = false) : s.testUnit 5 (8 * e + f) = false := by
  have he : (8 * e + f) / 8 = e := by omega
  simp [Dev.testUnit, he, h]

/-! ### The commands -/

section

variable {s : State} {d t : Dev} {e : Entry} (hl : s.dev.live = true)
include hl

theorem answers_testReq (hp : port < 2) (hd : s.dev.testReqWrite v = d) : answers (.testReq port v) s d :=
  answers_act (exec_testReq port v s) (decide_eq_true hp) hl hd

theorem answers_testGrant (hp : port < 2) (hd : s.dev.testGrantWrite port v = d) : answers (.testGrant port v) s d :=
  answers_act (exec_testGrant port v s) (decide_eq_true hp) hl hd

variable {q : Nat} (hq : q < 4096)
include hq

theorem answers_mgmtTestReq (h : s.dev.runsMgmt q 4 e d) (ht : d.mgTestReq e (.queue q) = t) : answers (.mgmtTestReq q) s t :=
  answers_mgmt (exec_mgmtTestReq q s) (decide_eq_true hq) hl h ht

theorem answers_mgmtTestGrant (h : s.dev.runsMgmt q 5 e d) (ht : d.mgTestGrant e (.queue q) = t) : answers (.mgmtTestGrant q) s t :=
  answers_mgmt (exec_mgmtTestGrant q s) (decide_eq_true hq) hl h ht

end

/-- Settles O29: each command by the branch that its premises choose. -/
theorem testRequestsAndGrants : Obligations.TestRequestsAndGrants := by
  intro s hl
  refine ⟨?writes, ?commands, ?running⟩
  case writes =>
    intro port v hp kind unit
    refine ⟨fun hr hu hn => answers_testReq hl hp ?new, fun hr hu hn => answers_testReq hl hp ?again,
      fun hu => answers_testReq hl hp (Dev.testReqWrite_absent hu), fun ho hw => answers_testGrant hl hp ?granted,
      fun ho => answers_testGrant hl hp (Dev.testGrantWrite_foreign ho)⟩
    case new => exact (Dev.testReqWrite_there hr hu).trans (Dev.testAsk_new hn)
    case again => exact (Dev.testReqWrite_there hr hu).trans (Dev.testAsk_pending hn)
    case granted => exact (Dev.testGrantWrite_owner ho).trans (Dev.grant_window hw)
  case commands =>
    intro q e h l hq hent d iss kind unit h1 h5
    refine ⟨fun he hu ho => ?_, fun he => ⟨fun ho => ?_, fun ho => ?_⟩⟩
    · exact answers_mgmtTestReq hl hq (Dev.runsMgmt_head he hent) (Dev.mgTestReq_there h1 h5 hu ho)
    · exact answers_mgmtTestGrant hl hq (Dev.runsMgmt_head he hent) (Dev.mgTestGrant_owner h1 h5 ho)
    · exact answers_mgmtTestGrant hl hq (Dev.runsMgmt_head he hent) (Dev.mgTestGrant_foreign h1 h5 ho)
  case running =>
    intro kind unit hk
    have hwf : decide (kind < 6) = true := decide_eq_true hk
    refine ⟨fun hp hr hu hh hi => ?start, fun hg => ?close, fun r hr => ?done⟩
    case start => exact answers_act (exec_testIdleStart kind unit s) hwf hl (if_pos (by simp [Dev.testReady, hp, hr, hu, hh, hi]))
    case close => exact answers_act (exec_testWindowEnd kind unit s) hwf hl (if_pos hg)
    case done => exact answers_act (exec_testComplete kind unit r s) hwf hl (if_pos hr)

/-- Settles O30: a request for an absent unit and a foreign grant are logged and change nothing else; the units that are absent. -/
theorem absentTestUnitsAndForeignGrants : Obligations.AbsentTestUnitsAndForeignGrants := by
  intro s hl
  refine ⟨?writes, ?commands, ?absent⟩
  case writes =>
    exact fun port v hp => ⟨fun hu => answers_testReq hl hp (Dev.testReqWrite_absent hu),
      fun ho => answers_testGrant hl hp (Dev.testGrantWrite_foreign ho)⟩
  case commands =>
    exact fun q e d hq h1 h5 => ⟨fun h hu => answers_mgmtTestReq hl hq h (Dev.mgTestReq_absent h1 h5 hu),
      fun h ho => answers_mgmtTestGrant hl hq h (Dev.mgTestGrant_foreign h1 h5 ho)⟩
  case absent =>
    exact fun k p c a l e f hp ha hf => ⟨Dev.testUnit_standby _ k, Dev.testUnit_channel hp,
      fun h => ⟨Dev.testUnit_core h, Dev.testUnit_array ha h⟩, Dev.testUnit_link, Dev.testUnit_pair hf⟩

end Sys2Proof.Machine
end


section
/-! Device resets (R67, R588, R589, R595, R598, R599, R617): when one begins, when the device drains instead, and what survives one. -/

namespace Sys2Proof.Machine

variable {s : Dev}

/-! ### Beginning (R67, R589) -/

/-- R67: a halted start keeps its halt. -/
theorem Dev.beginDevice_halted (h : s.boot.halted = true) (cause : Code) (byCtl : Bool) : s.beginDevice cause byCtl = s :=
  if_pos (by rw [h, Bool.or_true])

/-- R589: the fourth cause within ten minutes drains the device. -/
theorem Dev.beginDevice_loop (hr : s.inReset 6 0 = false) (hh : s.boot.halted = false) (hn : 3 ≤ s.devResets) (cause : Code)
    (byCtl : Bool) : s.beginDevice cause byCtl = (s.logE E_DEVICE_RESET_LOOP 0).drainNow E_DEVICE_RESET_LOOP :=
  (if_neg (by rw [hr, hh]; exact Bool.false_ne_true)).trans (if_pos hn)

/-- R391: from work, the drain begins in phase 3. -/
theorem Dev.drainNow_idle (h : s.rcv.phase = 0) (code : Code) :
    s.drainNow code = { s with rcv := { s.rcv with phase := 3, drainCode := code, pressMs := s.clock } } := by
  refine (if_neg (by omega)).trans ?_
  rw [if_pos h]

/-- R590, R615: a request finds nothing to reset in a halted start. -/
theorem Dev.resetReq_halted (h : s.boot.halted = true) (domain unit : Nat) (busy : Bool) (go : Dev → Dev) :
    s.resetReq domain unit true busy go = (s.setReg 0 0xB08 (at_ 0 domain ||| at_ 8 unit)).logE E_RESET_BUSY unit :=
  if_pos (by rw [Dev.setReg_boot, h, Bool.or_true])

theorem Dev.resetReq_free (hh : s.boot.halted = false) {busy : Bool} (hb : busy = false) (domain unit : Nat) (go : Dev → Dev) :
    s.resetReq domain unit true busy go =
      go { s.setReg 0 0xB08 (at_ 0 domain ||| at_ 8 unit) with rcv := { s.rcv with go := true } } :=
  if_neg (by rw [Dev.setReg_boot, hh, hb]; exact Bool.false_ne_true)

/-! ### The commands -/

theorem answers_deviceReset {s : State} {src : ResetSrc} {d : Dev} (hl : s.dev.live = true) (hd : s.dev.devReset src = d) :
    answers (.deviceReset src) s d :=
  answers_actIf (exec_deviceReset src s) rfl hl hd

/-- Settles O35: each command by the branch that its premises choose; what a reset leaves is written out in `Dev.restarted`. -/
theorem deviceResets : Obligations.DeviceResets := by
  intro s hl
  refine ⟨fun port hr hh => ?request, fun cause => answers_deviceReset hl rfl, fun hh => ⟨fun port => ?busy, fun cause => ?kept⟩,
    fun cause hr hh hn hp => ?loop, fun hr => ?escalate, ?hang, fun hh => ?tick, fun hh => ?still, ?survives⟩
  case request => exact answers_deviceReset hl (Dev.resetReq_free hh hr 5 0 (·.beginDevice E_OK true))
  case busy => exact answers_deviceReset hl (Dev.resetReq_halted hh 5 0 (s.dev.inReset 6 0) (·.beginDevice E_OK true))
  case kept => exact answers_deviceReset hl (Dev.beginDevice_halted hh cause false)
  case loop =>
    refine ⟨_, answers_deviceReset hl ((Dev.beginDevice_loop hr hh hn cause false).trans (Dev.drainNow_idle (s := s.dev.logE E_DEVICE_RESET_LOOP 0) hp _)), ?_⟩
    exact ⟨rfl, rfl, rfl, rfl, rfl⟩
  case escalate => exact answers_actIf (exec_deviceResetEscalate s) rfl hl (if_pos hr)
  case hang => exact answers_actIf (exec_hubWdog s) rfl hl rfl
  case tick => exact answers_actIf (exec_supvHbTick s) rfl hl (if_neg (Bool.eq_false_iff.mp hh))
  case still => exact answers_actIf (exec_supvHbTick s) rfl hl (if_pos hh)
  case survives => exact ⟨rfl, rfl, rfl, rfl, rfl, rfl, rfl, rfl, rfl, rfl, rfl, rfl, rfl, rfl⟩

end Sys2Proof.Machine
end

section
/-! Host ports (R65, R572, R573, R578–R580): what waits for a port as its link comes up or its records are lost, and what a message
finds masked. -/

namespace Sys2Proof.Machine

variable {s : Dev} {port : Nat}

/-! ### Links (R65, R572) -/

/-- R572: what waited for an open port goes out, in its order. -/
theorem Dev.deliver_open (h : s.portOpen port = true) :
    s.deliver port = { s.modHport port HPort.sync with outbox := s.outbox ++ (s.hport port).waiting } :=
  if_pos h

/-- What `deliver` sends is none of a port's other state. -/
theorem Dev.deliver_hport {β : Type} (g : HPort → β) (h : ∀ k, g k.sync = g k) : g ((s.deliver port).hport port) = g (s.hport port) := by
  unfold Dev.deliver
  split
  · exact (congrArg g (s.hport_modHport port HPort.sync)).trans (h _)
  · rfl

/-- R65, R661: the device whose port's link has come up, before what waited goes out. -/
def Dev.linkUp (s : Dev) (port speed width l0p : Nat) (flit : Bool) : Dev :=
  (s.setRef port true).modHport port fun h => { h with up := true, speed, width, l0p, flit := flit || decide (speed = 6) }

section

variable (s) (port speed width l0p : Nat) (flit : Bool)

theorem Dev.linkUp_hport : (s.linkUp port speed width l0p flit).hport port =
    { s.hport port with up := true, speed, width, l0p, flit := flit || decide (speed = 6) } :=
  Dev.hport_modHport _ _ _

/-- R556, R572: a link that comes up opens its port, but in D3hot. -/
theorem Dev.linkUp_open {s : Dev} {port : Nat} (hperst : s.perst port = false) (ht : s.pinsTaken = false)
    (hd : (s.hport port).d3hot = false) : (s.linkUp port speed width l0p flit).portOpen port = true := by
  have hp : (s.linkUp port speed width l0p flit).perst port = false := hperst
  have hpins : (s.linkUp port speed width l0p flit).pinsTaken = false := ht
  rw [Dev.portOpen, Dev.linkUp_hport, hp, hpins, hd]
  rfl

end

/-! ### Lost records (R572) -/

theorem Dev.loseRecords_none (h : (s.hport port).waiting.countP isRecord = 0) : s.loseRecords port = s := if_pos h

theorem Dev.loseRecords_some (h : (s.hport port).waiting.countP isRecord ≠ 0) :
    s.loseRecords port =
      (s.when (!(s.hport port).lostLogged) fun s => s.logE E_HOST_CPL_LOST port).modHport port fun h =>
        { h with waiting := h.waiting.filter (fun o => !isRecord o)
                 cplLost := sat16 h.cplLost ((s.hport port).waiting.countP isRecord), lostLogged := true } :=
  if_neg h

/-- R572: the loss is logged once in an episode. -/
theorem Dev.loseRecords_logged (h : (s.hport port).waiting.countP isRecord ≠ 0) :
    (s.loseRecords port).rcv.log.length = s.rcv.log.length + if (s.hport port).lostLogged then 0 else 1 := by
  rw [Dev.loseRecords_some h, Dev.modHport_rcv]
  cases (s.hport port).lostLogged <;> rfl

theorem Dev.loseRecords_hport (h : (s.hport port).waiting.countP isRecord ≠ 0) :
    (s.loseRecords port).hport port =
      { s.hport port with
        waiting := (s.hport port).waiting.filter (fun o => !isRecord o)
        cplLost := sat16 (s.hport port).cplLost ((s.hport port).waiting.countP isRecord), lostLogged := true } := by
  rw [Dev.loseRecords_some h, Dev.hport_modHport, Dev.when_keeps (fun s => s.hport port) _ _ rfl]

/-! ### Vectors (R579) and functions (R573) -/

theorem Dev.unmask_masked {vec : Nat} (h : (s.hport port).unmasked.contains vec = false) :
    s.unmask port vec =
      let d := s.modHport port fun h => { h with unmasked := h.unmasked ++ [vec], pendingVec := h.pendingVec.filter (· ≠ vec) }
      if (s.hport port).pendingVec.contains vec then d.hostSend port (.msix port vec) else d :=
  if_neg (Bool.eq_false_iff.mp h)

/-- R573: after a function reset the function is in D0 with every vector masked. -/
theorem Dev.flr_hport (hup : (s.hport port).up = true) (hperst : s.perst port = false) (hs : 3 ≤ s.boot.step ∨ s.boot.halted = true) :
    ((s.flr port).hport port).unmasked = [] ∧ ((s.flr port).hport port).pendingVec = [] ∧ ((s.flr port).hport port).d3hot = false := by
  unfold Dev.flr
  rw [if_neg (by rcases hs with h | h <;> simp [hup, hperst, h])]
  simp only [Dev.hport_modHport, and_self]

/-! ### The commands -/

/-- Settles O44: each command by the branch that its premises choose. -/
theorem hostPorts : Obligations.HostPorts := by
  intro s port hl hp
  have hwf : decide (port < 2) = true := decide_eq_true hp
  refine ⟨answers_actIf (exec_pcieLinkDown port false s) hwf hl rfl, ?up, fun ho => ⟨fun h => ?none, fun h => ?lost⟩, ?unmask, ?flr⟩
  case up =>
    intro speed width flit l0p hok hperst ht
    let d := s.dev.linkUp port speed width l0p flit
    have hport {β : Type} (g : HPort → β) (h : ∀ k, g k.sync = g k) :
        g ((d.deliver port).hport port) =
          g { s.dev.hport port with up := true, speed, width, l0p, flit := flit || decide (speed = 6) } :=
      (Dev.deliver_hport g h).trans (congrArg g (Dev.linkUp_hport _ _ _ _ _ _))
    refine ⟨d.deliver port, answers_actIf (exec_pcieLinkUp port speed width ⟨flit, l0p⟩ s) hok hl (if_neg (by simp [hperst, ht])),
      hport (·.up) fun _ => rfl, hport (·.speed) fun _ => rfl, hport (·.width) fun _ => rfl, hport (·.l0p) fun _ => rfl,
      hport (·.flit) fun _ => rfl, fun hd => ?_⟩
    rw [Dev.deliver_open (Dev.linkUp_open speed width l0p flit hperst ht hd)]
    refine ⟨congrArg HPort.waiting (d.hport_modHport port HPort.sync), ?_⟩
    have hwaiting : (d.hport port).waiting = (s.dev.hport port).waiting := by rw [Dev.linkUp_hport]
    exact congrArg (d.outbox ++ ·) hwaiting
  case none => exact answers_act (exec_cplLost port s) hwf hl ((if_neg (Bool.eq_false_iff.mp ho)).trans (Dev.loseRecords_none h))
  case lost =>
    refine ⟨_, answers_act (exec_cplLost port s) hwf hl (if_neg (Bool.eq_false_iff.mp ho)), ?_, ?_, Dev.loseRecords_logged h⟩
    · exact congrArg HPort.waiting (Dev.loseRecords_hport h)
    · exact congrArg HPort.cplLost (Dev.loseRecords_hport h)
  case unmask =>
    intro vec hv hm d
    have answered {t : Dev} (ht : s.dev.unmask port vec = t) : answers (.msixUnmask port vec) s t :=
      answers_act (exec_msixUnmask port vec s) (by simp [hp, hv]) hl ht
    exact ⟨fun h => answered ((Dev.unmask_masked hm).trans (if_pos h)),
      fun h => answered ((Dev.unmask_masked hm).trans (if_neg (Bool.eq_false_iff.mp h)))⟩
  case flr =>
    exact fun hup hperst hs => ⟨_, answers_act (exec_flr port s) hwf hl rfl, Dev.flr_hport hup hperst hs⟩

end Sys2Proof.Machine
end


section
/-! Live reload (R80, R132–R141): what IMG_RELOAD answers, and how a reload goes on or ends. -/

namespace Sys2Proof.Machine

variable {s : Dev}

/-! ### IMG_RELOAD (R80, R132) -/

section

variable {e : Entry} {iss : Issuer} (i : Image)

theorem Dev.mgImgReload_operand (h : 1000 < ebytes e 44 2) : s.mgImgReload i e iss = s.answer iss E_MGMT_OPERAND := if_pos h

variable (hms : ebytes e 44 2 ≤ 1000)
include hms

/-- R132: one reload at a time. -/
theorem Dev.mgImgReload_busy (h : s.img.reload.isSome = true) : s.mgImgReload i e iss = s.answer iss E_IMG_BUSY :=
  (if_neg (by omega)).trans (if_pos h)

variable (hr : s.img.reload = none)
include hr

/-- R80: a reload is measured, and a full log takes none. -/
theorem Dev.mgImgReload_full (h : 4096 ≤ s.boot.log.length) : s.mgImgReload i e iss = s.answer iss E_MEAS_LOG_FULL :=
  (if_neg (by omega)).trans ((if_neg (by simp [hr])).trans (if_pos h))

/-- R132, R138: the image is fetched; a drain limit of 0 stands for 10 ms. -/
theorem Dev.mgImgReload_begins (h : s.boot.log.length < 4096) :
    s.mgImgReload i e iss =
      ({ s with img := { s.img with
          reload := some { part := s.reloadPartOf i iss, image := i, iss, drainMs := if ebytes e 44 2 = 0 then 10 else ebytes e 44 2,
                           phase := .check, failed := none }
          reloadPart := s.reloadPartOf i iss } } : Dev).out
        (.hostFetch (s.portOf (s.reloadPartOf i iss)) (BitVec.ofNat 64 (ebytes e 32 8)) (ebytes e 40 4)) :=
  (if_neg (by omega)).trans ((if_neg (by simp [hr])).trans (if_neg (by omega)))

end

/-! ### The reload in progress (R133–R135) -/

section

variable {r : Reload} {w : Image} (hr : s.img.reload = some r) (hw : s.img.loaded = some w)
include hr hw

theorem Dev.reloadChecked_bad {v : Verdict} (hph : r.phase = .check) (hv : s.checkReload w r.image r.part = some v) :
    s.reloadChecked = s.endReload r v.1 (BitVec.ofNat 8 v.2.1) (BitVec.ofNat 24 v.2.2) := by
  simp [Dev.reloadChecked, hr, hw, hph, hv]

/-- R134, R139: the drain begins; tests of the partition stop. -/
theorem Dev.reloadChecked_good (hph : r.phase = .check) (hv : s.checkReload w r.image r.part = none) :
    s.reloadChecked =
      ({ s with img := { s.img with reload := some { r with phase := .drain } } } : Dev).resetTests fun kind unit =>
        ({ s with img := { s.img with reload := some { r with phase := .drain } } } : Dev).testOwnedBy kind unit r.part := by
  simp only [Dev.reloadChecked, hr, hw, hph, hv]
  rfl

/-- R134: the switch waits for work that runs. -/
theorem Dev.reloadSwitch_waits (h : s.partRuns r.part = true) : s.reloadSwitch = s := by
  simp [Dev.reloadSwitch, hr, hw, h]

variable (hph : r.phase = .drain) (hidle : s.partRuns r.part = false)
include hph hidle

theorem Dev.reloadSwitch_done (h : s.logFull = false) : s.reloadSwitch = (s.switchTo w r).endReload r E_OK 0xFF 0 := by
  simp [Dev.reloadSwitch, hr, hw, hph, hidle, h]

/-- R80: a log that has filled up since the request. -/
theorem Dev.reloadSwitch_full (h : s.logFull = true) : s.reloadSwitch = s.endReload r E_MEAS_LOG_FULL 0xFF 0 := by
  simp [Dev.reloadSwitch, hr, hw, hph, hidle, h]

end

/-! ### The commands -/

section

variable {s : State} {d : Dev} (hl : s.dev.live = true)
include hl

theorem answers_reloadCheckDone (hd : s.dev.reloadChecked = d) : answers .reloadCheckDone s d :=
  answers_act (exec_reloadCheckDone s) rfl hl hd

theorem answers_reloadSwitch (hd : s.dev.reloadSwitch = d) : answers .reloadSwitch s d :=
  answers_act (exec_reloadSwitch s) rfl hl hd

variable {r : Reload} (hr : s.dev.img.reload = some r)
include hr

/-- R135: the drain limit ends a reload whose partition still runs. -/
theorem answers_reloadDrainExpired
    (hd : (if r.phase = .drain ∧ s.dev.partRuns r.part then s.dev.endReload r E_IMG_RELOAD_DRAIN 0xFF 0 else s.dev) = d) :
    answers .reloadDrainExpired s d :=
  answers_act (exec_reloadDrainExpired s) rfl hl (by simp only [hr]; exact hd)

end

/-- Settles O46: each command by the branch that its premises choose. -/
theorem liveReload : Obligations.LiveReload := by
  intro s hl
  refine ⟨?request, fun r w hr hw => ⟨fun hph => ⟨fun v hv => ?bad, fun hv => ?good⟩,
    fun hph => ⟨fun hi hf => ?switch, fun hi hf => ?full, fun hi => ?idle, fun hb => ⟨?late, ?waits⟩⟩⟩⟩
  case request =>
    intro q e d img hq h iss n ms
    have answered {t : Dev} (ht : d.mgImgReload (readImage img) e iss = t) : answers (.imgReload q img) s t :=
      answers_mgmt (exec_imgReload q img s) (decide_eq_true hq) hl h ht
    exact ⟨fun hm => answered (Dev.mgImgReload_operand _ hm), fun hm hr => answered (Dev.mgImgReload_busy _ hm hr),
      fun hm hr hn => answered (Dev.mgImgReload_full _ hm hr hn), fun hm hr hn => answered (Dev.mgImgReload_begins _ hm hr hn)⟩
  case bad => exact answers_reloadCheckDone hl (Dev.reloadChecked_bad hr hw hph hv)
  case good => exact answers_reloadCheckDone hl (Dev.reloadChecked_good hr hw hph hv)
  case switch => exact answers_reloadSwitch hl (Dev.reloadSwitch_done hr hw hph hi hf)
  case full => exact answers_reloadSwitch hl (Dev.reloadSwitch_full hr hw hph hi hf)
  case idle => exact answers_reloadDrainExpired hl hr (if_neg (by simp [hi]))
  case late => exact answers_reloadDrainExpired hl hr (if_pos ⟨hph, hb⟩)
  case waits => exact answers_reloadSwitch hl (Dev.reloadSwitch_waits hr hw hb)

end Sys2Proof.Machine
end

section
/-! The sideband (R79, R350, R641, R642, R690–R694): SUPV_N and the rails, SMBus commands, JTAG instructions. -/

namespace Sys2Proof.Machine

variable {s : Dev}

/-! ### SUPV_N (R692) -/

theorem Dev.supv_falls (ht : s.pinsTaken = false) (h : s.side.supvLow = false) : s.supv true = s.heldReset := by
  simp [Dev.supv, ht, h]

/-- R692: a start from power-on follows, but under a latched shutdown. -/
theorem Dev.supv_rises (ht : s.pinsTaken = false) (h : s.side.supvLow = true) :
    s.supv false =
      let d : Dev := { s with side := { s.side with supvLow := false } }
      if s.boot.powered && !s.pow.shutdown then d.coldStart else d := by
  simp [Dev.supv, ht, h]

/-! ### SMBus (R693) and the test access port (R694) -/

theorem Dev.smbusReg_off (h : s.live = false) : s.smbusReg = BitVec.allOnes 64 := by simp [Dev.smbusReg, h]

theorem Dev.smbusReg_hub (hl : s.live = true) (h : s.side.offset.toNat < 0x80000) : s.smbusReg = s.hubReg s.side.offset.toNat := by
  simp [Dev.smbusReg, hl, h]

/-- R79: an access beyond boundary scan is measured once in a start. -/
theorem Dev.jtagMeasure_seen (h : s.boot.jtagSeen = true) : s.jtagMeasure = s := if_pos (by simp [h])

theorem Dev.loadIr_other (hp : s.boot.powered = true) (h : s.boot.jtagSeen = true) (n : Nat) :
    s.loadIr (.other n) = { s with side := { s.side with ir := .other n } } := by
  refine (if_neg (by simp [hp])).trans ?_
  exact Dev.jtagMeasure_seen (s := { s with side := { s.side with ir := .other n } }) h

/-! ### The commands -/

/-- Settles O47: each command by the branch that its premises choose. -/
theorem sideband : Obligations.Sideband := by
  intro s
  refine ⟨fun hp ht => ?smbus, fun ht => ⟨fun h => ?low, fun h hp hs => ?start, fun h hs => ?held⟩, ?off, fun hp => ?jtag⟩
  case smbus =>
    have answered {c : Instr} {f : Dev → Dev} {t : Dev} (he : exec c s = actAlways true (·.smbus f) s) (hd : f s.dev = t) :
        answers c s t :=
      answers_actAlways he rfl ((if_pos (by rw [hp, ht]; rfl)).trans hd)
    refine ⟨answered (exec_readHb s) rfl, answered (exec_readBoot s) rfl, answered (exec_readTemp s) rfl,
      fun off => answered (exec_setOffset off s) rfl, fun hl => answered (exec_readCsr s) ?_, fun hl ho => answered (exec_readCsr s) ?_⟩
    · rw [Dev.smbusReg_off hl]
    · rw [Dev.smbusReg_hub hl ho]
  case low =>
    exact ⟨_, answers_actAlways (exec_supvN true s) rfl (Dev.supv_falls ht h), rfl, rfl, rfl, rfl, rfl, rfl⟩
  case start =>
    refine ⟨_, answers_actAlways (exec_supvN false s) rfl ((Dev.supv_rises ht h).trans (if_pos ?_)), rfl, rfl, rfl, rfl⟩
    rw [hp, hs]
    rfl
  case held =>
    refine answers_actAlways (exec_supvN false s) rfl ((Dev.supv_rises ht h).trans (if_neg ?_))
    rw [hs, Bool.not_true, Bool.and_false]
    exact Bool.false_ne_true
  case off => exact ⟨_, answers_actAlways (exec_powerRemove s) rfl rfl, rfl, rfl, rfl, rfl, rfl⟩
  case jtag =>
    have answered {ir : JtagIr} {t : Dev} (hd : s.dev.loadIr ir = t) : answers (.jtagInstruction ir) s t :=
      answers_actAlways (exec_jtagInstruction ir s) rfl hd
    have hrun : ¬ (!s.dev.boot.powered) = true := by simp [hp]
    exact ⟨answered (if_neg hrun), answered (if_neg hrun), fun n _ hseen => answered (Dev.loadIr_other hp hseen n)⟩

end Sys2Proof.Machine
end

section
/-! The state before power-good (R68, R358, R399, R482, R519, R520, R553, R614, R615). -/

namespace Sys2Proof.Machine

/-- Settles O58: a part without entries reads its defaults, and the registers are computed. -/
theorem resetState : Obligations.ResetState := by
  exact ⟨rfl, rfl, rfl, by decide, fun _ => rfl, fun _ => rfl, by decide, by decide⟩

end Sys2Proof.Machine
end


section
/-! Matrix arrays (R161, R172, R670): what the changes of an array's queue, of a core store's error words and of the counters leave
of the array; which of the five starts the next instruction of the queue has. -/

namespace Sys2Proof.Machine

variable (s : Dev)

@[simp] theorem Dev.arr_modInsn (c a id : Nat) (f : ArrInsn → ArrInsn) :
    (s.modInsn c a id f).arr c a = { s.arr c a with queue := (s.arr c a).queue.map fun k => if k.id = id then f k else k } :=
  s.arr_modArr c a _
@[simp] theorem Dev.thr_modInsn (c a id : Nat) (f : ArrInsn → ArrInsn) (x : Tid) : (s.modInsn c a id f).thr x = s.thr x :=
  s.thr_modArr c a _ x
@[simp] theorem Dev.modInsn_mem (c a id : Nat) (f : ArrInsn → ArrInsn) : (s.modInsn c a id f).mem = s.mem := rfl

/-- A change of a core that keeps its arrays leaves every array. -/
theorem Dev.arr_modCore {b : Nat} {f : Core → Core} (h0 : ∀ k, (f k).a0 = k.a0) (h1 : ∀ k, (f k).a1 = k.a1) (c a : Nat) :
    (s.modCore b f).arr c a = s.arr c a := by
  by_cases hc : c = b
  · subst hc; simp [Dev.arr, h0, h1]
  · simp [Dev.arr, hc]

@[simp] theorem Dev.arr_storeTouch (b off n c a : Nat) : (s.storeTouch b off n).arr c a = s.arr c a :=
  s.arr_modCore (by intro k; rfl) (by intro k; rfl) c a
@[simp] theorem Dev.storeTouch_mem (b off n : Nat) : (s.storeTouch b off n).mem = s.mem := rfl

@[simp] theorem Dev.arr_count (bank src n : Nat) (unit part vc : Option Nat) (c a : Nat) :
    (s.count bank src n unit part vc).arr c a = s.arr c a :=
  s.count_keeps (g := fun s => s.arr c a) (fun _ _ => rfl) bank src n unit part vc
@[simp] theorem Dev.thr_count (bank src n : Nat) (unit part vc : Option Nat) (x : Tid) :
    (s.count bank src n unit part vc).thr x = s.thr x :=
  s.count_keeps (g := fun s => s.thr x) (fun _ _ => rfl) bank src n unit part vc

end Sys2Proof.Machine
end

section
/-! The start of an MLOAD and of an MSTREAM, and the cycles of a load (R172, R197–R199, R249, R251, R252, R274). -/

namespace Sys2Proof.Machine

variable {s : Dev} {c a : Nat} {k : ArrInsn} {w : Weights}

/-! ### Starts (R197, R199, R251, R252) -/

theorem Dev.loadRest_none (h : (s.arr c a).load = none) : s.loadRest c a = s := by
  simp [Dev.loadRest, MArray.loadLeft, h]

theorem Dev.startLoad_free (h : (s.arr c a).shadow = none) :
    s.startLoad c a k =
      (s.modArr c a fun m => { m with loading := some { fmt := k.desc.fmt, k := k.desc.k, n := k.desc.n } }).modInsn c a k.id fun j =>
        { j with started := true } :=
  if_neg (by simp [h])

theorem Dev.startLoad_full (h : (s.arr c a).shadow.isSome = true) :
    s.startLoad c a k = s.modInsn c a k.id fun k => { k.stop E_MX_SHADOW_BUSY with started := true } :=
  if_pos h

/-- R199: the weights that a stream would take: those in the shadow, or else the active ones. -/
def MArray.nextWeights (m : MArray) : Weights := m.shadow.getD m.active

/-- R252: the code of the first check that a stream which starts fails. -/
def MArray.streamCode (m : MArray) (d : MxDesc) : Code :=
  if !m.wvalid then E_ARRAY_NO_WEIGHTS
  else if !mxPair m.nextWeights.fmt d.fmt then E_MX_FORMAT
  else if m.nextWeights.k < d.k ∨ m.nextWeights.n < d.n then E_MX_LOADED
  else E_OK

section

variable {m : MArray} {d : MxDesc}

theorem MArray.streamCode_noWeights (hv : m.wvalid = false) : m.streamCode d = E_ARRAY_NO_WEIGHTS := by
  simp [MArray.streamCode, hv]

variable (hv : m.wvalid = true)
include hv

theorem MArray.streamCode_format (hp : mxPair m.nextWeights.fmt d.fmt = false) : m.streamCode d = E_MX_FORMAT := by
  simp [MArray.streamCode, hv, hp]

variable (hp : mxPair m.nextWeights.fmt d.fmt = true)
include hp

theorem MArray.streamCode_loaded (hs : m.nextWeights.k < d.k ∨ m.nextWeights.n < d.n) : m.streamCode d = E_MX_LOADED := by
  simp [MArray.streamCode, hv, hp, hs]

theorem MArray.streamCode_ok (hk : d.k ≤ m.nextWeights.k) (hn : d.n ≤ m.nextWeights.n) : m.streamCode d = E_OK := by
  simp [MArray.streamCode, hv, hp, hk, hn]

end

/-- R252: a check that fails ends the stream. -/
theorem Dev.startStream_ends {code : Code} (hcode : (s.arr c a).streamCode k.desc = code) (hne : code ≠ E_OK) :
    s.startStream c a k = s.modInsn c a k.id fun k => { k.stop code with started := true } := by
  subst hcode
  exact if_pos hne

/-- R197, R199: a stream whose checks pass makes the loaded weights active. -/
theorem Dev.startStream_begins (hcode : (s.arr c a).streamCode k.desc = E_OK) :
    s.startStream c a k =
      (s.modArr c a fun m => { m with active := (s.arr c a).nextWeights, shadow := none }).modInsn c a k.id fun k =>
        { k with started := true } :=
  if_neg (not_not_intro hcode)

/-! ### A cycle of the load in progress (R172, R198, R249, R274) -/

/-- R249: the pieces of the next cycle of a load. -/
def ArrInsn.pieces (k : ArrInsn) : List LoadPiece := (loadCycles k.desc).getD k.fed []

/-- R241: where the tile begins in the store of core `c`. -/
def ArrInsn.tileAt (k : ArrInsn) (c : Nat) : Nat := k.desc.src.toNat - (0x020000000000 + c * 0x02000000)

/-- R172: a piece of the cycle lies in an uncorrectable word. -/
def Dev.pieceBad (s : Dev) (c : Nat) (k : ArrInsn) : Bool :=
  k.pieces.any fun p => s.storeBadAt c (k.tileAt c + (p.extent k.desc).1) (p.extent k.desc).2

/-- R249, R274: the weights after the cycle, read from the store as it stands. -/
def Dev.piecesTaken (s : Dev) (c : Nat) (k : ArrInsn) (w : Weights) : Weights :=
  loadPieces (fun off n => getBytes (s.core c).store (k.tileAt c + off) n) k.desc w k.pieces

/-- R172: the store after the cycle's reads. -/
def Dev.piecesRead (s : Dev) (c : Nat) (k : ArrInsn) : Dev :=
  s.fold k.pieces fun s p => s.storeTouch c (k.tileAt c + (p.extent k.desc).1) (p.extent k.desc).2

/-- R249: no cycle is left after the next one. -/
def ArrInsn.lastCycle (k : ArrInsn) : Bool := decide ((loadCycles k.desc).length ≤ k.fed + 1)

/-- R198, R199: what a cycle makes of the array's weights. -/
def MArray.loadStep (m : MArray) (last : Bool) (w : Weights) : MArray :=
  if last then { m with loading := none, shadow := some w, wvalid := true } else { m with loading := some w }

section

variable (m : MArray) (last : Bool) (w : Weights)

theorem MArray.loadStep_shadow : (m.loadStep last w).shadow = if last then some w else m.shadow := by cases last <;> rfl
theorem MArray.loadStep_loading : (m.loadStep last w).loading = if last then none else some w := by cases last <;> rfl
theorem MArray.loadStep_wvalid : (m.loadStep last w).wvalid = if last then true else m.wvalid := by cases last <;> rfl
theorem MArray.loadStep_queue : (m.loadStep last w).queue = m.queue := by cases last <;> rfl

end

/-- What a cycle makes of the load itself. -/
def ArrInsn.loadStep (k j : ArrInsn) : ArrInsn :=
  { j with fed := j.fed + 1, rows := j.rows + (k.pieces.map (·.rows k.desc)).sum, done := k.lastCycle }

@[simp] theorem Dev.arr_piecesRead : (s.piecesRead c k).arr c a = s.arr c a :=
  Dev.fold_keeps (fun s => s.arr c a) (fun s _ => s.arr_storeTouch c _ _ c a) s _
@[simp] theorem Dev.thr_piecesRead (x : Tid) : (s.piecesRead c k).thr x = s.thr x :=
  Dev.fold_keeps (fun s => s.thr x) (fun s _ => s.thr_storeTouch c _ _ x) s _
@[simp] theorem Dev.piecesRead_mem : (s.piecesRead c k).mem = s.mem :=
  Dev.fold_keeps Dev.mem (fun s _ => s.storeTouch_mem c _ _) s _

section

variable (hk : (s.arr c a).load = some k) (hw : (s.arr c a).loading = some w)
include hk hw

theorem Dev.loadCycle_good (h : s.pieceBad c k = false) :
    s.loadCycle c a =
      ((s.piecesRead c k).modArr c a fun m => m.loadStep k.lastCycle (s.piecesTaken c k w)).modInsn c a k.id k.loadStep := by
  unfold Dev.loadCycle
  rw [hk, hw]
  exact if_neg (Bool.eq_false_iff.mp h)

/-- R172: nothing stays of a load that reads an uncorrectable word. -/
theorem Dev.loadCycle_bad (h : s.pieceBad c k = true) :
    s.loadCycle c a =
      ((s.piecesRead c k).modArr c a fun m => { m with loading := none }).modInsn c a k.id fun k => k.stop E_STORE_UNCORR := by
  unfold Dev.loadCycle
  rw [hk, hw]
  exact if_pos h

end

/-! ### The command -/

/-- R248: what the start of an instruction does, by its kind. -/
def Dev.startInsn (s : Dev) (c a : Nat) (k : ArrInsn) : Dev :=
  match k.kind with
  | .mload => (s.loadRest c a).startLoad c a k
  | .mstream => (s.loadRest c a).startStream c a k
  | .mdrain => (s.modInsn c a k.id fun k => { k with started := true }).drainRows c a k.id k.desc k.desc.m 0
  | .mdrv => s.startDrv c a k
  | .mracc => s.modInsn c a k.id fun k => { k with started := true }

/-- R248: the next instruction of the queue starts where it may. -/
theorem answers_arrayInstrStart {s : State} {d : Dev} (hl : s.dev.live = true) (hc : c < 32) (ha : a < 2) (hb : s.dev.coreBusy c = false)
    (hnext : (s.dev.arr c a).queue.find? (!·.started) = some k) (hmay : (s.dev.arr c a).mayStart k = true)
    (hd : s.dev.startInsn c a k = d) : answers (.arrayInstrStart c a) s d := by
  refine answers_act (exec_arrayInstrStart c a s) (by simp [hc, ha]) hl ?_
  simp only [hnext]
  exact (if_neg (by simp [hmay, hb])).trans hd

/-- Settles O15: each start by the branch that its premises choose, a cycle of the load by whether its reads are free of errors. -/
theorem mloadAndMstreamStart : Obligations.MloadAndMstreamStart := by
  refine ⟨⟨?mload, ?cycle⟩, ?mstream⟩
  case mload =>
    intro c a s k hl hc ha hb hnext hmay hkind d
    have started {t : Dev} (ht : d.startLoad c a k = t) : answers (.arrayInstrStart c a) s t :=
      answers_arrayInstrStart hl hc ha hb hnext hmay (by rw [Dev.startInsn, hkind]; exact ht)
    exact ⟨Dev.loadRest_none, fun h => started (Dev.startLoad_free h), fun h => started (Dev.startLoad_full h)⟩
  case cycle =>
    intro c a d k w hk hw base ps w' last
    refine ⟨fun hgood => ?good, fun hbad => ?bad⟩
    case good =>
      have hfree : d.pieceBad c k = false := (Bool.not_eq_true' _).mp (List.not_any_eq_all_not.trans hgood)
      have hlast : k.lastCycle = true ↔ last := decide_eq_true_iff
      intro e
      have he : e = _ := Dev.loadCycle_good hk hw hfree
      have harr : e.arr c a = { (d.arr c a).loadStep k.lastCycle w' with
          queue := (d.arr c a).queue.map fun j => if j.id = k.id then k.loadStep j else j } := by
        rw [he, Dev.arr_modInsn, Dev.arr_modArr, Dev.arr_piecesRead, MArray.loadStep_queue]
        rfl
      rw [harr]
      refine ⟨?_, ?_, ?_, rfl, ?_, fun y => ?_⟩
      · exact ((d.arr c a).loadStep_shadow _ w').trans (if_congr hlast rfl rfl)
      · exact ((d.arr c a).loadStep_loading _ w').trans (if_congr hlast rfl rfl)
      · exact ((d.arr c a).loadStep_wvalid _ w').trans (if_congr hlast rfl rfl)
      · rw [he, Dev.modInsn_mem, Dev.modArr_mem, Dev.piecesRead_mem]
      · rw [he, Dev.thr_modInsn, Dev.thr_modArr, Dev.thr_piecesRead]
    case bad =>
      intro e
      have he : e = _ := Dev.loadCycle_bad hk hw hbad
      rw [he, Dev.arr_modInsn, Dev.arr_modArr, Dev.arr_piecesRead]
      exact ⟨rfl, rfl, rfl, rfl⟩
  case mstream =>
    intro c a s k hl hc ha hb hnext hmay hkind r m w ends
    have started {t : Dev} (ht : r.startStream c a k = t) : answers (.arrayInstrStart c a) s t :=
      answers_arrayInstrStart hl hc ha hb hnext hmay (by rw [Dev.startInsn, hkind]; exact ht)
    exact ⟨fun hv => started (Dev.startStream_ends (MArray.streamCode_noWeights hv) (by decide)),
      fun hv hp => started (Dev.startStream_ends (MArray.streamCode_format hv hp) (by decide)),
      fun hv hp hs => started (Dev.startStream_ends (MArray.streamCode_loaded hv hp hs) (by decide)),
      fun hv hp hk hn => started (Dev.startStream_begins (MArray.streamCode_ok hv hp hk hn))⟩

end Sys2Proof.Machine
end

section
/-! Feeding rows (R202, R226, R250, R253, R256, R274): the cycles in which rows are fed, and what feeding a row reads. -/

namespace Sys2Proof.Machine

/-! ### The window of 25 cycles (R202, R226, R256) -/

section

variable (m : MArray) {t p v w q : Nat}

/-- R226: the power step of a window that has begun is kept in it. -/
theorem MArray.stepIn_window (h : m.window = some (w, q)) : m.stepIn p w = q := by
  simp [MArray.stepIn, h, Option.filter]

/-- R226: another window takes the step of now. -/
theorem MArray.stepIn_other (h : m.window = some (w, q)) (hv : v ≠ w) : m.stepIn p v = p := by
  simp [MArray.stepIn, h, Option.filter, hv.symm]

theorem MArray.stepIn_none (h : m.window = none) : m.stepIn p v = p := by
  simp [MArray.stepIn, h]

theorem MArray.feedCycle_open (h : t % 25 < 25 - m.stepIn p (t / 25)) : m.feedCycle t p = t := if_pos h

theorem MArray.feedCycle_closed (h : 25 - m.stepIn p (t / 25) ≤ t % 25) : m.feedCycle t p = 25 * (t / 25 + 1) := by
  rw [MArray.feedCycle, if_neg (by omega)]
  omega

theorem MArray.le_feedCycle (t p : Nat) : t ≤ m.feedCycle t p := by
  unfold MArray.feedCycle
  split <;> omega

/-- R256: a row is fed no earlier than the array is free for it. -/
theorem MArray.feedAt_le_rowCycle (p cycles : Nat) : m.feedAt ≤ m.rowCycle p cycles := by
  have first : m.feedAt ≤ m.feedCycle m.feedAt p := m.le_feedCycle _ p
  have second : m.feedCycle m.feedAt p + 1 ≤ m.feedCycle (m.feedCycle m.feedAt p + 1) p := m.le_feedCycle _ p
  unfold MArray.rowCycle
  simp only
  split <;> omega

end

/-! ### What feeding a row reads (R240, R250, R274) -/

section

variable (s : Dev) (c a : Nat) (k : ArrInsn)

/-- R239: where the next row of a stream begins in the store of core `c`. -/
def ArrInsn.rowAt (k : ArrInsn) (c : Nat) : Nat :=
  k.desc.src.toNat + k.fed * k.desc.srcPitch.toNat - (0x020000000000 + c * 0x02000000)

/-- R240: where the slot of the next row begins. -/
def ArrInsn.slotAt (k : ArrInsn) (c : Nat) : Nat := k.desc.scale.toNat + 32 * k.fed - (0x020000000000 + c * 0x02000000)

/-- R172, R670: the device after the reads of a row that is fed in cycle `t`, its events counted. -/
def Dev.rowRead (t : Nat) : Dev :=
  (((((s.storeTouch c (k.rowAt c) (mxBytes k.desc.fmt k.desc.k)).storeTouch c (k.slotAt c) (32 * slotsRead k.desc k.fed)).count
    (bankCore c) (0x08 + a)).count (bankCore c) 0x0B (k.desc.k * k.desc.n / 256)).count (bankCore c) 0x0A
      (t + 1 - (s.arr c a).feedAt - mxRowCycles k.desc.fmt k.desc.out))

@[simp] theorem Dev.arr_rowRead (t : Nat) : (s.rowRead c a k t).arr c a = s.arr c a := by simp [Dev.rowRead]
@[simp] theorem Dev.rowRead_mem (t : Nat) : (s.rowRead c a k t).mem = s.mem := by simp [Dev.rowRead]
@[simp] theorem Dev.thr_rowRead (t : Nat) (x : Tid) : (s.rowRead c a k t).thr x = s.thr x := by simp [Dev.rowRead]

end

/-- R240: only a scaled stream with elements has slots to read. -/
theorem slotsRead_eq (d : MxDesc) (row : Nat) :
    slotsRead d row =
      if (mxScaled d.fmt && d.k != 0) = false then 0 else if mxRate2 d.fmt = false then 1
      else if row % 8 = 0 then min 8 (d.m - row) else 0 := by
  have hnone : (!mxScaled d.fmt || d.k == 0) = true ↔ (mxScaled d.fmt && d.k != 0) = false := by
    cases mxScaled d.fmt <;> simp
  have hrate : (!mxRate2 d.fmt) = true ↔ mxRate2 d.fmt = false := by rw [Bool.not_eq_true']
  exact if_congr hnone rfl (if_congr hrate rfl rfl)

/-! ### The command -/

/-- Settles O16: a row waits or is fed by `writesFirst`; what feeding reads changes no array. -/
theorem streamRowsAndFeedCycles : Obligations.StreamRowsAndFeedCycles := by
  refine ⟨?row, fun m t p => ⟨m.feedCycle_open, m.feedCycle_closed, fun w q v h => ⟨m.stepIn_window h, m.stepIn_other h⟩,
    fun v => m.stepIn_none, rfl, rfl⟩⟩
  intro c a s k hl hc ha hb m hst hk base rowOff rowLen slotOff n slots p t
  have hstream : (s.dev.arr c a).stream = some k := hk
  have hwf : (Instr.arrayRowFeed c a).wf = true := by simp [hc, ha]
  refine ⟨m.feedAt_le_rowCycle p _, fun hwait => ?waits, fun hgo hrow hslot => ?feeds⟩
  case waits =>
    refine answers_act (exec_arrayRowFeed c a s) hwf hl ?_
    simp only [hstream]
    exact if_pos (.inr (.inr hwait))
  case feeds =>
    have hn : slotsRead k.desc k.fed = n := slotsRead_eq k.desc k.fed
    have hslots : slots = if slotsRead k.desc k.fed = 0 then k.slots
        else cutSlots (slotsRead k.desc k.fed) (s.dev.storeRead c slotOff (32 * slotsRead k.desc k.fed)) := by
      rw [hn]
      rfl
    have hready : ¬ (m.st ≠ .ready ∨ s.dev.coreBusy c = true ∨ m.writesFirst t = true) := by
      have hw : m.writesFirst t = false := hgo
      simp [hst, hb, hw]
    have hclean : ¬ (s.dev.storeBadAt c rowOff rowLen || s.dev.storeBadAt c slotOff (32 * slotsRead k.desc k.fed)) = true := by
      simp [hn, hrow, hslot]
    refine ⟨s.dev.rowRead c a k t, answers_act (exec_arrayRowFeed c a s) hwf hl ?_, s.dev.arr_rowRead c a k t, s.dev.rowRead_mem c a k t,
      s.dev.thr_rowRead c a k t⟩
    simp only [hstream]
    refine (if_neg hready).trans ((if_neg hclean).trans ?_)
    rw [hslots]
    rfl

end Sys2Proof.Machine
end

section
/-! Drain rows (R200, R253, R255, R274): what a row of a drain bank holds after it is written, and which rows of a PASS wait. -/

namespace Sys2Proof

/-! ### Entries written one after the other, each at an offset from `base` -/

section

variable {α : Type} [DecidableEq α] (d : α)

theorem look_foldl_put_out {base i : Nat} {l : List (Nat × α)} (m : SMap α) (h : ∀ e ∈ l, i ≠ base + e.1) :
    look d (l.foldl (fun b e => put d b (base + e.1) e.2) m) i = look d m i := by
  induction l generalizing m with
  | nil => rfl
  | cons e l ih =>
    obtain ⟨he, hl⟩ := List.forall_mem_cons.mp h
    exact (ih _ hl).trans (look_put_ne d m e.2 he)

/-- Where the offsets differ, each entry stays. -/
theorem look_foldl_put_mem {base k : Nat} {v : α} {l : List (Nat × α)} (m : SMap α) (hnd : (l.map (·.1)).Nodup) (hv : (k, v) ∈ l) :
    look d (l.foldl (fun b e => put d b (base + e.1) e.2) m) (base + k) = v := by
  induction l generalizing m with
  | nil => exact absurd hv List.not_mem_nil
  | cons e l ih =>
    obtain ⟨hne, hnd⟩ := List.nodup_cons.mp hnd
    rcases List.mem_cons.mp hv with rfl | hv
    · refine (look_foldl_put_out d (put d m (base + k) v) fun e he heq => hne ?_).trans (look_put_same d m _ v)
      exact List.mem_map.mpr ⟨e, he, (Nat.add_left_cancel heq).symm⟩
    · exact ih _ hnd hv

end

namespace Machine

/-! ### What a drain row holds (R253) -/

section

variable (m : MArray) (row : Nat) (acc : Bool) (sums : List (BitVec 32))

/-- R253: what column `n` takes of the sum `x`. -/
def MArray.rowEntry (n : Nat) (x : BitVec 32) : BitVec 32 :=
  if acc then rne32 (decodeNum .fp32 (look 0 m.bank (row * 256 + n)).toNat) (decodeNum .fp32 x.toNat) else x

/-- R253: the columns that a row of sums writes. -/
def MArray.rowEntries : List (Nat × BitVec 32) := sums.zipIdx.map fun e => (e.2, m.rowEntry row acc e.2 e.1)

theorem MArray.writeRow_bank :
    (m.writeRow row acc sums).bank = (m.rowEntries row acc sums).foldl (fun b e => put 0 b (row * 256 + e.1) e.2) m.bank := rfl

theorem MArray.rowEntries_columns : (m.rowEntries row acc sums).map (·.1) = List.range' 0 sums.length := by
  rw [MArray.rowEntries, List.map_map]
  exact List.zipIdx_map_snd 0 sums

theorem MArray.rowEntries_lt {e : Nat × BitVec 32} (he : e ∈ m.rowEntries row acc sums) : e.1 < sums.length := by
  have hcol : e.1 ∈ List.range' 0 sums.length := m.rowEntries_columns row acc sums ▸ List.mem_map_of_mem he
  simpa using hcol

variable {sums}

theorem MArray.mem_rowEntries {n : Nat} (h : n < sums.length) : (n, m.rowEntry row acc n sums[n]) ∈ m.rowEntries row acc sums :=
  List.mem_map.mpr ⟨(sums[n], n), List.mk_mem_zipIdx_iff_getElem?.mpr (List.getElem?_eq_getElem h), rfl⟩

/-- R253: column `n` of the row takes its sum. -/
theorem MArray.writeRow_column {n : Nat} (h : n < sums.length) :
    look 0 (m.writeRow row acc sums).bank (row * 256 + n) = m.rowEntry row acc n sums[n] := by
  rw [m.writeRow_bank]
  exact look_foldl_put_mem 0 m.bank (m.rowEntries_columns row acc sums ▸ List.nodup_range') (m.mem_rowEntries row acc h)

/-- R253: every other row, and every column beyond the sums, stays as it is. -/
theorem MArray.writeRow_elsewhere (hlen : sums.length ≤ 256) {r c : Nat} (hc : c < 256) (h : r ≠ row ∨ sums.length ≤ c) :
    look 0 (m.writeRow row acc sums).bank (r * 256 + c) = look 0 m.bank (r * 256 + c) := by
  rw [m.writeRow_bank]
  refine look_foldl_put_out 0 m.bank fun e he => ?_
  have hcol : e.1 < sums.length := m.rowEntries_lt row acc sums he
  omega

end

/-- R274: the row to feed in cycle `u` is read before the PASS row fed in cycle `t` is written. -/
theorem not_passesFirst (t u : Nat) : (!passesFirst t u) = decide (u ≤ t + 526 + 4) := by
  rw [passesFirst, ← decide_not, decide_eq_decide, Nat.not_lt]

/-! ### The command -/

/-- R274: the reads of rows fed before `f` come before the write of `f`. -/
def Dev.readFirst (s : Dev) (c a : Nat) (k : ArrInsn) (f : FedRow) : Bool :=
  k.desc.out != 0 && ((s.arr c a).nextFeed (s.powerStep (c / 8))).any fun u => !passesFirst f.fedAt u

/-- Settles O17: a row by its destination; a drain row by the columns that it writes. -/
theorem drainRows : Obligations.DrainRows := by
  refine ⟨?command, fun m row acc sums n hlen => ⟨fun h => m.writeRow_column row acc h,
    fun r c hc h => m.writeRow_elsewhere row acc hlen hc h⟩⟩
  case command =>
    intro c a s k f rest hl hc ha hb hst hq hp
    have hwf : (Instr.drainRowWrite c a []).wf = true := by simp [hc, ha]
    have hready (h : s.dev.readFirst c a k f = false) :
        ¬ ((s.dev.arr c a).st ≠ .ready ∨ s.dev.coreBusy c = true ∨ s.dev.readFirst c a k f = true) := by
      simp [hst, hb, h]
    refine ⟨fun hbank _ => ?bank, fun hpass => ?pass⟩
    case bank =>
      have hfirst : s.dev.readFirst c a k f = false := by simp [Dev.readFirst, hbank]
      refine answers_act (exec_drainRowWrite c a [] s) hwf hl ?_
      simp only [hq, hp]
      exact (if_neg (hready hfirst)).trans ((if_neg Bool.false_ne_true).trans (if_pos hbank))
    case pass =>
      intro off bytes cs first
      have hfirst : s.dev.readFirst c a k f = first := by simp [Dev.readFirst, hpass, not_passesFirst, first]
      refine ⟨fun h => answers_act (exec_drainRowWrite c a [] s) hwf hl ?waits,
        fun h hclean => answers_act (exec_drainRowWrite c a [] s) hwf hl ?stored⟩
      all_goals simp only [hq, hp]
      case waits => exact if_pos (.inr (.inr (hfirst.trans h)))
      case stored =>
        exact (if_neg (hready (hfirst.trans h))).trans
          ((if_neg Bool.false_ne_true).trans ((if_neg hpass).trans (if_neg (Bool.eq_false_iff.mp hclean))))

end Machine
end Sys2Proof
end

section
/-! One clock cycle, and every step (R172, R284, R301, R672, R706; log entries 8, 51): what a cycle leaves of a core, and that no step
leaves a thread waiting for a counter that has reached its target. -/

namespace Sys2Proof.Machine

/-! ### Repeated changes -/

/-- What every change of a list keeps, the whole keeps. -/
theorem Dev.fold_holds {α : Type} {P : Dev → Prop} {f : Dev → α → Dev} {l : List α}
    (h : ∀ a ∈ l, ∀ s, P s → P (f s a)) {s : Dev} (hs : P s) : P (s.fold l f) :=
  List.foldlRecOn l f hs fun s hs a ha => h a ha s hs

/-- One change of a list leads from `P` to `Q`, and all others keep both. -/
theorem Dev.fold_once {α : Type} {P Q : Dev → Prop} {f : Dev → α → Dev} {l : List α} {c : α} (hc : c ∈ l) (hnd : l.Nodup)
    (hP : ∀ a, a ≠ c → ∀ s, P s → P (f s a)) (hPQ : ∀ s, P s → Q (f s c)) (hQ : ∀ a, a ≠ c → ∀ s, Q s → Q (f s a))
    {s : Dev} (hs : P s) : Q (s.fold l f) := by
  obtain ⟨l₁, l₂, rfl⟩ := List.append_of_mem hc
  obtain ⟨hc₁, hc₂⟩ : c ∉ l₁ ∧ c ∉ l₂ := by
    simpa using (List.nodup_cons.mp (List.nodup_middle.mp hnd)).1
  have before : P (s.fold l₁ f) := Dev.fold_holds (fun a ha => hP a (ne_of_mem_of_not_mem ha hc₁)) hs
  have after : Q ((f (s.fold l₁ f) c).fold l₂ f) :=
    Dev.fold_holds (fun a ha => hQ a (ne_of_mem_of_not_mem ha hc₂)) (hPQ _ before)
  simpa [Dev.fold] using after

/-! ### The parts of a cycle -/

/-- R706: the soft errors of a cycle strike. -/
def Dev.upsetAll (s : Dev) : Dev := (s.fold (Config.upsets s.free) fun s u => s.upset u).draw

/-- R156, R198: a cycle of the arrays and of the scheduler of a core. -/
def Dev.coreWork (s : Dev) (c : Nat) : Dev :=
  ((s.arrayCycle c 0).arrayCycle c 1).modSched c fun k => { k with slot := k.slot + 1 }

/-- R672: the events of a cycle of a core. -/
def Dev.coreEvents (s : Dev) (c : Nat) : Dev :=
  let s := s.count (bankCore c) 0x01
  let s := if (s.inState c .ready).isEmpty then s.count (bankCore c) 0x03 else s
  let s := s.countThreads c 0x04 (s.inState c .parkedAccess)
  let s := s.countThreads c 0x05 (s.inState c .parkedPort)
  let s := s.countThreads c 0x06 (s.inState c .parkedArray)
  let s := s.countThreads c 0x07 (s.inState c .parkedSync)
  s.count (bankCore c) 0x0F (s.pents c).length

/-- R674–R677: the events of a cycle of the dies, the base dies and the hub. -/
def Dev.otherEvents (s : Dev) : Dev :=
  let s := s.fold (List.range 4) fun s n => s.dieTick n
  (s.fold ((List.range 32).filter (s.stackUsable ·)) fun s k => s.stackTick k).hubTick

variable {s : Dev} {c : Nat}

/-- R672: the cycle of a package whose clocks run. -/
theorem Dev.tick_live (hl : s.live = true) (hp : s.pow.lat < 2) :
    s.tick = (s.upsetAll.fold (List.range 32) fun s c => s.coreTick c).otherEvents := by
  unfold Dev.tick
  rw [if_neg (by simp [hl]), if_neg (by omega)]
  rfl

theorem Dev.tick_still (h : s.live = false ∨ 2 ≤ s.pow.lat) : s.tick = s := by
  unfold Dev.tick
  rcases h with hl | hp
  · rw [if_pos (by simp [hl])]
  · rw [if_pos hp, ite_self]

theorem Dev.coreTick_stands (h : s.coreClocked c = false) : s.coreTick c = s := by simp [Dev.coreTick, h]

theorem Dev.coreTick_runs (h : s.coreClocked c = true) :
    s.coreTick c = ((s.coreWork c).modCore c fun k => { k with cycle := k.cycle + 1 }).coreEvents c := by
  unfold Dev.coreTick
  rw [if_neg (by simp [h])]
  rfl

/-! ### Events change the counter banks only -/

section

variable {β : Type} {g : Dev → β} (he : ∀ s v, g { s with evc := v } = g s)
include he

theorem Dev.countThreads_keeps (s : Dev) (c src : Nat) (l : List Nat) : g (s.countThreads c src l) = g s :=
  Dev.fold_keeps g (fun s _ => s.count_keeps he _ _ _ _ _ _) s l

theorem Dev.coreEvents_keeps (s : Dev) (c : Nat) : g (s.coreEvents c) = g s := by
  unfold Dev.coreEvents
  simp only [Dev.count_keeps _ he, Dev.countThreads_keeps he]
  split
  · rw [Dev.count_keeps _ he, Dev.count_keeps _ he]
  · rw [Dev.count_keeps _ he]

theorem Dev.dieTick_keeps (s : Dev) (n : Nat) : g (s.dieTick n) = g s := by
  unfold Dev.dieTick
  simp only
  split
  · rw [Dev.count_keeps _ he, Dev.count_keeps _ he]
  · rw [Dev.count_keeps _ he]

theorem Dev.stackTick_keeps (s : Dev) (k : Nat) : g (s.stackTick k) = g s := by
  simp only [Dev.stackTick, Dev.count_keeps _ he]

theorem Dev.hubTick_keeps (s : Dev) : g s.hubTick = g s := by
  unfold Dev.hubTick
  simp only
  rw [Dev.count_keeps _ he, Dev.fold_keeps g fun s vc => s.count_keeps he _ _ _ _ _ _, Dev.count_keeps _ he]

theorem Dev.otherEvents_keeps (s : Dev) : g s.otherEvents = g s := by
  unfold Dev.otherEvents
  simp only
  rw [Dev.hubTick_keeps he, Dev.fold_keeps g (Dev.stackTick_keeps he), Dev.fold_keeps g (Dev.dieTick_keeps he)]

end

/-! ### Soft errors and array cycles change arrays and stores only -/

/-- The change of a core keeps its threads, its cycle counter and what stops its clock. -/
structure Core.Keeps (f : Core → Core) : Prop where
  threads : ∀ k, (f k).threads = k.threads
  cycle : ∀ k, (f k).cycle = k.cycle
  p1 : ∀ k, (f k).p1 = k.p1
  resetting : ∀ k, (f k).resetting = k.resetting

section

variable {P : Dev → Prop} (hk : ∀ (s : Dev) (c : Nat) (f : Core → Core), Core.Keeps f → P s → P (s.modCore c f))
include hk

theorem Dev.modArr_holds {a : Nat} {f : MArray → MArray} (h : P s) : P (s.modArr c a f) :=
  hk s c (fun k => if a = 0 then { k with a0 := f (s.arr c a) } else { k with a1 := f (s.arr c a) })
    (by constructor <;> intro k <;> split <;> rfl) h

theorem Dev.storeTouch_holds {off n : Nat} (h : P s) : P (s.storeTouch c off n) := by
  unfold Dev.storeTouch
  exact hk s c _ (by constructor <;> intro k <;> rfl) h

theorem Dev.piecesRead_holds {k : ArrInsn} (h : P s) : P (s.piecesRead c k) :=
  Dev.fold_holds (fun _ _ _ => Dev.storeTouch_holds hk) h

theorem Dev.loadCycle_holds {a : Nat} (h : P s) : P (s.loadCycle c a) := by
  have read {k : ArrInsn} {f g : MArray → MArray} : P (((s.piecesRead c k).modArr c a f).modArr c a g) :=
    Dev.modArr_holds hk (Dev.modArr_holds hk (Dev.piecesRead_holds hk h))
  cases hl : (s.arr c a).load with
  | none => simpa [Dev.loadCycle, hl] using h
  | some k =>
    cases hw : (s.arr c a).loading with
    | none => simpa [Dev.loadCycle, hl, hw] using h
    | some w =>
      cases hb : s.pieceBad c k with
      | false => rw [Dev.loadCycle_good hl hw hb]; exact read
      | true => rw [Dev.loadCycle_bad hl hw hb]; exact read

theorem Dev.arrayCycle_holds {a : Nat} (h : P s) : P (s.arrayCycle c a) := by
  unfold Dev.arrayCycle Dev.when
  split
  · exact Dev.loadCycle_holds hk h
  · exact h

theorem Dev.coreWork_holds (hs : ∀ s v, P s → P { s with sched := v }) (h : P s) : P (s.coreWork c) :=
  hs _ _ (Dev.arrayCycle_holds hk (Dev.arrayCycle_holds hk h))

theorem Dev.upset_holds {u : Upset} (h : P s) : P (s.upset u) := by
  unfold Dev.upset
  split
  · exact h
  · split
    · split
      · exact h
      · exact hk s u.core _ (by constructor <;> intro k <;> rfl) h
    · split
      · exact h
      · exact Dev.modArr_holds hk h

theorem Dev.upsetAll_holds (hf : ∀ s v, P s → P { s with free := v }) (h : P s) : P s.upsetAll :=
  hf _ _ (Dev.fold_holds (fun _ _ _ => Dev.upset_holds hk) h)

end

/-! ### The cycle counter of a core (R284, R672) -/

/-- The clock of core `c` runs or not, and its cycle counter stands at `v`. -/
def Dev.clockAt (s : Dev) (c : Nat) (runs : Bool) (v : Word) : Prop := s.coreClocked c = runs ∧ (s.core c).cycle = v

section

variable {runs : Bool} {v : Word}

/-- A clock reads of its core only whether it is in reset and whether it is stopped. -/
theorem Dev.coreClocked_modCore (s : Dev) {b : Nat} {f : Core → Core} (hp : ∀ k, (f k).p1 = k.p1)
    (hr : ∀ k, (f k).resetting = k.resetting) (c : Nat) : (s.modCore b f).coreClocked c = s.coreClocked c := by
  have core {β : Type} (g : Core → β) (hg : ∀ k, g (f k) = g k) : g ((s.modCore b f).core c) = g (s.core c) := by
    by_cases h : c = b
    · rw [h, Dev.core_modCore, hg]
    · rw [Dev.core_modCore_ne s f h]
  unfold Dev.coreClocked Dev.coreBusy
  rw [core (·.p1) hp, core (·.resetting) hr]
  rfl

theorem Dev.clockAt_modCore {b : Nat} {f : Core → Core} (hf : Core.Keeps f) (h : s.clockAt c runs v) :
    (s.modCore b f).clockAt c runs v := by
  refine ⟨(s.coreClocked_modCore hf.p1 hf.resetting c).trans h.1, Eq.trans ?_ h.2⟩
  by_cases hc : c = b
  · rw [hc, Dev.core_modCore, hf.cycle]
  · rw [Dev.core_modCore_ne s f hc]

theorem Dev.clockAt_coreWork (b : Nat) (h : s.clockAt c runs v) : (s.coreWork b).clockAt c runs v :=
  Dev.coreWork_holds (P := fun s => s.clockAt c runs v) (fun _ _ _ => Dev.clockAt_modCore) (fun _ _ => id) h

theorem Dev.clockAt_coreEvents (s : Dev) (b : Nat) : (s.coreEvents b).clockAt c runs v = s.clockAt c runs v :=
  Dev.coreEvents_keeps (g := fun s => s.clockAt c runs v) (fun _ _ => rfl) s b

/-- The cycle of another core. -/
theorem Dev.clockAt_coreTick_ne {b : Nat} (hb : b ≠ c) (h : s.clockAt c runs v) : (s.coreTick b).clockAt c runs v := by
  cases hr : s.coreClocked b with
  | false => rwa [Dev.coreTick_stands hr]
  | true =>
    rw [Dev.coreTick_runs hr, Dev.clockAt_coreEvents]
    obtain ⟨hc, hv⟩ := Dev.clockAt_coreWork b h
    refine ⟨(Dev.coreClocked_modCore _ (by intro k; rfl) (by intro k; rfl) c).trans hc, ?_⟩
    rw [Dev.core_modCore_ne _ _ hb.symm]
    exact hv

/-- The cycle of the core itself. -/
theorem Dev.clockAt_coreTick (h : s.clockAt c runs v) : (s.coreTick c).clockAt c runs (if runs then v + 1 else v) := by
  cases runs with
  | false => rwa [Dev.coreTick_stands h.1]
  | true =>
    rw [Dev.coreTick_runs h.1, Dev.clockAt_coreEvents]
    obtain ⟨hc, hv⟩ := Dev.clockAt_coreWork c h
    refine ⟨(Dev.coreClocked_modCore _ (by intro k; rfl) (by intro k; rfl) c).trans hc, ?_⟩
    rw [Dev.core_modCore]
    exact congrArg (· + 1) hv

/-- R284, R672: a cycle counts where the clock of the core runs. -/
theorem Dev.clockAt_tick (hl : s.live = true) (hp : s.pow.lat < 2) (hc : c < 32) (h : s.clockAt c runs v) :
    s.tick.clockAt c runs (if runs then v + 1 else v) := by
  have struck : s.upsetAll.clockAt c runs v :=
    Dev.upsetAll_holds (P := fun s => s.clockAt c runs v) (fun _ _ _ => Dev.clockAt_modCore) (fun _ _ => id) h
  rw [Dev.tick_live hl hp, Dev.otherEvents_keeps (g := fun s => s.clockAt c runs _) (fun _ _ => rfl)]
  exact Dev.fold_once (P := fun s => s.clockAt c runs v) (Q := fun s => s.clockAt c runs (if runs then v + 1 else v))
    (List.mem_range.mpr hc) List.nodup_range (fun _ hb _ => Dev.clockAt_coreTick_ne hb) (fun _ => Dev.clockAt_coreTick)
    (fun _ hb _ => Dev.clockAt_coreTick_ne hb) struck

end

theorem step_pending {s : State} {c : Instr} {rest : List Instr} (h : s.pending = c :: rest) :
    step s = exec c { s with pending := rest } := by
  simp [step, h]

theorem step_idle {s : State} (h : s.pending = []) : step s = .next { s with dev := s.dev.tick } := by
  simp [step, h]

/-- Settles O55: on an empty queue, by the cycle's part that belongs to the core. -/
theorem stepTakesTheFront : Obligations.StepTakesTheFront := by
  refine fun s => ⟨fun c rest => step_pending, fun h => ⟨_, step_idle h, h, fun c hc hl hp => ?_⟩⟩
  have cycle {runs : Bool} (hr : s.dev.coreClocked c = runs) := (Dev.clockAt_tick hl hp hc ⟨hr, rfl⟩).2
  exact ⟨cycle, cycle⟩

/-! ### Settled threads (R301) -/

/-- R301: the thread waits for no counter that has reached its target. -/
def Thread.settled (t : Thread) (sync : SMap Word) : Bool :=
  match t.st, t.wait with
  | .parkedSync, .sync k target _ _ => !reached (look 0 sync k) target
  | _, _ => true

/-- R301: no thread of the core waits for a counter that has reached its target. -/
def Core.settled (k : Core) (sync : SMap Word) : Bool := k.threads.all fun t => t.2.settled sync

theorem Dev.settled_eq (s : Dev) : s.settled = s.cores.all fun c => c.2.settled s.sync := rfl

/-- What every listed value satisfies and the default does, each value read satisfies. -/
theorem look_of_all {α : Type} {d : α} {p : α → Bool} {m : SMap α} (h : m.all (fun e => p e.2) = true) (hd : p d = true) (k : Nat) :
    p (look d m k) = true := by
  induction m with
  | nil => exact hd
  | cons e m ih =>
    obtain ⟨he, hm⟩ := Bool.and_eq_true_iff.mp (List.all_cons ▸ h)
    unfold look
    split
    · exact he
    · exact ih hm

theorem all_put {α : Type} [DecidableEq α] {d v : α} {p : Nat × α → Bool} {m : SMap α} {k : Nat} (hm : m.all p = true)
    (hv : p (k, v) = true) : (put d m k v).all p = true := by
  unfold put
  split
  · exact List.all_eq_true.mpr fun e he => List.all_eq_true.mp hm e (List.mem_of_mem_filter he)
  · exact all_insert hm hv

/-- A change of a core that keeps its threads. -/
theorem Dev.settled_modCore {f : Core → Core} (hf : ∀ k, (f k).threads = k.threads) (h : s.settled = true) :
    (s.modCore c f).settled = true := by
  rw [Dev.settled_eq] at h ⊢
  have core : (s.core c).settled s.sync = true := look_of_all (p := fun k : Core => k.settled s.sync) h rfl c
  refine all_put h ?_
  have changed : (f (s.core c)).settled s.sync = (s.core c).settled s.sync := by rw [Core.settled, hf, Core.settled]
  exact changed.trans core

theorem Dev.settled_coreTick (h : s.settled = true) : (s.coreTick c).settled = true := by
  have keeps (s : Dev) (c : Nat) (f : Core → Core) (hf : Core.Keeps f) : s.settled = true → (s.modCore c f).settled = true :=
    Dev.settled_modCore hf.threads
  cases hr : s.coreClocked c with
  | false => rwa [Dev.coreTick_stands hr]
  | true =>
    rw [Dev.coreTick_runs hr, Dev.coreEvents_keeps (g := Dev.settled) fun _ _ => rfl]
    exact Dev.settled_modCore (by intro k; rfl) (Dev.coreWork_holds (P := fun s => s.settled = true) keeps (fun _ _ => id) h)

/-- R301: no counter changes in a cycle, and no thread begins to wait. -/
theorem Dev.settled_tick (h : s.settled = true) : s.tick.settled = true := by
  by_cases hrun : s.live = true ∧ s.pow.lat < 2
  · rw [Dev.tick_live hrun.1 hrun.2, Dev.otherEvents_keeps (g := Dev.settled) fun _ _ => rfl]
    exact Dev.fold_holds (P := fun s => s.settled = true) (fun _ _ _ => Dev.settled_coreTick)
      (Dev.upsetAll_holds (P := fun s => s.settled = true) (fun _ _ _ hf => Dev.settled_modCore hf.threads) (fun _ _ => id) h)
  · rw [Dev.tick_still ((not_and_or.mp hrun).imp Bool.eq_false_iff.mpr not_lt.mp)]
    exact h

/-- R16: the outcome is a next state with the same queue, whose device is as it was or has settled. -/
def goesOnSettled (s : State) (o : Host.Outcome State Fault Refusal) : Prop :=
  ∃ t, o = .next t ∧ t.pending = s.pending ∧ (t.dev = s.dev ∨ ∃ d : Dev, t.dev = d.finish)

theorem goesOnSettled_actIf (ok : Bool) (f : Dev → Dev) (s : State) : goesOnSettled s (actIf ok f s) := by
  obtain ⟨t, ho, hp, hd⟩ := actIf_next ok f s
  exact ⟨t, ho, hp, hd.imp_right fun e => ⟨_, e⟩⟩

theorem goesOnSettled_act (c : Instr) (f : Dev → Dev) (s : State) : goesOnSettled s (act c f s) := goesOnSettled_actIf c.wf f s

theorem goesOnSettled_actAlways (ok : Bool) (f : Dev → Dev) (s : State) : goesOnSettled s (actAlways ok f s) := by
  obtain ⟨t, ho, hp, hd⟩ := actAlways_next ok f s
  exact ⟨t, ho, hp, hd.imp_right fun e => ⟨_, e⟩⟩

/-- Every command has one of the three forms; those of the first two groups are named, as `exec` unfolds to them. -/
theorem exec_goesOnSettled (c : Instr) (s : State) : goesOnSettled s (exec c s) := by
  unfold exec
  cases c
  case powerGood | perstAssert | perstDeassert | supvN | powerRemove | readHb | readBoot | readTemp | setOffset | readCsr |
    jtagInstruction =>
    exact goesOnSettled_actAlways _ _ s
  case coreResetDone | dieHeartbeat | stackMgmtWdog | engMgmtWdog | computeDieReset | stackReset | deviceReset | computeDieResetDone
    | stackResetDone | linkResetDone | dieResetEscalate | stackResetEscalate | deviceResetEscalate | hubWdog | supvHbTick |
    idleControlFlit | modeChange | modeChangeDone | vrNoAck | pstepLower | pwrModeForced | pwrForceEnd | pwrFastLimit | dipWarn |
    dipReset | dipFloorRelease | pwrStackLost | thermSensor | tstepLower | thermModeForced | thermForceEnd | clkDeltaT |
    housekeepingRound | thermalShutdown | latTol | coreP1Entry | latencyStateEntry | latencyStateExit | clkRefLost | clkRefReturn |
    evcSel | snapArm | snapNow | pcieLinkDown | pcieLinkUp | qProgressWdog | arrayResetDone =>
    exact goesOnSettled_actIf _ _ s
  all_goals exact goesOnSettled_act _ _ s

/-- R301: every command keeps the threads settled. -/
theorem exec_settled {c : Instr} {s t : State} (h : s.settled) (he : exec c s = .next t) : t.settled := by
  obtain ⟨u, hu, -, hd⟩ := exec_goesOnSettled c s
  obtain rfl : u = t := Host.Outcome.next.inj (hu.symm.trans he)
  rcases hd with hd | ⟨d, hd⟩
  · rw [State.settled, hd]
    exact h
  · rw [State.settled, hd]
    exact d.finish_settled

/-- Settles O57: a command ends with every waiting thread's condition tested; a cycle touches neither counters nor threads. -/
theorem everyStepKeepsThreadsSettled : Obligations.EveryStepKeepsThreadsSettled := by
  intro s t h hstep
  cases hq : s.pending with
  | nil =>
    obtain rfl := Host.Outcome.next.inj ((step_idle hq).symm.trans hstep)
    exact Dev.settled_tick h
  | cons c rest => exact exec_settled (c := c) (s := { s with pending := rest }) h ((step_pending hq).symm.trans hstep)

end Sys2Proof.Machine
end

section
/-! Words of core instructions (R276–R280): the fields of a word, and the instruction that an opcode names. -/

namespace Sys2Proof

/-! ### The fields of a word (R276) -/

theorem wordOf_opcode (opc : BitVec 8) (i : Insn) : (wordOf opc i).extractLsb' 0 8 = opc := by
  unfold wordOf
  exact BitVec.extractLsb'_append_eq_right

/-- R276: each field of the word of an instruction begins where the fields below it end. -/
theorem insnOf_wordOf (opc : BitVec 8) (i : Insn) : insnOf (wordOf opc i) = i := by
  unfold insnOf wordOf
  simp (disch := decide) only [BitVec.extractLsb'_append_eq_of_le, BitVec.extractLsb'_append_eq_right, BitVec.extractLsb'_eq_self,
    Nat.reduceSub]

/-- R276: a word is the word of its opcode and its fields. -/
theorem wordOf_fields (w : Word) : wordOf (w.extractLsb' 0 8) (insnOf w) = w := by
  have join (m n len : Nat) {k : Nat} (h : m = n + len) : w.extractLsb' m k ++ w.extractLsb' n len = w.extractLsb' n (k + len) :=
    BitVec.extractLsb'_append_extractLsb'_eq_extractLsb' h
  calc wordOf (w.extractLsb' 0 8) (insnOf w)
    _ = w.extractLsb' 0 (32 + 4 + 5 + 5 + 5 + 5 + 8) := by
      simp only [wordOf, insnOf]
      rw [join 32 28 4 rfl, join 28 23 5 rfl, join 23 18 5 rfl, join 18 13 5 rfl, join 13 8 5 rfl, join 8 0 8 rfl]
    _ = w := BitVec.extractLsb'_eq_self

/-! ### Opcodes (R280) -/

/-- R280: an instruction of a core is the one that its opcode names. -/
theorem coreInstr_of_coreFields {c : Instr} {opc : BitVec 8} {x : Tid} {i : Insn} (h : coreFields c = some (opc, x, i)) :
    coreInstr opc.toNat x i = some c := by
  unfold coreFields at h
  split at h <;> cases h <;> rfl

theorem coreFields_of_coreInstr {n : Nat} {c : Instr} {x : Tid} {i : Insn} (h : coreInstr n x i = some c) :
    coreFields c = some (BitVec.ofNat 8 n, x, i) := by
  unfold coreInstr at h
  split at h <;> cases h <;> rfl

variable {c : Instr} {opc : BitVec 8} {x : Tid} {i : Insn} {w : Word}

theorem encode_of_coreFields (h : coreFields c = some (opc, x, i)) : encode c = some (wordOf opc i) := by
  rw [encode, h]
  rfl

/-- R276, R280: the word of an instruction of a core decodes to the instruction. -/
theorem decodeCore_wordOf (h : coreFields c = some (opc, x, i)) : decodeCore x (wordOf opc i) = c := by
  rw [decodeCore, wordOf_opcode, insnOf_wordOf, coreInstr_of_coreFields h]
  rfl

/-- R278: what a word decodes to has its opcode and its fields, or is an illegal instruction. -/
theorem coreFields_decodeCore (x : Tid) (w : Word) :
    coreFields (decodeCore x w) = none ∨ coreFields (decodeCore x w) = some (w.extractLsb' 0 8, x, insnOf w) := by
  unfold decodeCore
  cases h : coreInstr (w.extractLsb' 0 8).toNat x (insnOf w) with
  | none => exact .inl rfl
  | some c =>
    right
    rw [Option.getD_some, coreFields_of_coreInstr h, BitVec.ofNat_toNat, BitVec.setWidth_eq]

/-- R276: a word whose opcode is listed is the word of what it decodes to. -/
theorem encode_decodeCore (h : (coreFields (decodeCore x w)).isSome = true) : encode (decodeCore x w) = some w := by
  rcases coreFields_decodeCore x w with hn | hs
  · rw [hn] at h
    exact absurd h Bool.false_ne_true
  · rw [encode_of_coreFields hs, wordOf_fields]

/-- The word of a command of a thread decodes to the command. -/
theorem decodeCore_of_encode (h : encode c = some w) : ∃ opc x i, coreFields c = some (opc, x, i) ∧ decodeCore x w = c := by
  obtain ⟨⟨opc, x, i⟩, hf, rfl⟩ := Option.map_eq_some_iff.mp h
  exact ⟨opc, x, i, hf, decodeCore_wordOf hf⟩

/-- Settles O59: a word's fields and its opcode are read back from it; two instructions of one thread with one word are what it decodes
to. -/
theorem decodeAndEncodeAgree : Obligations.DecodeAndEncodeAgree := by
  refine ⟨⟨fun c opc x i h => ⟨_, encode_of_coreFields h, decodeCore_wordOf h⟩, fun x w => encode_decodeCore, ?unique⟩, ?words⟩
  case unique =>
    intro c d w hc hd hx
    obtain ⟨opc, x, i, hfc, rfl⟩ := decodeCore_of_encode hc
    obtain ⟨opc', y, j, hfd, rfl⟩ := decodeCore_of_encode hd
    rw [hfc, hfd] at hx
    obtain rfl : x = y := Option.some.inj hx
    rfl
  case words => exact fun x => ⟨rfl, rfl, rfl, rfl, rfl, rfl⟩

end Sys2Proof
end

section
/-! Scalar and control instructions (R277, R280–R282): what the scalar unit's functions give in numbers, and the instructions of the forms
that it has. -/

namespace Sys2Proof.Machine

/-! ### Words as numbers (R280, R281) -/

theorem fldN_zero {n : Nat} (v : BitVec n) (w : Nat) : fldN v 0 w = v.toNat % 2 ^ w := by
  rw [fldN, Nat.pow_zero, Nat.div_one]

variable (a b : Word)

theorem sub_eq_ofInt : a - b = BitVec.ofInt 64 (a.toInt - b.toInt) := by
  rw [Int.sub_eq_add_neg, BitVec.ofInt_add, BitVec.ofInt_neg, BitVec.ofInt_toInt, BitVec.ofInt_toInt, BitVec.sub_eq_add_neg]

theorem mul_eq_ofNat : a * b = BitVec.ofNat 64 (a.toNat * b.toNat) := by
  rw [BitVec.ofNat_mul, BitVec.ofNat_toNat, BitVec.ofNat_toNat, BitVec.setWidth_eq, BitVec.setWidth_eq]

theorem shlW_eq : shlW a b = BitVec.ofNat 64 (a.toNat * 2 ^ fldN b 0 6) := by
  apply BitVec.eq_of_toNat_eq
  rw [shlW, BitVec.toNat_shiftLeft, Nat.shiftLeft_eq, BitVec.toNat_ofNat, fldN_zero]
  rfl

theorem shrW_eq : shrW a b = BitVec.ofNat 64 (a.toNat / 2 ^ fldN b 0 6) := by
  have hlt : a.toNat / 2 ^ fldN b 0 6 < 2 ^ 64 := (Nat.div_le_self _ _).trans_lt a.isLt
  apply BitVec.eq_of_toNat_eq
  rw [shrW, BitVec.toNat_ushiftRight, Nat.shiftRight_eq_div_pow, BitVec.toNat_ofNat, Nat.mod_eq_of_lt hlt, fldN_zero]
  rfl

theorem sraW_eq : sraW a b = BitVec.ofInt 64 (a.toInt / 2 ^ fldN b 0 6) := by
  have h : (sraW a b).toInt = a.toInt / 2 ^ fldN b 0 6 := by
    rw [sraW, BitVec.toInt_sshiftRight, Int.shiftRight_eq_div_pow, fldN_zero]
    rfl
  rw [← h, BitVec.ofInt_toInt]

theorem flag_sltW : flag (sltW a b) = if a.toInt < b.toInt then 1 else 0 := by
  simp [flag, sltW, BitVec.slt]

theorem flag_ultW : flag (ultW a b) = if a.toNat < b.toNat then 1 else 0 := by
  simp [flag, ultW, BitVec.ult]

theorem high_ofInt (z : Int) : (BitVec.ofInt 128 z).extractLsb' 64 64 = BitVec.ofInt 64 (z / 2 ^ 64) := by
  apply BitVec.eq_of_toNat_eq
  rw [BitVec.extractLsb'_toNat, BitVec.toNat_ofInt, BitVec.toNat_ofInt, Nat.shiftRight_eq_div_pow]
  omega

theorem high_ofNat (n : Nat) : (BitVec.ofNat 128 n).extractLsb' 64 64 = BitVec.ofNat 64 (n / 2 ^ 64) := by
  apply BitVec.eq_of_toNat_eq
  rw [BitVec.extractLsb'_toNat, BitVec.toNat_ofNat, BitVec.toNat_ofNat, Nat.shiftRight_eq_div_pow]
  omega

/-- R280: the high half of the product. -/
theorem mulHigh_signed : mulHigh true a b = BitVec.ofInt 64 (a.toInt * b.toInt / 2 ^ 64) := by
  rw [← high_ofInt, BitVec.ofInt_mul]
  rfl

theorem mulHigh_unsigned : mulHigh false a b = BitVec.ofNat 64 (a.toNat * b.toNat / 2 ^ 64) := by
  rw [← high_ofNat, BitVec.ofNat_mul, BitVec.ofNat_toNat, BitVec.ofNat_toNat]
  rfl

theorem lihW_eq (imm : BitVec 32) : lihW imm a = BitVec.ofNat 64 (imm.toNat * 2 ^ 32 + fldN a 0 32) := by
  apply BitVec.eq_of_toNat_eq
  have hlow : a.toNat % 2 ^ 32 < 2 ^ 32 := Nat.mod_lt _ (by decide)
  have hlt : imm.toNat * 2 ^ 32 + a.toNat % 2 ^ 32 < 2 ^ 64 := by omega
  rw [lihW, BitVec.toNat_append, BitVec.extractLsb'_toNat, Nat.shiftRight_zero, fldN_zero, ← Nat.shiftLeft_add_eq_or_of_lt hlow,
    Nat.shiftLeft_eq, BitVec.toNat_ofNat, Nat.mod_eq_of_lt hlt]

variable (i : Insn)

/-- R281: the low bits of an immediate are those of its field. -/
theorem fldN_immOf : fldN (immOf i) 0 6 = fldN i.upper 0 6 := by
  rw [fldN_zero, fldN_zero, immOf, BitVec.toNat_signExtend, BitVec.toNat_setWidth]
  split <;> omega

/-- R281, R282: a sum with an immediate wraps. -/
theorem add_immOf : a + immOf i = BitVec.ofInt 64 (a.toNat + i.upper.toInt) := by
  rw [BitVec.ofInt_add, BitVec.ofInt_natCast, BitVec.ofNat_toNat, BitVec.setWidth_eq]
  rfl


end Sys2Proof.Machine
end

section
/-! Scalar and control instructions (R277, R280–R282): the forms of the scalar unit's instructions, and where branches and jumps lead. -/

namespace Sys2Proof.Machine

variable {x : Tid} {i : Insn} {s : State} {c : Instr}

theorem Dev.modThr_congr {d : Dev} {f g : Thread → Thread} (h : f (d.thr x) = g (d.thr x)) : d.modThr x f = d.modThr x g := by
  rw [Dev.modThr, h, Dev.modThr]

/-! ### Instructions whose fields pass their check (R278) -/

theorem Dev.checked_ok {d : Dev} {ok : Bool} (h : ok = true) (sem : Dev → Dev) : d.checked x ok sem = sem d := if_pos h

/-- An instruction that issues, and whose fields pass their check. -/
theorem answers_checked {reads : List (BitVec 5)} {ok : Bool} {sem : Dev → Dev} {d : Dev}
    (he : exec c s = act c (fun s => s.issue x reads fun s => s.checked x ok sem) s) (hc : c.wf = x.ok) (h : s.dev.issues x reads = true)
    (hok : ok = true) (hd : sem (s.dev.issued x) = d) : answers c s d :=
  answers_issue he hc h ((Dev.checked_ok hok sem).trans hd)

theorem gives2_alu2 {fn : Nat} {f g : Word → Word → Word} (he : exec c s = act c (Dev.alu2 x i fn f) s) (hc : c.wf = x.ok)
    (h : s.dev.issues x [i.a, i.b] = true) (hfmt : rFmt i true true true false fn = true) (hfg : ∀ a b, f a b = g a b) :
    gives2 x i s c g := by
  obtain rfl : f = g := funext₂ hfg
  exact answers_checked he hc h hfmt rfl

theorem gives1_aluI {f : Word → Word → Word} {g : Word → Word} (he : exec c s = act c (Dev.aluI x i f) s) (hc : c.wf = x.ok)
    (h : s.dev.issues x [i.a] = true) (hfmt : iFmt i true true = true) (hfg : ∀ a, f a (immOf i) = g a) : gives1 x i s c g := by
  obtain rfl : (fun a => f a (immOf i)) = g := funext hfg
  exact answers_checked he hc h hfmt rfl

/-- Settles O1: each instruction by its function of the scalar unit, in numbers. -/
theorem scalarArithmeticWraps : Obligations.ScalarArithmeticWraps := by
  refine ⟨fun x i s h hfmt => ?two, fun x i s => ⟨fun h hfmt => ?mulh, fun h hfmt => ?sel⟩, fun x i s h hfmt => ?imm⟩
  case two =>
    have gives {c : Instr} {f g : Word → Word → Word} (he : exec c s = act c (Dev.alu2 x i 0 f) s) (hc : c.wf = x.ok)
        (hfg : ∀ a b, f a b = g a b) : gives2 x i s c g := gives2_alu2 he hc h hfmt hfg
    exact ⟨gives (exec_add x i s) rfl BitVec.add_def, gives (exec_sub x i s) rfl sub_eq_ofInt, gives (exec_mul x i s) rfl mul_eq_ofNat,
      gives (exec_and x i s) rfl fun _ _ => rfl, gives (exec_or x i s) rfl fun _ _ => rfl, gives (exec_xor x i s) rfl fun _ _ => rfl,
      gives (exec_shl x i s) rfl shlW_eq, gives (exec_shr x i s) rfl shrW_eq, gives (exec_sra x i s) rfl sraW_eq,
      gives (exec_slt x i s) rfl flag_sltW, gives (exec_sltu x i s) rfl flag_ultW⟩
  case mulh =>
    refine gives2_alu2 (exec_mulh x i s) rfl h hfmt (g := fun a b =>
      if i.fn = 0 then BitVec.ofInt 64 (a.toInt * b.toInt / 2 ^ 64) else BitVec.ofNat 64 (a.toNat * b.toNat / 2 ^ 64)) fun a b => ?_
    by_cases hfn : i.fn = 0
    · rw [beq_iff_eq.mpr hfn, mulHigh_signed, if_pos hfn]
    · rw [beq_eq_false_iff_ne.mpr hfn, mulHigh_unsigned, if_neg hfn]
  case sel => exact answers_checked (exec_sel x i s) rfl h hfmt rfl
  case imm =>
    have gives {c : Instr} {f : Word → Word → Word} {g : Word → Word} (he : exec c s = act c (Dev.aluI x i f) s) (hc : c.wf = x.ok)
        (hfg : ∀ a, f a (immOf i) = g a) : gives1 x i s c g := gives1_aluI he hc h hfmt hfg
    exact ⟨gives (exec_addi x i s) rfl fun _ => rfl, gives (exec_andi x i s) rfl fun _ => rfl, gives (exec_ori x i s) rfl fun _ => rfl,
      gives (exec_xori x i s) rfl fun _ => rfl,
      gives (exec_shli x i s) rfl fun a => by rw [shlW_eq, fldN_immOf],
      gives (exec_shri x i s) rfl fun a => by rw [shrW_eq, fldN_immOf],
      gives (exec_srai x i s) rfl fun a => by rw [sraW_eq, fldN_immOf],
      gives (exec_lih x i s) rfl fun a => lihW_eq a i.upper⟩

/-! ### Branches and jumps (R277, R280, R282) -/

/-- R282: the thread goes on at the address `z`, which is a 50-bit address or not. -/
def Thread.goesTo (t : Thread) (z : Int) : Thread :=
  { t with st := .ready, pc := BitVec.ofInt 50 z, jumpFrom := some t.pc, line := .cached, pcOut := decide (z < 0 ∨ 2 ^ 50 ≤ z) }

/-- R282: what lies below zero wraps to no 50-bit address. -/
theorem Thread.goto_ofInt (t : Thread) {z : Int} (hlo : -2 ^ 50 ≤ z) (hhi : z < 2 ^ 63) : t.goto (BitVec.ofInt 64 z) = t.goesTo z := by
  have hpc : (BitVec.ofInt 64 z).setWidth 50 = BitVec.ofInt 50 z := by
    apply BitVec.eq_of_toNat_eq
    rw [BitVec.toNat_setWidth, BitVec.toNat_ofInt, BitVec.toNat_ofInt]
    omega
  have hout : 2 ^ 50 ≤ (BitVec.ofInt 64 z).toNat ↔ z < 0 ∨ 2 ^ 50 ≤ z := by
    rw [BitVec.toNat_ofInt]
    omega
  rw [Thread.goto, Thread.goesTo, hpc, decide_eq_decide.mpr hout]

/-- R277: OFF from a program counter leads to no address that wraps into the 50 bits. -/
theorem Thread.goto_offset (t : Thread) (i : Insn) : t.goto (t.pc.setWidth 64 + immOf i) = t.goesTo (t.pc.toNat + i.upper.toInt) := by
  have hpc : t.pc.toNat < 2 ^ 50 := t.pc.isLt
  have hlo : -2 ^ 31 ≤ i.upper.toInt := BitVec.le_toInt i.upper
  have hhi : i.upper.toInt < 2 ^ 31 := BitVec.toInt_lt
  rw [add_immOf, BitVec.toNat_setWidth, Nat.mod_eq_of_lt (by omega)]
  exact t.goto_ofInt (by omega) (by omega)

theorem branches_branch {f g : Word → Word → Bool} (he : exec c s = act c (Dev.branch x i f) s) (hc : c.wf = x.ok)
    (h : s.dev.issues x [i.a, i.b] = true) (hfmt : (i.d == 0 && i.c == 0 && i.fn == 0 && i.upper.toNat % 8 == 0) = true)
    (hfg : ∀ a b, f a b = g a b) : branches x i s c g := by
  obtain rfl : f = g := funext₂ hfg
  refine answers_checked he hc h hfmt ?_
  simp only [Thread.goto_offset]
  rfl

theorem not_sltW (a b : Word) : (!sltW a b) = decide (b.toInt ≤ a.toInt) := by
  rw [sltW, BitVec.slt, ← decide_not]
  exact decide_eq_decide.mpr not_lt

theorem not_ultW (a b : Word) : (!ultW a b) = decide (b.toNat ≤ a.toNat) := by
  rw [ultW, BitVec.ult, ← decide_not]
  exact decide_eq_decide.mpr not_lt

/-- R282: a jump to a multiple of 8. -/
theorem jumps_jump {reads : List (BitVec 5)} {ok : Bool} {target : Word} {dest : Dev → Word}
    (he : exec c s = act c (fun s => s.issue x reads fun s => s.jump x i ok (dest s)) s) (hc : c.wf = x.ok)
    (h : s.dev.issues x reads = true) (hok : ok = true) (hto : dest (s.dev.issued x) = target) (hal : target.toNat % 8 = 0) :
    jumps x i s c target := by
  have link (p : BitVec 50) : p.setWidth 64 + 8 = BitVec.ofNat 64 (p.toNat + 8) := by
    rw [BitVec.ofNat_add, BitVec.ofNat_toNat]
    rfl
  refine answers_issue he hc h ?_
  rw [Dev.jump, hto, if_neg (not_not_intro hal), Dev.checked_ok hok]
  refine Dev.modThr_congr ?_
  rw [link, Thread.goto, Thread.wg_pc]

/-- Settles O2: a branch by its condition, a jump by its target as a wrapped sum. -/
theorem branchAndJumpResults : Obligations.BranchAndJumpResults := by
  refine ⟨fun x i s h hd hc hfn hoff => ?branch, fun x i s target hal => ⟨fun h hfmt ht => ?jal, fun h hfmt ht => ?jalr⟩⟩
  case branch =>
    have holds {c : Instr} {f g : Word → Word → Bool} (he : exec c s = act c (Dev.branch x i f) s) (hw : c.wf = x.ok)
        (hfg : ∀ a b, f a b = g a b) : branches x i s c g := branches_branch he hw h (by simp [hd, hc, hfn, hoff]) hfg
    exact ⟨holds (exec_beq x i s) rfl fun _ _ => beq_eq_decide .., holds (exec_bne x i s) rfl fun a b => by simp [bne, beq_eq_decide],
      holds (exec_blt x i s) rfl fun _ _ => rfl, holds (exec_bge x i s) rfl not_sltW,
      holds (exec_bltu x i s) rfl fun _ _ => rfl, holds (exec_bgeu x i s) rfl not_ultW⟩
  case jal =>
    refine jumps_jump (dest := fun s => (s.thr x).pc.setWidth 64 + immOf i) (exec_jal x i s) rfl h hfmt ?_ hal
    rw [← ht, Dev.issued_thr, add_immOf, BitVec.toNat_setWidth, Nat.mod_eq_of_lt (by omega)]
  case jalr =>
    refine jumps_jump (dest := fun s => (s.thr x).rg i.a + immOf i) (exec_jalr x i s) rfl h hfmt ?_ hal
    rw [← ht, Dev.issued_thr, add_immOf]

end Sys2Proof.Machine
end

section
/-! SADD, SWAIT, FENCE and QPOST (R300, R301, R304–R306): what the port keeps of a thread and of its entries, and the instructions. -/

namespace Sys2Proof.Machine

variable {x : Tid} {i : Insn} {s : Dev}

/-! ### Checks that pass -/

theorem Dev.unless_none (sem : Dev → Dev) {fault : Option Code} (h : fault = none) : s.unless x fault sem = sem s := by
  rw [h]
  rfl

/-! ### Port entries (R160) -/

@[simp] theorem Dev.thr_setPent (s : Dev) (c e : Nat) (v : Option PEntry) (y : Tid) : (s.setPent c e v).thr y = s.thr y :=
  s.thr_modCore (by intro k; rfl) y

theorem Dev.thr_alloc (s : Dev) (y : Tid) (e : Nat) (kind : EntryKind) (p : Packet) (remote accepted : Bool) :
    (s.alloc x e kind p remote accepted).thr y = s.thr y := by
  unfold Dev.alloc
  exact (Dev.thr_modCore _ (by intro k; rfl) y).trans (s.thr_setPent x.core e _ y)

theorem Dev.pent_alloc (s : Dev) (e : Nat) (kind : EntryKind) (p : Packet) (remote accepted : Bool) :
    (s.alloc x e kind p remote accepted).pent x.core e ≠ none := by
  simp [Dev.alloc, Dev.pent, Dev.setPent]

@[simp] theorem Dev.pent_modThr (s : Dev) (f : Thread → Thread) (c e : Nat) : (s.modThr x f).pent c e = s.pent c e := by
  simp [Dev.pent]

/-! ### SADD (R300) -/

/-- R300: the operation that a SADD posts. -/
def Dev.saddPkt (s : Dev) (x : Tid) (i : Insn) : Packet :=
  let ga := (s.thr x).rg i.a
  { (if i.fn.getLsbD 2 then s.localPkt x .syncAdd ga 8 else s.thrPkt x .syncAdd 3 ga 8) with
    op1 := (s.thr x).rg i.b, op2 := BitVec.ofNat 64 (bit (i.fn.getLsbD 1)) }

theorem ofNat_bit (b : Bool) : BitVec.ofNat 64 (bit b) = if b then 1 else 0 := by cases b <;> rfl

theorem semSadd_eq (hfmt : rFmt i false true true false 7 = true) (hset : i.fn.getLsbD 1 = true → i.fn.getLsbD 2 = true)
    (haddr : (if i.fn.getLsbD 2 then s.addrFault x ((s.thr x).rg i.a) 8 true false else hgaFault ((s.thr x).rg i.a) 8) = none) :
    semSadd x i s =
      if i.fn.getLsbD 0 && s.outstanding x false then
        s.modThr x fun t => { t with st := .parkedAccess, wait := .rel (s.saddPkt x i) (!i.fn.getLsbD 2), stash := none }
      else s.postOp x 0x60 i (s.saddPkt x i) (!i.fn.getLsbD 2) := by
  have hok : (rFmt i false true true false 7 && (!i.fn.getLsbD 1 || i.fn.getLsbD 2)) = true := by
    cases h : i.fn.getLsbD 1
    · rw [hfmt]; rfl
    · rw [hfmt, hset h]; rfl
  simp only [semSadd, Dev.checked_ok hok]
  exact Dev.unless_none _ haddr

/-! ### SWAIT (R301) -/

theorem semSwait_eq {k : Nat} (hfmt : rFmt i true true true true 0 = true) (hgc : fldN ((s.thr x).rg i.c) 16 48 = 0)
    (haddr : s.addrFault x ((s.thr x).rg i.a) 8 true false = none) (hk : place ((s.thr x).rg i.a).toNat = .ctr k) :
    semSwait x i s =
      if reached (s.ctr k) ((s.thr x).rg i.b) then s.upd x fun t => t.wg i.d 0
      else s.modThr x fun t =>
        { t with st := .parkedSync, wait := .sync k ((s.thr x).rg i.b) i.d (fldN ((s.thr x).rg i.c) 0 16), stash := none } := by
  have hok : (rFmt i true true true true 0 && fldN ((s.thr x).rg i.c) 16 48 == 0) = true := by rw [hfmt, hgc]; rfl
  simp only [semSwait, Dev.checked_ok hok]
  refine (Dev.unless_none _ haddr).trans ?_
  simp only [hk]

/-! ### QPOST (R306) -/

theorem qpostFault_none {a : Word} {off : Nat} (hal : a.toNat % 64 = 0) (hown : ownStore x a = some off) (htop : off < storeTop) :
    qpostFault x a = none := by
  simp [qpostFault, hal, hown, htop]

theorem Dev.qpostEntry_good {c off : Nat} (h : s.storeBadAt c off 64 = false) :
    s.qpostEntry c off = BitVec.ofNat 512 (ofBytes (getBytes (s.core c).store off 64)) := by
  simp [Dev.qpostEntry, h, Dev.storeRead]

/-- R172, R306: the device after a QPOST has read its entry. -/
def Dev.qpostRead (s : Dev) (c off : Nat) : Dev :=
  (s.storeTouch c off 64).when (s.storeBadAt c off 64) fun s => { s with free := s.free + 64 }

@[simp] theorem Dev.thr_qpostRead (s : Dev) (c off : Nat) (y : Tid) : (s.qpostRead c off).thr y = s.thr y :=
  (Dev.when_keeps (fun s => s.thr y) _ _ rfl).trans (s.thr_storeTouch c off 64 y)

/-- R306: a QPOST whose checks pass and for which there is an entry waits for its status. -/
theorem semQpost_takes {off e : Nat} (hfmt : rFmt i true true true false 0 = true) (hal : ((s.thr x).rg i.b).toNat % 64 = 0)
    (hown : ownStore x ((s.thr x).rg i.b) = some off) (htop : off < storeTop) (hfree : s.freeEntry x.core x.thr (s.thr x).legOf = some e) :
    (semQpost x i s).pent x.core e ≠ none ∧
      (semQpost x i s).thr x = { s.thr x with
        st := .parkedAccess, stash := none, wait := .qpost (((s.thr x).rg i.a).toNat % 4096) (s.qpostEntry x.core off) i.d } := by
  have heq : semQpost x i s =
      ((s.qpostRead x.core off).alloc x e .qpost
        { (s.qpostRead x.core off).localPkt x .store (BitVec.ofNat 64 (((s.thr x).rg i.a).toNat % 4096)) 64 with
          data := toBytes 64 (s.qpostEntry x.core off).toNat } false true).modThr x fun t =>
        { t with st := .parkedAccess, stash := none, wait := .qpost (((s.thr x).rg i.a).toNat % 4096) (s.qpostEntry x.core off) i.d } := by
    refine ((Dev.checked_ok hfmt _).trans (Dev.unless_none _ (qpostFault_none hal hown htop))).trans ?_
    simp only [hfree, hown, Option.getD_some, fldN_zero]
    rfl
  rw [heq]
  refine ⟨?_, ?_⟩
  · rw [Dev.pent_modThr]
    exact Dev.pent_alloc _ _ _ _ _ _
  · rw [Dev.thr_modThr, Dev.thr_alloc, Dev.thr_qpostRead]

@[simp] theorem Dev.issued_qpostEntry (s : Dev) (y : Tid) (c off : Nat) : (s.issued y).qpostEntry c off = s.qpostEntry c off :=
  Dev.issued_keeps (fun s => s.qpostEntry c off) (fun _ _ => rfl) (fun _ _ => rfl) s y

theorem answers_qpost_takes {s : State} {off e : Nat} (h : s.dev.issues x [i.a, i.b] = true) (hfmt : rFmt i true true true false 0 = true)
    (hal : ((s.dev.thr x).rg i.b).toNat % 64 = 0) (hown : ownStore x ((s.dev.thr x).rg i.b) = some off) (htop : off < storeTop)
    (hfree : s.dev.freeEntry x.core x.thr (s.dev.thr x).legOf = some e) :
    ∃ d : Dev, answers (.qpost x i) s d ∧ d.pent x.core e ≠ none ∧ d.thr x = { s.dev.thr x with
      st := .parkedAccess, stash := none, wait := .qpost (((s.dev.thr x).rg i.a).toNat % 4096) (s.dev.qpostEntry x.core off) i.d } := by
  refine ⟨_, answers_issue (exec_qpost x i s) rfl h rfl, ?_⟩
  have takes := semQpost_takes (s := s.dev.issued x) (x := x) (i := i) (off := off) (e := e)
  simp only [Dev.issued_thr, Dev.issued_freeEntry, Dev.issued_qpostEntry] at takes
  exact takes hfmt hal hown htop hfree

/-! ### The instructions -/

/-- Settles O8: SADD by whether it waits, SWAIT by whether its counter has reached the target, FENCE by what is outstanding, QPOST by its
port entry and its status. -/
theorem syncFenceAndQueueInstructions : Obligations.SyncFenceAndQueueInstructions := by
  refine ⟨?sadd, ?swait, ?fence⟩
  case sadd =>
    intro x i s h hfmt d t ga p₀ p hset haddr
    have hpkt : d.saddPkt x i = p := by simp [Dev.saddPkt, ofNat_bit, d, p, p₀, ga, t]
    have heq := hpkt ▸ semSadd_eq (s := d) hfmt hset (by simpa [d, t, ga] using haddr)
    have hout : d.outstanding x false = s.dev.outstanding x false := Dev.issued_outstanding s.dev x x false
    refine ⟨fun hgo => answers_issue (exec_sadd x i s) rfl h ?_, fun hrel hwait => answers_issue (exec_sadd x i s) rfl h ?_⟩
    · exact heq.trans (if_neg (by rwa [hout, Bool.and_eq_true, not_and_or, Bool.not_eq_true, Bool.not_eq_true]))
    · exact heq.trans (if_pos (by simp [hout, hrel, hwait]))
  case swait =>
    intro x i s k t
    refine ⟨fun h hfmt hgc haddr hk => ?issue, fun target gd us hl hx hst hwait hus => ?timeout⟩
    case issue =>
      have heq := semSwait_eq (s := s.dev.issued x) (k := k) hfmt (by simpa using hgc) (by simpa using haddr) (by simpa using hk)
      simp only [Dev.issued_thr, Dev.issued_ctr] at heq
      exact ⟨fun hr => answers_issue (exec_swait x i s) rfl h (heq.trans (if_pos hr)),
        fun hr => answers_issue (exec_swait x i s) rfl h (heq.trans (if_neg (Bool.eq_false_iff.mp hr)))⟩
    case timeout =>
      refine answers_act (exec_swaitTimeout x s) hx hl ?_
      simp only [show (s.dev.thr x).st = .parkedSync from hst, show (s.dev.thr x).wait = .sync k target gd us from hwait]
      exact if_neg hus
  case fence =>
    intro x i s t
    refine ⟨fun h hfmt => ?issue, fun e off h hfmt hal hown htop hgood hfree => ?good, fun e off h hfmt hal hown htop hfree => ?any,
      fun q ent gd e p hl hx hwait hfind horph => ?status⟩
    case issue =>
      have hout : (s.dev.issued x).outstanding x (i.fn.getLsbD 0) = s.dev.outstanding x (i.fn.getLsbD 0) := Dev.issued_outstanding _ _ _ _
      have answered {d : Dev} (hd : _ = d) : answers (.fence x i) s d := answers_checked (exec_fence x i s) rfl h hfmt hd
      refine ⟨fun hnone => answered ?_, fun hsome => answered (if_pos (hout.trans hsome))⟩
      refine (if_neg (by rw [hout, hnone]; exact Bool.false_ne_true)).trans ?_
      rw [Dev.issued_devNum]
      rfl
    case good =>
      obtain ⟨d, ha, hent, hthr⟩ := answers_qpost_takes h hfmt hal hown htop hfree
      exact ⟨d, ha, by rw [hthr, Dev.qpostEntry_good hgood], hent⟩
    case any =>
      obtain ⟨d, ha, hent, hthr⟩ := answers_qpost_takes h hfmt hal hown htop hfree
      exact ⟨d, _, ha, hent, hthr⟩
    case status =>
      have placed (d : Dev) (hd : d = s.dev.placeEntry x q ent) :
          answers (.qpostStatus x) s ((d.upd x fun t => t.wg gd ((s.dev.qpostCode x q).setWidth 64)).freeEnt x.core e) := by
        refine answers_act (exec_qpostStatus x s) hx hl ?_
        simp only [hfind, horph, show (s.dev.thr x).wait = .qpost q ent gd from hwait]
        rw [hd]
        rfl
      refine ⟨fun hok => ?_, fun hbad => ?_⟩
      · exact hok ▸ placed (s.dev.postEntry q ent) (by simp [Dev.placeEntry, hok])
      · exact placed s.dev (by rw [Dev.placeEntry, beq_false_of_ne hbad, Dev.when_false])

end Sys2Proof.Machine
end

section
/-! Every command (R690, R692; log entry 4): where a command has no effect, in each of the three forms of its outcome. -/

namespace Sys2Proof.Machine

variable {c : Instr} {ok : Bool}

/-- R690, R692: the outcome of `c` is the state itself where its operands are ill-formed, or where it needs a package that runs and
has none. -/
def stillWhereIdle (c : Instr) (s : State) (o : Host.Outcome State Fault Refusal) : Prop :=
  (c.wf = false → o = .next s) ∧ (actsWithoutPower c = false → s.dev.live = false → o = .next s)

theorem stillWhereIdle_actIf (f : Dev → Dev) (s : State) (hc : c.wf = ok) : stillWhereIdle c s (actIf ok f s) :=
  ⟨fun h => actIf_off (by rw [← hc, h, Bool.false_and]), fun _ h => actIf_off (by rw [h, Bool.and_false])⟩

theorem stillWhereIdle_act (c : Instr) (f : Dev → Dev) (s : State) : stillWhereIdle c s (act c f s) := stillWhereIdle_actIf f s rfl

theorem stillWhereIdle_actAlways (f : Dev → Dev) (s : State) (hc : c.wf = ok) (hp : actsWithoutPower c = true) :
    stillWhereIdle c s (actAlways ok f s) := by
  refine ⟨fun h => ?_, fun h => absurd hp (Bool.eq_false_iff.mp h)⟩
  rw [actAlways, ← hc, h, if_neg Bool.false_ne_true]

/-- The first group acts at all times; that of the second checks its operands by name, as `exec` unfolds to it. -/
theorem exec_stillWhereIdle (c : Instr) (s : State) : stillWhereIdle c s (exec c s) := by
  unfold exec
  cases c
  case powerGood | perstAssert | perstDeassert | supvN | powerRemove | readHb | readBoot | readTemp | setOffset | readCsr |
    jtagInstruction =>
    exact stillWhereIdle_actAlways _ s rfl rfl
  case coreResetDone | dieHeartbeat | stackMgmtWdog | engMgmtWdog | computeDieReset | stackReset | deviceReset | computeDieResetDone
    | stackResetDone | linkResetDone | dieResetEscalate | stackResetEscalate | deviceResetEscalate | hubWdog | supvHbTick |
    idleControlFlit | modeChange | modeChangeDone | vrNoAck | pstepLower | pwrModeForced | pwrForceEnd | pwrFastLimit | dipWarn |
    dipReset | dipFloorRelease | pwrStackLost | thermSensor | tstepLower | thermModeForced | thermForceEnd | clkDeltaT |
    housekeepingRound | thermalShutdown | latTol | coreP1Entry | latencyStateEntry | latencyStateExit | clkRefLost | clkRefReturn |
    evcSel | snapArm | snapNow | pcieLinkDown | pcieLinkUp | qProgressWdog | arrayResetDone =>
    exact stillWhereIdle_actIf _ s rfl
  all_goals exact stillWhereIdle_act _ _ s

/-- Settles O56: a command goes on with the same queue whatever its form, and stands still where it is idle. -/
theorem everyCommandAnswers : Obligations.EveryCommandAnswers := by
  intro c s
  obtain ⟨t, answered, queue, -⟩ := exec_goesOnSettled c s
  exact ⟨⟨t, answered, queue⟩, exec_stillWhereIdle c s⟩

end Sys2Proof.Machine
end

section
/-! The interleave of HBM addresses (R326, R327): the channel list of a set names no channel twice, so that the granule of an address
is known from its channel and its offset. -/

namespace Sys2Proof.Machine

/-- R326: no channel stands twice in the list of a set. -/
theorem Dev.chanList_nodup (d : Dev) (i : Image) (e : ISet) : (d.chanList i e).Nodup := by
  have nodup : (if e.spread then List.range 32 else span (8 * e.die) 8).Nodup := by
    split
    · exact List.nodup_range
    · exact List.nodup_range.map fun a b h => by simpa using h
  refine List.Nodup.filter _ (List.nodup_flatMap.mpr ⟨fun p _ => nodup.map fun a b h => (Prod.mk.inj h).1, ?_⟩)
  refine List.nodup_range.imp fun {p q} hpq kp hp hq => hpq ?_
  obtain ⟨_, -, rfl⟩ := List.mem_map.mp hp
  obtain ⟨_, -, h⟩ := List.mem_map.mp hq
  exact (Prod.mk.inj h).2.symm

/-- R327: an address of a set lies in the channel at its granule's place in the list, in the granule's row of the band. -/
theorem Dev.chanOf_some {d : Dev} {a k p off : Nat} {e : ISet × Nat} (he : d.setAt a = some e) (h : d.chanOf a = some (k, p, off)) :
    ∃ i, d.img.loaded = some i ∧ (d.chanList i e.1)[(a - e.1.base) / 512 % (d.chanList i e.1).length]? = some (k, p) ∧
      off = (d.img.bands.getD e.2 0 + (a - e.1.base) / 512 / (d.chanList i e.1).length) * 512 + a % 512 := by
  obtain ⟨i, hi, h⟩ := Option.bind_eq_some_iff.mp h
  simp only [he, Option.bind_some] at h
  refine ⟨i, hi, ?_⟩
  split at h
  · cases h
  · next hc =>
    obtain ⟨⟩ := h
    exact ⟨hc, rfl⟩

theorem Dev.setAt_base_le {d : Dev} {a : Nat} {e : ISet × Nat} (h : d.setAt a = some e) : e.1.base ≤ a := by
  obtain ⟨i, -, h⟩ := Option.bind_eq_some_iff.mp h
  have := List.find?_some h
  simp only [Bool.and_eq_true, decide_eq_true_eq] at this
  exact this.1

/-- Settles O23: equal channels give equal places in the list, equal offsets equal rows and equal bytes of the granule. -/
theorem interleaveIsOneToOne : Obligations.InterleaveIsOneToOne := by
  rintro d a b e ⟨k, p, off⟩ ha hb hta htb
  obtain ⟨i, hi, hca, hoa⟩ := Dev.chanOf_some ha hta
  obtain ⟨j, hj, hcb, hob⟩ := Dev.chanOf_some hb htb
  obtain rfl : i = j := Option.some.inj (hi.symm.trans hj)
  obtain ⟨inList, -⟩ := List.getElem?_eq_some_iff.mp hca
  have place := (List.getElem?_inj inList (d.chanList_nodup i e.1)).mp (hca.trans hcb.symm)
  have row : (a - e.1.base) / 512 / (d.chanList i e.1).length = (b - e.1.base) / 512 / (d.chanList i e.1).length := by omega
  have granule : (a - e.1.base) / 512 = (b - e.1.base) / 512 := by
    rw [← Nat.div_add_mod ((a - e.1.base) / 512), row, place, Nat.div_add_mod]
  have := Dev.setAt_base_le ha
  have := Dev.setAt_base_le hb
  omega

end Sys2Proof.Machine
end

section
/-! Correction tables and the steep level (R347, R653, R654): a value between two points of a table, and the level at a temperature. -/

namespace Sys2Proof.Machine

/-! ### Tables (R654) -/

/-- R654: the part of the way from `a` to `b` that `r` of 100 steps make, rounded down, stays between them. -/
theorem interpolated_between (a b : Int) {r : Nat} (hr : r < 100) :
    (a ≤ b → a ≤ a + (b - a) * (r : Int) / 100 ∧ a + (b - a) * (r : Int) / 100 ≤ b) ∧
      (b ≤ a → b ≤ a + (b - a) * (r : Int) / 100 ∧ a + (b - a) * (r : Int) / 100 ≤ a) := by
  have h0 : (0 : Int) ≤ r := Int.natCast_nonneg r
  have h1 : (r : Int) ≤ 100 := by omega
  refine ⟨fun h => ?_, fun h => ?_⟩
  · have lo := mul_nonneg (sub_nonneg.mpr h) h0
    have hi := mul_le_mul_of_nonneg_left h1 (sub_nonneg.mpr h)
    omega
  · have lo := mul_nonpos_of_nonpos_of_nonneg (sub_nonpos.mpr h) h0
    have hi := mul_le_mul_of_nonpos_left h1 (sub_nonpos.mpr h)
    omega

/-- R654: the table `r` steps of 0.1 °C after its point `n`. -/
theorem tableAt_after {l : List Int} (hl : l.length = 17) {n r : Nat} (hn : n < 16) (hr : r < 100) :
    tableAt l (100 * (n : Int) - 100 + r) = l.getD n 0 + (l.getD (n + 1) 0 - l.getD n 0) * (r : Int) / 100 := by
  have hu : (max (-100) (min 1500 (100 * (n : Int) - 100 + r)) + 100).toNat = 100 * n + r := by omega
  have next (a : Int) : l.getD (n + 1) a = l.getD (n + 1) 0 := by
    rw [List.getD_eq_getElem _ _ (by omega), List.getD_eq_getElem _ _ (by omega)]
  have hd : (100 * n + r) / 100 = n := by omega
  have hm : (100 * n + r) % 100 = r := by omega
  rw [tableAt, hu, hd, hm, next]

theorem tableAt_of_le {l : List Int} {t : Int} (ht : t ≤ -100) : tableAt l t = l.getD 0 0 := by
  have hu : (max (-100) (min 1500 t) + 100).toNat = 0 := by omega
  simp [tableAt, hu]

theorem tableAt_of_ge {l : List Int} {t : Int} (ht : 1500 ≤ t) : tableAt l t = l.getD 16 0 := by
  have hu : (max (-100) (min 1500 t) + 100).toNat = 1600 := by omega
  simp [tableAt, hu]

/-- R654: at a point, the table's own value. -/
theorem tableAt_point {l : List Int} (hl : l.length = 17) {n : Nat} (hn : n < 17) :
    tableAt l (100 * (n : Int) - 100) = l.getD n 0 := by
  rcases Nat.lt_succ_iff_lt_or_eq.mp hn with h | rfl
  · have := tableAt_after hl h (r := 0) (by omega)
    simpa using this
  · exact tableAt_of_ge (by omega)

/-- R654: between two points, a value between theirs. -/
theorem tableAt_between {l : List Int} (hl : l.length = 17) {n : Nat} {t : Int} (hn : n < 16) (h0 : 100 * (n : Int) - 100 ≤ t)
    (h1 : t ≤ 100 * (n : Int)) :
    (l.getD n 0 ≤ l.getD (n + 1) 0 → l.getD n 0 ≤ tableAt l t ∧ tableAt l t ≤ l.getD (n + 1) 0) ∧
      (l.getD (n + 1) 0 ≤ l.getD n 0 → l.getD (n + 1) 0 ≤ tableAt l t ∧ tableAt l t ≤ l.getD n 0) := by
  rcases lt_or_eq_of_le h1 with h | rfl
  · obtain ⟨r, hr⟩ := Int.le.dest h0
    rw [← hr, tableAt_after hl hn (by omega)]
    exact interpolated_between _ _ (by omega)
  · have := tableAt_point hl (n := n + 1) (by omega)
    rw [show 100 * ((n + 1 : Nat) : Int) - 100 = 100 * (n : Int) by omega] at this
    rw [this]
    exact ⟨fun h => ⟨h, le_rfl⟩, fun h => ⟨le_rfl, h⟩⟩

/-! ### The steep level (R347) -/

theorem steepOf_bounds (t u : Int) : (t ≤ 850 → steepOf t = 0) ∧ (850 < t → 1 ≤ steepOf t) ∧ (950 ≤ t → steepOf t = 15) ∧
    steepOf t ≤ 15 ∧ (t ≤ u → steepOf t ≤ steepOf u) := by
  unfold steepOf
  refine ⟨?_, ?_, ?_, ?_, ?_⟩ <;> split_ifs <;> omega

end Sys2Proof.Machine
end

section
/-! Temperature (R635–R642): what an excluded sensor, a forced mode and a latched shutdown leave of the device, and the commands. -/

namespace Sys2Proof.Machine

variable {β : Type} {g : Dev → β} (s : Dev)

/-! ### What stays as it is -/

theorem Dev.eng_modEng_ne {e n : Nat} (f : Engine → Engine) (h : n ≠ e) : (s.modEng e f).eng n = s.eng n := by
  simp [Dev.eng, Dev.modEng, h]

theorem Dev.modDieT_congr {n : Nat} {f h : DieTherm → DieTherm} (e : f (s.dieT n) = h (s.dieT n)) : s.modDieT n f = s.modDieT n h := by
  rw [Dev.modDieT, Dev.modDieT, e]

/-- R414: BREAK is a message. -/
theorem Dev.sendBreaks_keeps (ho : ∀ s v, g { s with outbox := v } = g s) (y : Bool) : g (s.sendBreaks y) = g s :=
  Dev.fold_keeps g (fun s _ => ho s _) s _

/-- R389: a withdrawal writes fibres, engines and ports, and sends messages. -/
theorem Dev.withdrawUp_keeps (hf : ∀ s v, g { s with fab := v } = g s) (ho : ∀ s v, g { s with outbox := v } = g s) :
    g s.withdrawUp = g s := by
  refine Dev.fold_keeps g (fun s p => ?_) s _
  refine (hf _ _).trans ((Dev.fold_keeps g (fun s e => ?_) _ _).trans (ho s _))
  exact (hf _ _).trans (Dev.fold_keeps g (fun s f => hf s _) s _)

/-! ### Sensors (R636) -/

/-- R636: the sensor is excluded, whatever it leaves of its unit. -/
theorem Dev.excludeSensor_excluded (u : TUnit) (i : Nat) :
    (s.excludeSensor u i).pow.excluded = s.pow.excluded ++ [(u, i)] := by
  unfold Dev.excludeSensor
  simp only
  split
  · rfl
  · split <;> rfl

/-! ### Forced modes (R638) -/

theorem Dev.dieMode_of_forced {n : Nat} (h : (s.dieT n).forced = true) : s.dieMode n = 2 := by
  rw [Dev.dieMode, h, Bool.or_true, if_pos rfl]

theorem Dev.logE_dieT (code : Code) (unit n : Nat) : (s.logE code unit).dieT n = s.dieT n := rfl
theorem Dev.setDies_dieT (n : Nat) : s.setDies.dieT n = s.dieT n := Dev.setDies_keeps s (g := (·.dieT n)) (fun _ _ => rfl) fun _ _ => rfl
theorem Dev.setDies_modeNow : s.setDies.pow.modeNow = s.pow.modeNow :=
  Dev.setDies_keeps s (g := (·.pow.modeNow)) (fun _ _ => rfl) fun _ _ => rfl

/-! ### Latched shutdown (R641) -/

/-- R641, R642: the hub announces a shutdown, and withdraws. -/
def Dev.announceShutdown (s : Dev) (u : TUnit) : Dev :=
  (((s.sendBreaks false).sendBreaks true).withdrawUp.logE E_THERM_SHUTDOWN (unitNum u)).eventAll 9 E_THERM_SHUTDOWN (unitNum u)

/-- R641: all engines go dark. -/
def Dev.darken (s : Dev) : Dev := s.fold (List.range 14) fun s e => s.modEng e fun g => { g with txOff := true, passing := false }

/-- R641: the clocks stop until the next power-good. -/
def Dev.latchShutdown (s : Dev) : Dev := { s with pow := { s.pow with shutdown := true } }

theorem Dev.latchShutdown_shutdown : s.latchShutdown.pow.shutdown = true := rfl
theorem Dev.latchShutdown_side : s.latchShutdown.side = s.side := rfl
theorem Dev.latchShutdown_eng (e : Nat) : s.latchShutdown.eng e = s.eng e := rfl

/-- R641: the comparator pulls its pin. -/
def Dev.trip (s : Dev) : Dev := { s with side := { s.side with thermtrip := true } }

theorem Dev.trip_eq : s.trip = { s with side := { s.side with thermtrip := true } } := rfl

theorem Dev.shutdownNow_eq (u : TUnit) :
    s.shutdownNow u = (s.trip.when (!s.rcv.hung) (·.announceShutdown u)).darken.latchShutdown := by
  unfold Dev.shutdownNow Dev.latchShutdown Dev.darken Dev.announceShutdown
  simp only
  rw [← Dev.trip_eq]

theorem Dev.announceShutdown_side (u : TUnit) : (s.announceShutdown u).side = s.side := by
  rw [Dev.announceShutdown, Dev.eventAll_keeps (g := Dev.side) _ (fun _ _ => rfl) fun _ _ => rfl, Dev.logE_side,
    Dev.withdrawUp_keeps (g := Dev.side) _ (fun _ _ => rfl) fun _ _ => rfl, Dev.sendBreaks_keeps (g := Dev.side) _ fun _ _ => rfl,
    Dev.sendBreaks_keeps (g := Dev.side) _ fun _ _ => rfl]

theorem Dev.darken_keeps (hf : ∀ s v, g { s with fab := v } = g s) : g s.darken = g s := Dev.fold_keeps g (fun s _ => hf s _) s _

theorem Dev.darken_txOff {e : Nat} (he : e < 14) : (s.darken.eng e).txOff = true :=
  Dev.fold_once (P := fun _ => True) (Q := fun s => (s.eng e).txOff = true) (List.mem_range.mpr he) List.nodup_range
    (fun _ _ _ => id) (fun s _ => by rw [Dev.eng_modEng]) (fun n hn s h => by rwa [Dev.eng_modEng_ne s _ (Ne.symm hn)]) trivial

/-- R641: the shutdown is latched, the pin shows it, and the engines are dark. -/
theorem Dev.shutdownNow_latched (u : TUnit) :
    (s.shutdownNow u).pow.shutdown = true ∧ (s.shutdownNow u).side.thermtrip = true ∧ ∀ e, e < 14 → ((s.shutdownNow u).eng e).txOff = true := by
  rw [Dev.shutdownNow_eq]
  refine ⟨Dev.latchShutdown_shutdown _, ?_, fun e he => ?_⟩
  · have told (d : Dev) (b : Bool) : (d.when b (·.announceShutdown u)).side = d.side :=
      Dev.when_keeps Dev.side (f := (·.announceShutdown u)) d b (d.announceShutdown_side u)
    rw [Dev.latchShutdown_side, Dev.darken_keeps (g := Dev.side) _ fun _ _ => rfl, told, Dev.trip]
  · rw [Dev.latchShutdown_eng, Dev.darken_txOff _ he]

/-! ### The commands -/

section

variable {s : State} (hl : s.dev.live = true)

include hl

theorem answers_tstepLower {n : Nat} (hn : n < 4) :
    (10 ≤ (s.dev.dieT n).cool → (s.dev.dieT n).blind = false →
      answers (.tstepLower n) s (s.dev.modDieT n fun d => { d with cool := 0, tstep := d.tstep - 1 })) ∧
    ((s.dev.dieT n).cool < 10 → answers (.tstepLower n) s s.dev) := by
  have answered {d : Dev} := answers_actIf (d := d) (exec_tstepLower n s) (decide_eq_true hn) hl
  refine ⟨fun hc hb => answered ?_, fun hc => answered (if_pos hc)⟩
  exact (if_neg (by omega)).trans (Dev.modDieT_congr _ (by simp [hb]))

theorem answers_thermModeForced {n : Nat} (hn : n < 4) (hh : 100 ≤ (s.dev.dieT n).hot) (hf : (s.dev.dieT n).forced = false) :
    ∃ d : Dev, answers (.thermModeForced n) s d ∧ d.dieMode n = 2 ∧ d.pow.modeNow = s.dev.pow.modeNow := by
  refine ⟨_, answers_actIf (exec_thermModeForced n s) (decide_eq_true hn) hl (if_neg ?_), ?_, ?_⟩
  · simp [hf, hh]
  · rw [Dev.dieMode_of_forced _ (by rw [Dev.logE_dieT, Dev.setDies_dieT, Dev.dieT_modDieT])]
  · rw [Dev.logE_pow, Dev.setDies_modeNow, Dev.modDieT_pow_modeNow]

theorem answers_thermForceEnd {n : Nat} (hn : n < 4) (hc : 1000 ≤ (s.dev.dieT n).cold) (hf : (s.dev.dieT n).forced = true) :
    ∃ d : Dev, answers (.thermForceEnd n) s d ∧ (d.dieT n).forced = false := by
  refine ⟨_, answers_actIf (exec_thermForceEnd n s) (decide_eq_true hn) hl (if_pos ?_), ?_⟩
  · simp [hf, hc]
  · rw [Dev.setDies_dieT, Dev.dieT_modDieT]

theorem answers_thermSensor {u : TUnit} {i : Nat} (hu : u.ok = true) (hi : i < u.sensors) :
    (s.dev.sensorRounds u i < 3 → answers (.thermSensor u i) s s.dev) ∧
    (3 ≤ s.dev.sensorRounds u i → s.dev.pow.excluded.contains (u, i) = false →
      ∃ d : Dev, answers (.thermSensor u i) s d ∧ d.pow.excluded = s.dev.pow.excluded ++ [(u, i)]) := by
  have answered {d : Dev} := answers_actIf (d := d) (exec_thermSensor u i s) (by rw [hu, decide_eq_true hi]; rfl) hl
  refine ⟨fun hr => answered (if_pos (.inl hr)), fun hr he => ⟨_, answered (if_neg ?_), s.dev.excludeSensor_excluded u i⟩⟩
  rw [he]
  simp [hr]

theorem answers_clkDeltaT {hot cold : TUnit} (hh : hot.ok = true) (hc : cold.ok = true)
    (hon : s.dev.pow.deltaOn.contains (hot, cold) = false)
    (hd : (s.dev.pow.deltas.any fun e => e.1 == hot && e.2.1 == cold && decide (3 ≤ e.2.2)) = true) :
    answers (.clkDeltaT hot cold) s
      ((({ s.dev with pow := { s.dev.pow with deltaOn := s.dev.pow.deltaOn ++ [(hot, cold)] } } : Dev).logE E_CLK_DELTA_T
        (unitNum hot)).deltaStep hot) :=
  answers_actIf (exec_clkDeltaT hot cold s) (by rw [hh, hc]; rfl) hl (if_neg (by rw [hon, hd]; exact Bool.false_ne_true))

theorem answers_thermalShutdown {u : TUnit} {t : Int} (hu : u.ok = true) :
    (shutdownAt u ≤ t → ∃ d : Dev, answers (.thermalShutdown ⟨u, t⟩) s d ∧ d.pow.shutdown = true ∧ d.side.thermtrip = true ∧
      ∀ e, e < 14 → (d.eng e).txOff = true) ∧
    (t < shutdownAt u → answers (.thermalShutdown ⟨u, t⟩) s s.dev) := by
  have answered {d : Dev} := answers_actIf (d := d) (exec_thermalShutdown ⟨u, t⟩ s) hu hl
  refine ⟨fun ht => ⟨s.dev.shutdownNow u, answered ?_, s.dev.shutdownNow_latched u⟩, fun ht => answered ?_⟩
  · rw [decide_eq_true ht, Dev.when_true]
  · rw [decide_eq_false (not_le.mpr ht), Dev.when_false]

end

/-- Settles O54: the commands one by one; the level and the tables by their arithmetic. -/
theorem thermalCommands : Obligations.ThermalCommands := by
  refine ⟨fun s hl => ⟨?round, fun n hn => ?dies, fun u i hu hi => answers_thermSensor hl hu hi,
    fun hot cold hh hc => answers_clkDeltaT hl hh hc, fun u t hu => answers_thermalShutdown hl hu⟩, steepOf_bounds, fun l hl => ?tables⟩
  case round => exact fun r => answers_actIf (exec_housekeepingRound r s) rfl hl rfl
  case dies =>
    obtain ⟨lower, still⟩ := answers_tstepLower hl hn
    exact ⟨lower, still, answers_thermModeForced hl hn, answers_thermForceEnd hl hn⟩
  case tables =>
    exact ⟨fun t => tableAt_of_le, fun t => tableAt_of_ge, fun n => tableAt_point hl, fun n t => tableAt_between hl⟩

end Sys2Proof.Machine
end

section
/-! Stacks and channels (R318, R321, R338–R345): what a change of one leaves of the other, and what retrains, migrations and the switch
to the standby make of a channel. -/

namespace Sys2Proof.Machine

variable {β : Type} (s : Dev) {k p : Nat}

/-! ### Stacks and their channels -/

theorem Dev.modStk_congr {f h : Stack → Stack} (e : f (s.stk k) = h (s.stk k)) : s.modStk k f = s.modStk k h := by
  rw [Dev.modStk, Dev.modStk, e]

theorem Dev.modChan_congr {f h : Chan → Chan} (e : f (s.chan k p) = h (s.chan k p)) : s.modChan k p f = s.modChan k p h :=
  s.modStk_congr (congrArg (fun c => { s.stk k with chans := put {} (s.stk k).chans p c }) e)

/-- A change of a stack that keeps its channels. -/
theorem Dev.chan_modStk {f : Stack → Stack} (hf : ∀ b, (f b).chans = b.chans) (j q : Nat) : (s.modStk k f).chan j q = s.chan j q := by
  by_cases h : j = k
  · subst h
    rw [Dev.chan, Dev.stk_modStk, hf, Dev.chan]
  · rw [Dev.chan, Dev.stk_modStk_ne s f h, Dev.chan]

/-- A change of a channel keeps the rest of its stack. -/
theorem Dev.stk_modChan {g : Stack → β} (hg : ∀ b m, g { b with chans := m } = g b) (f : Chan → Chan) (j : Nat) :
    g ((s.modChan k p f).stk j) = g (s.stk j) := by
  by_cases h : j = k
  · subst h
    rw [Dev.modChan, Dev.stk_modStk, hg]
  · rw [Dev.modChan, Dev.stk_modStk_ne s _ h]

theorem Dev.logE_chan (code : Code) (unit j q : Nat) : (s.logE code unit).chan j q = s.chan j q := rfl
theorem Dev.logE_stk (code : Code) (unit j : Nat) : (s.logE code unit).stk j = s.stk j := rfl

theorem Dev.report_mem (kind : Nat) (code : Code) (unit : Nat) (d : Word) : (s.report kind code unit d).mem = s.mem := by
  unfold Dev.report
  split
  · exact s.eventAll_keeps (g := Dev.mem) (fun _ _ => rfl) (fun _ _ => rfl) _ _ _ _ _
  · rfl

theorem Dev.repaired_mem (code : Code) (unit : Nat) (d : Word) : (s.repaired code unit d).mem = s.mem := Dev.report_mem _ _ _ _ _

theorem Dev.stk_of_mem {s d : Dev} (h : s.mem = d.mem) (k : Nat) : s.stk k = d.stk k := by rw [Dev.stk, h, Dev.stk]
theorem Dev.chan_of_mem {s d : Dev} (h : s.mem = d.mem) (k p : Nat) : s.chan k p = d.chan k p := by
  rw [Dev.chan, Dev.stk_of_mem h, Dev.chan]

/-! ### Retrains (R341, R345, R352) -/

/-- R352: a channel at work retrains at once. -/
theorem Dev.retrainOrWait_active (h : (s.chan k p).st = .active) :
    s.retrainOrWait k p = s.modChan k p fun c => { c with st := .retraining } := by
  rw [Dev.retrainOrWait, if_neg (by simp [h]), Dev.retrainChan]
  exact s.modChan_congr (if_pos h)

variable {s}

/-- R345: a retrain that succeeds returns the channel to work. -/
theorem Dev.retrained_ok (h : (s.chan k p).st = .retraining) :
    s.retrained k p true = s.modChan k p fun c => { c with st := .active, retrainFails := 0 } := by
  simp only [Dev.retrained, h, ne_eq, not_true_eq_false, if_false, if_true]

theorem Dev.retrained_fails (h : (s.chan k p).st = .retraining) :
    s.retrained k p false = if 1 ≤ (s.chan k p).retrainFails then s.killChan k p
      else s.modChan k p fun c => { c with st := .active, retrainFails := c.retrainFails + 1 } := by
  simp only [Dev.retrained, h, ne_eq, not_true_eq_false, Bool.false_eq_true, if_false]

/-! ### Turns and holds (R338, R341, R358) -/

theorem Dev.turn_held (ht : s.img.turns[s.img.turnAt]? = some (k, p)) (h : s.mem.held = true) :
    s.turn = s.modChan k p fun c => { c with deferred := true } := by
  simp only [Dev.turn, ht, h, if_true]

theorem Dev.turn_inReset (ht : s.img.turns[s.img.turnAt]? = some (k, p)) (h : s.mem.held = false) (hs : (s.stk k).selfRefresh = false)
    (hr : (s.stk k).inReset = true) : s.turn = s := by
  simp only [Dev.turn, ht, h, hs, hr, Bool.false_eq_true, if_false, if_true]

theorem Dev.turn_serves (ht : s.img.turns[s.img.turnAt]? = some (k, p)) (h : s.mem.held = false) (hs : (s.stk k).selfRefresh = false)
    (hr : (s.stk k).inReset = false) :
    s.turn = ((s.modChan k p fun c => { c with deferred := false }).retrainOrWait k p).nextTurn := by
  simp only [Dev.turn, ht, h, hs, hr, Bool.false_eq_true, if_false]

theorem Dev.nextTurn_chan (s : Dev) (k p : Nat) : s.nextTurn.chan k p = s.chan k p := rfl

/-- R338: the turn of a channel at work takes it, and the list goes on. -/
theorem Dev.turn_retrains (ht : s.img.turns[s.img.turnAt]? = some (k, p)) (h : s.mem.held = false) (hs : (s.stk k).selfRefresh = false)
    (hr : (s.stk k).inReset = false) (ha : (s.chan k p).st = .active) :
    (s.turn.chan k p).st = .retraining ∧
      s.turn.img.turnAt = if s.img.turnAt + 1 < s.img.turns.length then s.img.turnAt + 1 else 0 := by
  rw [Dev.turn_serves ht h hs hr, Dev.retrainOrWait_active _ (by rw [Dev.chan_modChan, ha])]
  exact ⟨by rw [Dev.nextTurn_chan, Dev.chan_modChan], rfl⟩

/-- R341: where no turn was held back, the hold just ends. -/
theorem Dev.holdEnd_plain (h : s.mem.held = true)
    (hd : ∀ kp, s.img.turns[s.img.turnAt]? = some kp → (s.chan kp.1 kp.2).deferred = false) :
    s.holdEnd = { s with mem := { s.mem with held := false } } := by
  simp only [Dev.holdEnd, h, Bool.not_true, Bool.false_eq_true, if_false]
  split
  · next ht => exact if_neg fun go => Bool.false_ne_true ((hd _ ht).symm.trans (Bool.and_eq_true_iff.mp go).1)
  · rfl

/-- R341: a turn that was held back runs. -/
theorem Dev.holdEnd_deferred (h : s.mem.held = true) (ht : s.img.turns[s.img.turnAt]? = some (k, p))
    (hd : (s.chan k p).deferred = true) (hm : (s.chan k p).st ≠ .migrating) :
    s.holdEnd = ({ s with mem := { s.mem with held := false } } : Dev).turn := by
  simp only [Dev.holdEnd, h, ht, Bool.not_true, Bool.false_eq_true, if_false]
  exact if_pos (Bool.and_eq_true_iff.mpr ⟨hd, bne_iff_ne.mpr hm⟩)

theorem fld_eq_zero_iff {v : Word} : fld v 0 16 = 0 ↔ fldN v 0 16 = 0 := by
  rw [fldN_zero, ← BitVec.toNat_inj]
  simp [fld]

/-- R358: a hold of 1–65,535 ms begins. -/
theorem Dev.holdWrite_begins {v : Word} (hv : fldN v 0 16 ≠ 0) :
    s.holdWrite v = { s with mem := { s.mem with hold := BitVec.ofNat 16 v.toNat, held := true } } :=
  if_neg (mt fld_eq_zero_iff.mp hv)

/-- R358: a hold of 0 ends the one in force. -/
theorem Dev.holdWrite_ends {v : Word} (hv : fldN v 0 16 = 0) (h : s.mem.held = true)
    (hd : ∀ kp, s.img.turns[s.img.turnAt]? = some kp → (s.chan kp.1 kp.2).deferred = false) :
    s.holdWrite v = { s with mem := { s.mem with hold := 0, held := false } } :=
  (if_pos (fld_eq_zero_iff.mpr hv)).trans (Dev.holdEnd_plain (s := { s with mem := { s.mem with hold := 0 } }) h hd)

/-! ### Scrubs (R334, R335, R337) -/

/-- R337: a pass that corrected words only. -/
theorem Dev.scrubbed_corrected {n : Nat} (ht : s.chanThere k = true) (hd : (s.chan k p).st ≠ .dead) (hn : 0 < n) :
    s.scrubbed k p n [] = (s.modChan k p fun c => { c with ceTimes := List.replicate n s.clock ++ c.ceTimes }).count (bankStack k) 0x47 n := by
  rw [Dev.scrubbed, if_neg (by simp [ht, hd]), decide_eq_true hn]
  rfl

/-- R335: the words `[w]`, of which none is poisoned yet, become poisoned and are logged. -/
theorem Dev.copiedBad_one {w : Nat} (hw : w < chanWords) (hp : s.poisoned k p w = false) :
    s.copiedBad k p [w] = (s.setPoison k p w true).logE E_MEM_UNCORR (32 * k + p) := by
  rw [Dev.copiedBad, List.filter_cons_of_pos (by simp [hw, hp])]
  rfl

/-- R335: a pass that corrected none poisons what it found. -/
theorem Dev.scrubbed_uncorrectable (bad : List Nat) (ht : s.chanThere k = true) (hd : (s.chan k p).st ≠ .dead) :
    s.scrubbed k p 0 bad = s.copiedBad k p bad := by
  rw [Dev.scrubbed, if_neg (by simp [ht, hd])]
  rfl

/-! ### Migration (R342–R344, R357) -/

variable (s)

theorem Dev.startEnds_chan (q : Nat) : (s.startEnds k p).chan k q = s.chan k q := by
  unfold Dev.startEnds
  exact s.chan_modStk (by intro b; rfl) k q

/-- R342: the migration of a channel that is not dead begins on the free standby. -/
theorem Dev.migrate_begins (hf : (s.stk k).standbyFree = true) (hm : (s.stk k).migrating = none) (hd : (s.chan k p).st ≠ .dead) :
    ((s.migrate k p).chan k p).st = .migrating ∧ ((s.migrate k p).stk k).migrating = some (p, 0) := by
  have begins : s.migrate k p = ((s.modStk k fun b => { b with migrating := some (p, 0) }).modChan k p fun c =>
      { c with st := .migrating }).logE E_MEM_MIGRATE_START (32 * k + p) := by
    simp only [Dev.migrate, hf, hm, Option.any_none, Option.isSome_none, Bool.not_true, Bool.or_self, Bool.false_eq_true, if_false, hd]
  rw [begins, Dev.logE_chan, Dev.logE_stk, Dev.chan_modChan]
  refine ⟨rfl, ?_⟩
  rw [Dev.stk_modChan _ (g := Stack.migrating) fun _ _ => rfl, Dev.stk_modStk]

/-- R342: without a free standby no channel migrates. -/
theorem Dev.migrate_chan_of_taken (hf : (s.stk k).standbyFree = false) : (s.migrate k p).chan k p = s.chan k p := by
  unfold Dev.migrate
  simp only
  split
  · rfl
  · rw [if_pos (by simp [hf]), Dev.startEnds_chan, Dev.logE_chan]

/-- R344: the logical channel lies on what was the standby, and is at work; the stack has no standby any more. -/
theorem Dev.toStandby_switches :
    (s.toStandby k p).physOf k p = (s.stk k).standby ∧ ((s.toStandby k p).chan k p).st = .active ∧
      ((s.toStandby k p).stk k).standbyFree = false := by
  unfold Dev.toStandby
  simp only
  rw [Dev.physOf, Dev.chan_of_mem (Dev.repaired_mem _ _ _ _), Dev.stk_of_mem (Dev.repaired_mem _ _ _ _), Dev.chan_modChan]
  refine ⟨?_, rfl, ?_⟩
  · simp only
    split
    · next h => exact h.symm
    · rfl
  · rw [Dev.stk_modChan _ (g := Stack.standbyFree) fun _ _ => rfl, Dev.stk_modStk]

/-- Two fields of a word, the lower below 2^i. -/
theorem at_or_at {a b i : Nat} (ha : a < 2 ^ i) : at_ 0 a ||| at_ i b = BitVec.ofNat 64 (a + b * 2 ^ i) := by
  have halves : a ||| b * 2 ^ i = a + b * 2 ^ i := by
    rw [Nat.or_comm, Nat.mul_comm, ← Nat.two_pow_add_eq_or_of_lt ha, Nat.add_comm]
  rw [at_, at_, Nat.pow_zero, Nat.mul_one, ← halves, BitVec.ofNat_or]

variable {s}

/-- R357: START asks for a migration, at a port that serves an owner of the stack. -/
theorem Dev.migStartAt_owner {port : Nat} (hf : s.stackFitted k = true) (ho : s.stackPortOk port k = true) (ht : s.chanThere k = true)
    (hm : (s.stk k).migStart = none) :
    s.migStartAt port k p =
      ((s.setReg (0x30 + k) 0x20 (BitVec.ofNat 64 (fldN (s.migCtl k) 0 16 + p * 2 ^ 16)) 0x200).modStk k fun b =>
        { b with migStart := some p }).migrate k p := by
  have hw : fldN (s.migCtl k) 0 16 < 2 ^ 16 := Nat.mod_lt _ (by decide)
  simp only [Dev.migStartAt, hf, ho, ht, hm, Option.isSome_none, Bool.not_true, Bool.or_self, Bool.false_eq_true, if_false, at_or_at hw]

theorem Dev.migStartAt_foreign {port : Nat} (hf : s.stackFitted k = true) (ho : s.stackPortOk port k = false) :
    s.migStartAt port k p = s.logE E_HOST_NOT_OWNER k := by
  simp only [Dev.migStartAt, hf, ho, Bool.not_true, Bool.not_false, Bool.false_eq_true, if_false, if_true]

/-! ### The command watchdog (R345) -/

/-- R345: a channel at work with a request unanswered: it retrains, or dies where that is the second expiry within 1 s. -/
theorem Dev.cmdWatchdog_expires (hq : (s.chan k p).queue ≠ []) (ha : (s.chan k p).st = .active) (hr : (s.stk k).inReset = false)
    (hw : s.windowOpen 3 (32 * k + p) = false) :
    s.cmdWatchdog k p =
      if ((s.chan k p).wdogAt.any fun t => decide (s.clock < t + 1000)) = true then (s.logE E_MEM_CMD_TIMEOUT (32 * k + p)).killChan k p
      else ((s.logE E_MEM_CMD_TIMEOUT (32 * k + p)).modChan k p fun c => { c with wdogAt := some s.clock }).modChan k p fun c =>
        { c with st := .retraining } := by
  have passes : ((s.chan k p).queue.isEmpty || (s.chan k p).st == .dead || (s.stk k).inReset || s.windowOpen 3 (32 * k + p)) = false := by
    simp [hq, ha, hr, hw]
  have working : (((s.logE E_MEM_CMD_TIMEOUT (32 * k + p)).modChan k p fun c => { c with wdogAt := some s.clock }).chan k p).st = .active := by
    rw [Dev.chan_modChan, Dev.logE_chan, ha]
  rw [← Dev.retrainOrWait_active _ working, Dev.cmdWatchdog]
  simp only [passes, Bool.false_eq_true, if_false]
  rfl

end Sys2Proof.Machine
end

section
/-! The commands of retraining, holds, scrubs, migration and the command watchdog (R321, R335, R337–R345, R357, R358). -/

namespace Sys2Proof.Machine

variable {s : State} {k p : Nat}

/-! ### MGMT (R321) -/

theorem answers_mgmt_request (hl : s.dev.live = true) (hk : k < 32) (ht : s.dev.chanThere k = true) (hr : (s.dev.stk k).inReset = false)
    (r : MgmtReq) : answers (.mgmt k r) s ((s.dev.mgmtDo k r).mgmtAck k) :=
  answers_act (exec_mgmt k r s) (by simp [hk]) hl (if_neg (by simp [ht, hr]))

theorem mgmtDo_retrain (hp : p < 31) (d : Dev) : d.mgmtDo k (.retrain p) = d.retrainOrWait k p := if_pos hp
theorem mgmtDo_scrub (hp : p < 31) (d : Dev) :
    d.mgmtDo k (.scrub p) = d.modStk k fun b => { b with scrubs := addNew b.scrubs p } := if_pos hp
theorem mgmtDo_migrate (hp : p < 31) (d : Dev) : d.mgmtDo k (.migrate p) = d.migrate k p := if_pos hp

/-! ### Turns and holds (R338, R341, R358) -/

theorem answers_retrainTurn (hl : s.dev.live = true) (hr : s.dev.ready = true) :
    answers .retrainTurn s (if s.dev.pow.lat < 3 then s.dev.turn else s.dev) :=
  answers_act (exec_retrainTurn s) rfl hl (by simp [hr])

theorem answers_retrainTurn_at (hl : s.dev.live = true) (hr : s.dev.ready = true) (hlat : s.dev.pow.lat < 3)
    (ht : s.dev.img.turns[s.dev.img.turnAt]? = some (k, p)) :
    (s.dev.mem.held = true → answers .retrainTurn s (s.dev.modChan k p fun c => { c with deferred := true })) ∧
    (s.dev.mem.held = false → (s.dev.stk k).selfRefresh = false → (s.dev.stk k).inReset = true → answers .retrainTurn s s.dev) ∧
    (s.dev.mem.held = false → (s.dev.stk k).selfRefresh = false → (s.dev.stk k).inReset = false → (s.dev.chan k p).st = .active →
      ∃ d : Dev, answers .retrainTurn s d ∧ (d.chan k p).st = .retraining ∧
        d.img.turnAt = (if s.dev.img.turnAt + 1 < s.dev.img.turns.length then s.dev.img.turnAt + 1 else 0)) := by
  have turns : answers .retrainTurn s s.dev.turn := by simpa [hlat] using answers_retrainTurn hl hr
  refine ⟨fun hh => ?_, fun hh hs hi => ?_, fun hh hs hi ha => ⟨_, turns, Dev.turn_retrains ht hh hs hi ha⟩⟩
  · rwa [Dev.turn_held ht hh] at turns
  · rwa [Dev.turn_inReset ht hh hs hi] at turns

theorem answers_retrainDone (hl : s.dev.live = true) (hk : k < 32) (hp : p < 31) (ok : Bool) :
    answers (.retrainDone k p ok) s (s.dev.retrained k p ok) :=
  answers_act (exec_retrainDone k p ok s) (by simp [hk, hp]) hl rfl

theorem answers_memRetrainHold {port : Nat} (hl : s.dev.live = true) (hp : port < 2) (v : Word) :
    answers (.memRetrainHold port v) s (s.dev.holdWrite v) :=
  answers_act (exec_memRetrainHold port v s) (by simp [hp]) hl rfl

theorem answers_memRetrainHoldEnd (hl : s.dev.live = true) : answers .memRetrainHoldEnd s s.dev.holdEnd :=
  answers_act (exec_memRetrainHoldEnd s) rfl hl rfl

/-! ### Scrubs and migration (R335, R337, R342–R344, R357) -/

theorem answers_scrubPass (hl : s.dev.live = true) (hk : k < 32) (hp : p < 31) (n : Nat) (bad : List Nat) :
    answers (.scrubPass k p n bad) s ((s.dev.scrubbed k p n bad).scrubEnds k p) :=
  answers_act (exec_scrubPass k p n bad s) (by simp [hk, hp]) hl rfl

theorem answers_migrateThreshold (hl : s.dev.live = true) (hk : k < 32) (hp : p < 31) (ht : s.dev.chanThere k = true)
    (hm : (s.dev.chan k p).st ≠ .migrating) (hc : fldN (s.dev.migCtl k) 0 16 ≤ s.dev.ceHour k p) :
    answers (.migrateThreshold k p) s (s.dev.migrate k p) :=
  answers_act (exec_migrateThreshold k p s) (by simp [hk, hp]) hl (if_neg (by simp [ht, hm, hc]))

theorem answers_migStart {port : Nat} (hl : s.dev.live = true) (hport : port < 2) (hk : k < 32) (hp : p < 31) (hr : s.dev.ready = true) :
    answers (.migStart port k p) s (s.dev.migStartAt port k p) :=
  answers_act (exec_migStart port k p s) (by simp [hport, hk, hp]) hl (if_pos hr)

theorem answers_migrateDone {q n : Nat} (hl : s.dev.live = true) (hk : k < 32) (hm : (s.dev.stk k).migrating = some (q, n))
    (hr : (s.dev.stk k).inReset = false) (bad : List Nat) :
    answers (.migrateDone ⟨k, bad⟩) s ((s.dev.copiedBad k q bad).toStandby k q) :=
  answers_act (exec_migrateDone ⟨k, bad⟩ s) (by simp [hk]) hl (by simp only [hr, hm, Bool.false_eq_true, if_false])

theorem answers_cmdWatchdog (hl : s.dev.live = true) (hk : k < 32) (hp : p < 31) :
    answers (.cmdWatchdog k p) s (s.dev.cmdWatchdog k p) :=
  answers_act (exec_cmdWatchdog k p s) (by simp [hk, hp]) hl rfl

/-- Settles O24: each command by what it makes of its channel. -/
theorem channelMaintenance : Obligations.ChannelMaintenance := by
  refine ⟨fun k p s hl hk hp => ⟨fun ht hr => ⟨?retrain, ?scrub, ?steep, ?selfRefresh, ?migrate⟩, ?late, ?turn, ?done⟩,
    fun port v s hl hport => ⟨?begins, ?ends, ?deferred⟩,
    fun k p s hl hk hp ht => ⟨?corrected, ?uncorrectable, answers_migrateThreshold hl hk hp ht, ?start, ?copied, ?watchdog⟩,
    fun d k p => ⟨d.migrate_begins, d.migrate_chan_of_taken, d.toStandby_switches⟩⟩
  case retrain =>
    intro ha
    rw [← Dev.retrainOrWait_active _ ha, ← mgmtDo_retrain hp]
    exact answers_mgmt_request hl hk ht hr _
  case scrub =>
    rw [← mgmtDo_scrub hp]
    exact answers_mgmt_request hl hk ht hr _
  case steep => exact fun l => answers_mgmt_request hl hk ht hr (.steep l)
  case selfRefresh => exact fun on => answers_mgmt_request hl hk ht hr (.selfRefresh on)
  case migrate =>
    rw [← mgmtDo_migrate hp]
    exact answers_mgmt_request hl hk ht hr _
  case late =>
    intro hr hlat
    simpa [not_lt.mpr hlat] using answers_retrainTurn hl hr
  case turn => exact answers_retrainTurn_at hl
  case done =>
    intro hr
    have done := answers_retrainDone hl hk hp
    refine ⟨Dev.retrained_ok hr ▸ done true, fun hf => ?_, fun hf => ?_⟩
    · simpa [Dev.retrained_fails hr, hf] using done false
    · simpa [Dev.retrained_fails hr, Nat.one_le_iff_ne_zero, hf] using done false
  case begins =>
    intro hv
    exact Dev.holdWrite_begins hv ▸ answers_memRetrainHold hl hport v
  case ends =>
    intro hh hd
    exact ⟨Dev.holdEnd_plain hh hd ▸ answers_memRetrainHoldEnd hl,
      fun hv => Dev.holdWrite_ends hv hh hd ▸ answers_memRetrainHold hl hport v⟩
  case deferred =>
    intro k p hh ht hd hm
    exact Dev.holdEnd_deferred hh ht hd hm ▸ answers_memRetrainHoldEnd hl
  case corrected =>
    intro n hn hd
    exact Dev.scrubbed_corrected ht hd hn ▸ answers_scrubPass hl hk hp n []
  case uncorrectable =>
    intro w hw hd hpo
    rw [← Dev.copiedBad_one hw hpo, ← Dev.scrubbed_uncorrectable [w] ht hd]
    exact answers_scrubPass hl hk hp 0 [w]
  case start =>
    intro port hport hr hf hm
    have start := answers_migStart hl hport hk hp hr
    exact ⟨fun ho => Dev.migStartAt_owner hf ho ht hm ▸ start, fun ho => Dev.migStartAt_foreign hf ho ▸ start⟩
  case copied =>
    intro q n hm hr
    have copied := answers_migrateDone hl hk hm hr
    exact ⟨copied [], fun w hw hpo => Dev.copiedBad_one hw hpo ▸ copied [w]⟩
  case watchdog =>
    intro hq ha hr hw
    have expires := answers_cmdWatchdog hl hk hp
    rw [Dev.cmdWatchdog_expires hq ha hr hw] at expires
    refine ⟨fun hnone => ?_, fun t hsome hsoon => ?_⟩
    · simpa [hnone] using expires
    · simpa [hsome, hsoon] using expires

end Sys2Proof.Machine
end

section
/-! Byte memories (R317): what a masked write leaves at every address. -/

namespace Sys2Proof

/-- Byte i of the list is read at the i-th address where bit i of the mask is set, and all other bytes are as they were. -/
theorem getByte_setMasked (m : List Host.Cell) (a mask : Nat) (l : List Byte) (i : Nat) :
    getByte (setMasked m a mask l) i =
      if a ≤ i ∧ i < a + l.length ∧ mask.testBit (i - a) = true then l.getD (i - a) 0 else getByte m i := by
  induction l generalizing m a mask with
  | nil =>
    rw [if_neg (by rintro ⟨h, h', -⟩; exact absurd h' (not_lt.mpr h))]
    rfl
  | cons b l ih =>
    rcases Nat.lt_trichotomy i a with h | rfl | h
    · rw [getByte_setMasked_out _ _ _ _ _ (.inl h), if_neg (by omega)]
    · rw [setMasked, getByte_setMasked_out _ _ _ _ _ (.inl (by omega)), Nat.sub_self, Nat.testBit_zero]
      by_cases hm : mask % 2 = 1 <;> simp [hm]
    · obtain ⟨j, rfl⟩ := Nat.exists_eq_add_of_lt h
      have kept : getByte (if mask % 2 = 1 then setByte m a b else m) (a + j + 1) = getByte m (a + j + 1) := by
        split
        · exact getByte_setByte_ne m b (by omega)
        · rfl
      rw [setMasked, ih, kept, show a + j + 1 - (a + 1) = j by omega, show a + j + 1 - a = j + 1 by omega, Nat.testBit_succ,
        List.getD_cons_succ, List.length_cons]
      exact if_congr (and_congr (by omega) (and_congr_left fun _ => by omega)) rfl rfl

theorem toBytes_length (n x : Nat) : (toBytes n x).length = n := by
  induction n generalizing x with
  | zero => rfl
  | succ n ih => rw [toBytes, List.length_cons, ih]

/-- Bytes written whole are read back. -/
theorem getBytes_setMasked_ones (m : List Host.Cell) (a : Nat) (l : List Byte) :
    getBytes (setMasked m a (Machine.ones l.length) l) a l.length = l := by
  refine List.ext_getElem (by simp [getBytes]) fun i _ hi => ?_
  have written : a ≤ a + i ∧ a + i < a + l.length ∧ (Machine.ones l.length).testBit (a + i - a) = true := by
    rw [Nat.add_sub_cancel_left, Machine.ones, Nat.testBit_two_pow_sub_one]
    exact ⟨by omega, by omega, decide_eq_true hi⟩
  simp only [getBytes, List.getElem_map, List.getElem_range, getByte_setMasked, if_pos written]
  rw [Nat.add_sub_cancel_left, List.getD_eq_getElem _ _ hi]

end Sys2Proof
end

section
/-! Requests that a channel serves (R321–R323, R330–R336, R345): what taking a request leaves of its channel, and what READ, WRITE and
ATOMIC make of memory. -/

namespace Sys2Proof.Machine

variable {β : Type} {g : Dev → β} (s : Dev) (k p i : Nat) (r : MemReq)

/-! ### A request is taken -/

/-- R322, R330–R333: the device with the request charged and out of its queue. -/
def Dev.taken (s : Dev) (k p i : Nat) (r : MemReq) : Dev :=
  (s.charge k p r).modChan k p fun c => { c with queue := dropAt c.queue i }

variable {k p} in
/-- What neither the tokens nor the queue and the round-robin of the channel nor the counters change. -/
theorem Dev.taken_keeps (hb : ∀ s n f, g (s.modBucket k n f) = g s)
    (hc : ∀ s (f : Chan → Chan), (∀ c, (f c).st = c.st ∧ (f c).lost = c.lost) → g (s.modChan k p f) = g s)
    (he : ∀ s v, g { s with evc := v } = g s) : g (s.taken k p i r) = g s := by
  have charged : g (s.charge k p r) = g s := by
    unfold Dev.charge
    split
    · rfl
    · split
      · exact hb s _ _
      · rw [Dev.count_keeps _ he, hc _ _ (by intro c; exact ⟨rfl, rfl⟩), hb]
  exact (hc _ _ (by intro c; exact ⟨rfl, rfl⟩)).trans charged

theorem Dev.chan_modBucket (j q n : Nat) (f : Bucket → Bucket) : (s.modBucket k n f).chan j q = s.chan j q :=
  s.chan_modStk (by intro b; rfl) j q

@[simp] theorem Dev.taken_data : (s.taken k p i r).mem.data = s.mem.data :=
  s.taken_keeps (g := (·.mem.data)) i r (fun _ _ _ => rfl) (fun _ _ _ => rfl) fun _ _ => rfl
@[simp] theorem Dev.taken_poison : (s.taken k p i r).mem.poison = s.mem.poison :=
  s.taken_keeps (g := (·.mem.poison)) i r (fun _ _ _ => rfl) (fun _ _ _ => rfl) fun _ _ => rfl
@[simp] theorem Dev.taken_st : ((s.taken k p i r).chan k p).st = (s.chan k p).st :=
  s.taken_keeps (g := fun s => (s.chan k p).st) i r (fun s n f => by simp only [Dev.chan_modBucket])
    (fun s f hf => by simp only [Dev.chan_modChan, (hf _).1]) fun _ _ => rfl
@[simp] theorem Dev.taken_lost : ((s.taken k p i r).chan k p).lost = (s.chan k p).lost :=
  s.taken_keeps (g := fun s => (s.chan k p).lost) i r (fun s n f => by simp only [Dev.chan_modBucket])
    (fun s f hf => by simp only [Dev.chan_modChan, (hf _).2]) fun _ _ => rfl

/-- R335: the poison map does not change. -/
@[simp] theorem Dev.taken_poisoned (w : Nat) : (s.taken k p i r).poisoned k p w = s.poisoned k p w := by
  rw [Dev.poisoned, Dev.taken_poison, Dev.taken_lost, Dev.poisoned]

@[simp] theorem Dev.taken_poisonBitsAt (off n : Nat) : (s.taken k p i r).poisonBitsAt k p off n = s.poisonBitsAt k p off n := by
  simp only [Dev.poisonBitsAt, Dev.taken_poisoned]
@[simp] theorem Dev.taken_poisonBits (q : MemReq) : (s.taken k p i r).poisonBits k p q = s.poisonBits k p q := by
  simp only [Dev.poisonBits, Dev.taken_poisoned]

/-- R90, R321: with no test running, a request that the channel may serve is taken and served. -/
theorem Dev.serveWork_taken {kinds : MKind → Bool} (hq : (s.chan k p).queue[i]? = some r) (hs : s.mayServe k p i r = true)
    (ht : s.tests.running = []) (hk : kinds r.kind = true) (f : Dev → MemReq → Dev) :
    s.serveWork k p i kinds f = f (s.taken k p i r) r := by
  have idle : s.workFor 3 (32 * k + p) = s := if_neg (by simp [ht])
  have still (b : Bool) : s.when b (·.workFor 3 (32 * k + p)) = s := Dev.when_keeps id s b idle
  rw [Dev.serveWork, still, Dev.serve]
  simp only [hq, hk, hs, Bool.and_self, if_true]
  rfl

/-! ### No error (R334) -/

/-- R334: nothing found. -/
def noEcc : EccFind := { corrected := [], uncorrectable := [] }

theorem Dev.eccApply_noEcc (ws : List Nat) : s.eccApply k p r ws noEcc = s := by
  simp [Dev.eccApply, noEcc]

/-! ### READ (R321, R56) -/

theorem Dev.doRead_noEcc :
    s.doRead k p noEcc r = (((s.count (bankStack k) 0x41 r.units none r.part).respond r.src (s.memRead k p (r.off + r.lead) r.len)
      (s.poisonBitsAt k p (r.off + r.lead) r.len) E_OK).fold r.riders fun s x => s.readBack k p x.src x.off x.len) := by
  have poisoned (w : Nat) : (s.count (bankStack k) 0x41 r.units none r.part).poisoned k p w = s.poisoned k p w :=
    Dev.count_keeps s (g := fun s => s.poisoned k p w) (fun _ _ => rfl) _ _ _ _ _ _
  rw [Dev.doRead, Dev.eccApply_noEcc, Dev.readBack]
  simp only [Dev.poisonBitsAt, poisoned, Dev.memRead, Dev.count_mem]

/-! ### WRITE (R321, R336, R500) -/

theorem Dev.setPoison_data (w : Nat) (b : Bool) : (s.setPoison k p w b).mem.data = s.mem.data := by
  unfold Dev.setPoison
  simp only
  split
  · rfl
  · split <;> rfl

theorem Dev.clearFlags_data : (s.clearFlags k p r).mem.data = s.mem.data := by
  refine Dev.fold_keeps (·.mem.data) (fun s w => ?_) s _
  split <;> rfl

/-- R321, R336: a WRITE whose partly written words are whole. -/
def Dev.written (s : Dev) (k p : Nat) (r : MemReq) : Dev :=
  ((((s.memWrite k p r.off r.data r.mask).fold (partWords r.off r.size r.mask ++ wholeWords r.off r.size r.mask) fun s w =>
    s.setPoison k p w (r.poison.getLsbD (w - r.off / 32))).clearFlags k p r).recordTag k r 0).count (bankStack k) 0x42 r.units none r.part

theorem Dev.doWrite_noEcc (hd : (s.chan k p).st ≠ .dead) (hp : (partWords r.off r.size r.mask).any (s.poisoned k p ·) = false) :
    s.doWrite k p noEcc r = (s.written k p r).respond r.src [] 0 E_OK := by
  simp only [Dev.doWrite, hd, if_false, Dev.eccApply_noEcc, hp, Bool.false_eq_true, Dev.written]

theorem Dev.written_data : (s.written k p r).mem.data = setMasked s.mem.data (memKey k p r.off) r.mask r.data := by
  rw [Dev.written, Dev.count_mem]
  refine (Dev.clearFlags_data _ k p r).trans ?_
  exact Dev.fold_keeps (·.mem.data) (fun s w => s.setPoison_data k p w _) _ _

/-! ### ATOMIC (R297, R323) -/

/-- R323: an ATOMIC of a word that is not poisoned. -/
def Dev.exchanged (s : Dev) (k p : Nat) (r : MemReq) (prior : Word) : Dev :=
  ((s.memWrite k p r.off (toBytes 8 (r.newValue prior).toNat) (ones 8)).recordTag k r prior).count (bankStack k) 0x44 1 none r.part

theorem Dev.doAtomic_noEcc (hp : s.poisonBits k p r = 0) {prior : Word}
    (hprior : prior = BitVec.ofNat 64 (ofBytes (s.memRead k p r.off 8))) :
    s.doAtomic k p noEcc r = (s.exchanged k p r prior).answerAtomic r prior E_OK := by
  simp only [Dev.doAtomic, Dev.eccApply_noEcc, hp, ne_eq, not_true_eq_false, if_false, ← hprior, Dev.exchanged]

theorem Dev.exchanged_data (prior : Word) :
    (s.exchanged k p r prior).mem.data = setMasked s.mem.data (memKey k p r.off) (ones 8) (toBytes 8 (r.newValue prior).toNat) := by
  rw [Dev.exchanged, Dev.count_mem]
  rfl

end Sys2Proof.Machine
end

section
/-! READ, WRITE and ATOMIC (R321–R323, R334). -/

namespace Sys2Proof.Machine

variable {s : State} {k p i : Nat} {r : MemReq}

section

variable (hl : s.dev.live = true) (hk : k < 32) (hp : p < 31) (hq : (s.dev.chan k p).queue[i]? = some r)
  (hs : s.dev.mayServe k p i r = true) (ht : s.dev.tests.running = [])

include hl hk hp hq hs ht

theorem answers_read (h : r.kind = .read) : answers (.read k p i noEcc) s ((s.dev.taken k p i r).doRead k p noEcc r) :=
  answers_act (exec_read k p i noEcc s) (by simp [hk, hp]) hl (s.dev.serveWork_taken k p i r hq hs ht (by simp [h]) _)

theorem answers_write (h : r.kind = .write) : answers (.write k p i noEcc) s ((s.dev.taken k p i r).doWrite k p noEcc r) :=
  answers_act (exec_write k p i noEcc s) (by simp [hk, hp]) hl (s.dev.serveWork_taken k p i r hq hs ht (by simp [h]) _)

theorem answers_atomic (h : r.kind = .fetchAdd ∨ r.kind = .swap ∨ r.kind = .compareSwap) :
    answers (.atomic k p i noEcc) s ((s.dev.taken k p i r).doAtomic k p noEcc r) :=
  answers_act (exec_atomic k p i noEcc s) (by simp [hk, hp]) hl
    (s.dev.serveWork_taken k p i r hq hs ht (by rcases h with h | h | h <;> simp [h]) _)

end

/-- Settles O19: the request taken leaves bytes and poison as they are; a write is one masked write of bytes. -/
theorem hbmRequestsAreServed : Obligations.HbmRequestsAreServed := by
  intro k p i s r hl hk hp hq hs ht
  refine ⟨fun h => ?read, fun h hd hpo => ?write, fun h hpo => ?atomic⟩
  case read =>
    have served := answers_read hl hk hp hq hs ht h
    rwa [Dev.doRead_noEcc, Dev.memRead, Dev.taken_data, Dev.taken_poisonBitsAt] at served
  case write =>
    have served := answers_write hl hk hp hq hs ht h
    rw [Dev.doWrite_noEcc _ k p r (by rwa [Dev.taken_st]) (by simpa only [Dev.taken_poisoned] using hpo)] at served
    refine ⟨_, served, fun a => ?_⟩
    rw [Dev.written_data, Dev.taken_data, getByte_setMasked]
  case atomic =>
    have served := answers_atomic hl hk hp hq hs ht h
    rw [Dev.doAtomic_noEcc _ k p r (by rwa [Dev.taken_poisonBits]) rfl, Dev.memRead, Dev.taken_data] at served
    refine ⟨_, served, ?_, fun a ha => ?_⟩
    · rw [Dev.exchanged_data]
      have written := getBytes_setMasked_ones (s.dev.taken k p i r).mem.data (memKey k p r.off)
        (toBytes 8 (r.newValue (BitVec.ofNat 64 (ofBytes (getBytes s.dev.mem.data (memKey k p r.off) 8)))).toNat)
      rw [toBytes_length] at written
      rw [written]
      rcases h with h | h | h <;> simp only [MemReq.newValue, h]
    · rw [Dev.exchanged_data, Dev.taken_data, getByte_setMasked_out _ _ _ _ _ (by rwa [toBytes_length])]

end Sys2Proof.Machine
end

section
/-! Compute die, stack and link resets (R388, R584, R588, R590, R591, R593, R615): what a request through HUB.RESET_CTL finds, and the
commands. -/

namespace Sys2Proof.Machine

/-! ### Requests (R590, R615) -/

section

variable {s : Dev} (domain unit : Nat) (go : Dev → Dev)

/-- R590, R615: a request for a unit that is not there is refused. -/
theorem Dev.resetReq_absent (busy : Bool) :
    s.resetReq domain unit false busy go = (s.setReg 0 0xB08 (at_ 0 domain ||| at_ 8 unit)).logE E_RESET_REQ_BAD unit := rfl

/-- R590, R615: a request for a unit in reset is refused. -/
theorem Dev.resetReq_busy {busy : Bool} (hb : busy = true) :
    s.resetReq domain unit true busy go = (s.setReg 0 0xB08 (at_ 0 domain ||| at_ 8 unit)).logE E_RESET_BUSY unit :=
  if_pos (by rw [hb, Bool.true_or])

end

section

variable (s : Dev) (port : Nat)

theorem Dev.dieReset_request (n : Nat) :
    s.dieReset (.request port) n =
      s.resetReq 2 n (s.dieReleased n || s.inReset 3 n) (s.inReset 3 n || s.inReset 6 0) (·.beginDie n E_OK true) := rfl

theorem Dev.stackRst_request (k : Nat) :
    s.stackRst (.request port) k =
      s.resetReq 3 k (s.stackThere k) (s.inReset 4 k || s.inReset 6 0) (·.beginStack k E_OK true) := rfl

theorem Dev.linkRst_request (e : Nat) :
    s.linkRst (.request port) e =
      s.resetReq 4 e (s.engFitted e && !s.boot.engsLost.getLsbD e) (s.inReset 5 e || s.inReset 6 0) (·.beginLink e E_OK true) := rfl

end

/-! ### The commands -/

section

variable {s : State} {d : Dev} (hl : s.dev.live = true) (src : ResetSrc)
include hl

theorem answers_computeDieReset {n : Nat} (hn : n < 4) (hd : s.dev.dieReset src n = d) : answers (.computeDieReset src n) s d :=
  answers_actIf (exec_computeDieReset src n s) (decide_eq_true hn) hl hd

theorem answers_stackReset {k : Nat} (hk : k < 32) (hd : s.dev.stackRst src k = d) : answers (.stackReset src k) s d :=
  answers_actIf (exec_stackReset src k s) (decide_eq_true hk) hl hd

theorem answers_linkReset {e : Nat} (he : e < 14) (hd : s.dev.linkRst src e = d) : answers (.linkReset src e) s d :=
  answers_act (exec_linkReset src e s) (decide_eq_true he) hl hd

end

/-- Settles O34: a request by what it finds of its unit; the other commands by the branch that their premises choose. -/
theorem unitResets : Obligations.UnitResets := by
  intro s hl asked going
  refine ⟨fun n port hn => ?die, fun k port hk => ?stack, fun e port he => ?link⟩
  case die =>
    have hwf : decide (n < 4) = true := decide_eq_true hn
    refine ⟨fun hrel h3 h6 hh => ⟨answers_computeDieReset hl _ hn ?free, ?poll⟩,
      fun h3 => ⟨answers_computeDieReset hl _ hn ?busy, fun hb => ?done, ?late⟩,
      fun hrel h3 => answers_computeDieReset hl _ hn ?absent, fun cause => answers_computeDieReset hl _ hn rfl⟩
    case free =>
      rw [Dev.dieReset_request, hrel, Bool.true_or]
      exact Dev.resetReq_free hh (by rw [h3, h6]; rfl) _ _ _
    case poll => exact answers_actIf (exec_dieHeartbeat n s) hwf hl (if_neg (by simp [hrel]))
    case busy =>
      rw [Dev.dieReset_request, h3, Bool.or_true]
      exact Dev.resetReq_busy _ _ _ (Bool.true_or _)
    case done => exact answers_actIf (exec_computeDieResetDone n s) hwf hl (if_pos (by rw [h3, hb]; rfl))
    case late => exact answers_actIf (exec_dieResetEscalate n s) hwf hl (if_pos h3)
    case absent =>
      rw [Dev.dieReset_request, hrel, h3, Bool.or_false]
      exact Dev.resetReq_absent _ _ _ _
  case stack =>
    have hwf : decide (k < 32) = true := decide_eq_true hk
    refine ⟨fun ht h4 h6 hh => answers_stackReset hl _ hk ?free, fun ht hr => ?poll,
      fun ht hb => answers_stackReset hl _ hk ?busy, fun ht => answers_stackReset hl _ hk ?absent,
      fun h4 => ⟨fun hrun => ?done, ?late⟩, fun cause => answers_stackReset hl _ hk rfl⟩
    case free =>
      rw [Dev.stackRst_request, ht]
      exact Dev.resetReq_free hh (by rw [h4, h6]; rfl) _ _ _
    case poll => exact answers_actIf (exec_stackMgmtWdog k s) hwf hl (if_neg (by simp [ht, hr]))
    case busy =>
      rw [Dev.stackRst_request, ht]
      exact Dev.resetReq_busy _ _ _ (Bool.or_eq_true_iff.mpr hb)
    case absent =>
      rw [Dev.stackRst_request, ht]
      exact Dev.resetReq_absent _ _ _ _
    case done => exact answers_actIf (exec_stackResetDone k s) hwf hl (if_pos (by rw [h4, hrun]; rfl))
    case late => exact answers_actIf (exec_stackResetEscalate k s) hwf hl (if_pos h4)
  case link =>
    have hwf : decide (e < 14) = true := decide_eq_true he
    have there (hf : s.dev.engFitted e = true) (hlost : s.dev.boot.engsLost.getLsbD e = false) :
        (s.dev.engFitted e && !s.dev.boot.engsLost.getLsbD e) = true := by rw [hf, hlost]; rfl
    refine ⟨fun hf hlost h5 h6 hh => answers_linkReset hl _ he ?free, fun hf hlost hr => ?poll,
      fun hf hlost hb => answers_linkReset hl _ he ?busy, fun h5 => ⟨?done, ?late⟩, fun cause => answers_linkReset hl _ he rfl⟩
    case free =>
      rw [Dev.linkRst_request, there hf hlost]
      exact Dev.resetReq_free hh (by rw [h5, h6]; rfl) _ _ _
    case poll => exact answers_actIf (exec_engMgmtWdog e s) hwf hl (if_neg (by simp [hf, hlost, hr]))
    case busy =>
      rw [Dev.linkRst_request, there hf hlost]
      exact Dev.resetReq_busy _ _ _ (Bool.or_eq_true_iff.mpr hb)
    case done => exact answers_actIf (exec_linkResetDone e s) hwf hl (if_pos h5)
    case late => exact answers_act (exec_linkResetEscalate e s) hwf hl (if_pos h5)

end Sys2Proof.Machine
end

section
/-! Groups, ports, the avoid list, event rings and forwarded commands (R386, R419, R524–R528, R574–R576): the branch of each
management command that its operands choose. -/

namespace Sys2Proof.Machine

section

variable {d : Dev} {e : Entry} {iss : Issuer}

/-! ### Groups (R524–R528) -/

theorem Dev.mgGroupCreate_bad (h : d.groupOk iss (groupOf d e) = false) : d.mgGroupCreate e iss = d.answer iss E_COLL_GROUP_BAD :=
  if_pos (by rw [h]; rfl)

section

variable (hok : d.groupOk iss (groupOf d e) = true)
include hok

theorem Dev.mgGroupCreate_rangeBusy (h : d.rangeBusy (groupOf d e) = true) : d.mgGroupCreate e iss = d.answer iss E_COLL_RANGE_BUSY :=
  (if_neg (by simp [hok])).trans (if_pos h)

variable (hfree : d.rangeBusy (groupOf d e) = false)
include hfree

/-- R533: the port entries reserved for the groups of a core leave no room for those of this one. -/
theorem Dev.mgGroupCreate_credits (h : 192 < d.reservedEntries (groupOf d e).core + (groupOf d e).credits) :
    d.mgGroupCreate e iss = d.answer iss E_COLL_CREDITS :=
  (if_neg (by simp [hok])).trans ((if_neg (by simp [hfree])).trans (if_pos h))

/-- R524, R526, R527: the group is set up on counters that read zero. -/
theorem Dev.mgGroupCreate_made (h : d.reservedEntries (groupOf d e).core + (groupOf d e).credits ≤ 192) :
    d.mgGroupCreate e iss =
      (let g := groupOf d e
       let t : Dev := { d with
         coll := { d.coll with freed := d.coll.freed.filter fun f => decide (d.clock < f.2.2 + 10) }
         sync := d.sync.filter fun c => !(decide (g.cbase ≤ c.1) && decide (c.1 < g.cbase + g.ccount)) }
       ((t.setGroup g.queue (some g)).writeGcb g 0 true).answer iss E_OK) :=
  (if_neg (by simp [hok])).trans ((if_neg (by simp [hfree])).trans (if_neg (by omega)))

end

theorem Dev.mgGroupDestroy_unnamed (h : d.namedGroup e iss = none) : d.mgGroupDestroy e iss = d.answer iss E_COLL_GROUP_BAD := by
  rw [Dev.mgGroupDestroy, h]

theorem Dev.mgGroupDestroy_named {g : Nat} (h : d.namedGroup e iss = some g) : d.mgGroupDestroy e iss = d.destroyGroup g [iss] := by
  rw [Dev.mgGroupDestroy, h]

theorem Dev.mgCollAbort_unnamed (h : d.namedGroup e iss = none) : d.mgCollAbort e iss = d.answer iss E_COLL_GROUP_BAD := by
  rw [Dev.mgCollAbort, h]

theorem Dev.mgCollAbort_named {g : Nat} (h : d.namedGroup e iss = some g) :
    d.mgCollAbort e iss =
      (let t := d.raiseGroup g E_COLL_COMMAND
       (Dev.abortLoop (t.coll.groups.length + 1) t).answer iss E_OK) := by
  rw [Dev.mgCollAbort, h]

/-! ### PORT_EXPECT (R386) -/

theorem Dev.mgPortExpect_bad (h : 6 ≤ ebytes e 40 1) : d.mgPortExpect e iss = d.answer iss E_MGMT_OPERAND := if_pos h

theorem Dev.mgPortExpect_set (h : ebytes e 40 1 < 6) :
    d.mgPortExpect e iss =
      (d.modFport (ebytes e 40 1) fun p => { p with expect := some (BitVec.ofNat 64 (ebytes e 32 8)) }).answer iss E_OK :=
  if_neg (by omega)

/-! ### FAB_AVOID (R419, R575) -/

/-- The avoid list is `l` now, and the command answers its length. -/
def Dev.avoids (d : Dev) (iss : Issuer) (l : List (Nat × Nat)) : Dev :=
  ({ d with fab := { d.fab with avoid := l } } : Dev).answer iss E_OK (BitVec.ofNat 64 l.length)

theorem Dev.mgFabAvoid_bad (h : 3 ≤ ebytes e 32 1) : d.mgFabAvoid e iss = d.answer iss E_MGMT_OPERAND := if_pos h

theorem Dev.mgFabAvoid_clear (h : ebytes e 32 1 = 2) : d.mgFabAvoid e iss = d.avoids iss [] :=
  (if_neg (by omega)).trans (if_pos h)

section

variable (hdir : ebytes e 36 1 < 4) (hdev : ebytes e 34 2 < 2 ^ 14) (hdom : d.inDomain (ebytes e 34 2) = true)
include hdir hdev hdom

theorem Dev.avoid_operand : ¬ (4 ≤ ebytes e 36 1 ∨ 2 ^ 14 ≤ ebytes e 34 2 ∨ (!d.inDomain (ebytes e 34 2)) = true) := by
  rw [hdom]
  simp only [Bool.not_true, Bool.false_eq_true, or_false]
  omega

theorem Dev.mgFabAvoid_remove (h : ebytes e 32 1 = 1) :
    d.mgFabAvoid e iss = d.avoids iss (d.fab.avoid.filter (· ≠ (ebytes e 34 2, ebytes e 36 1))) :=
  (if_neg (by omega)).trans ((if_neg (by omega)).trans ((if_neg (Dev.avoid_operand hdir hdev hdom)).trans (if_pos h)))

variable (hop : ebytes e 32 1 = 0) (hnew : (ebytes e 34 2, ebytes e 36 1) ∉ d.fab.avoid)
include hop hnew

/-- R419: the list holds 64 entries. -/
theorem Dev.mgFabAvoid_new :
    d.mgFabAvoid e iss =
      if 64 ≤ d.fab.avoid.length then d.answer iss E_FAB_AVOID_FULL (BitVec.ofNat 64 d.fab.avoid.length)
      else d.avoids iss (d.fab.avoid ++ [(ebytes e 34 2, ebytes e 36 1)]) :=
  (if_neg (by omega)).trans ((if_neg (by omega)).trans ((if_neg (Dev.avoid_operand hdir hdev hdom)).trans
    ((if_neg (by omega)).trans (if_neg hnew))))

end

/-! ### EVT_RING (R575, R576) -/

theorem Dev.mgEvtRing_misaligned (h : ebytes e 32 8 % 4096 ≠ 0) : d.mgEvtRing e iss = d.answer iss E_MGMT_OPERAND := if_pos (.inl h)

theorem Dev.mgEvtRing_set (hbase : ebytes e 32 8 % 4096 = 0) (hsize : ebytes e 40 1 = 0 ∨ 12 ≤ ebytes e 40 1 ∧ ebytes e 40 1 ≤ 20) :
    d.mgEvtRing e iss =
      (d.modRing (d.actPart iss) fun r =>
        { r with base := BitVec.ofNat 64 (ebytes e 32 8), log2 := ebytes e 40 1, prod := 0, cons := 0 }).answer iss E_OK :=
  if_neg (by simpa [hbase, or_iff_not_imp_left] using hsize)

end

/-! ### The management channel (R574) -/

section

variable {s : Dev} {m : MgmtPacket} (hload : s.img.loaded.isSome = true) (hr : s.inReset 6 0 = false)
include hload hr

theorem Dev.mgmtChannel_open : ¬ (s.img.loaded.isNone || s.inReset 6 0) = true := by
  rw [hr, Option.isNone_eq_false_iff.mpr hload]
  exact Bool.false_ne_true

/-- R574: a command acts as if issued through an HFM queue here. -/
theorem Dev.mgmtPacket_command (hm : m.reply = none) : s.mgmtPacket m = s.wakeEvent.runForwarded m := by
  refine (if_neg (Dev.mgmtChannel_open hload hr)).trans ?_
  rw [hm]

/-- R574: the result of a command completes the entry that was forwarded. -/
theorem Dev.mgmtPacket_result {code : Code} {result : Word} {q : Nat} {seq : BitVec 32} (hm : m.reply = some (code, result))
    (he : s.wakeEvent.forwardedEntry m = some (q, seq)) : s.mgmtPacket m = s.wakeEvent.complete q seq code result := by
  refine (if_neg (Dev.mgmtChannel_open hload hr)).trans ?_
  rw [hm]
  dsimp only
  rw [he]

end

/-- Settles O41: each command by the branch that its operands choose. -/
theorem otherManagementCommands : Obligations.OtherManagementCommands := by
  intro s q e d hl hq iss
  have hwf : decide (q < 4096) = true := decide_eq_true hq
  refine ⟨fun hrun => ?create, fun hrun => ?destroy, fun hrun => ?abort, fun hrun h => ?expectBad, fun hrun h => ?expect,
    fun hrun => ?avoid, fun hrun h => ?ringBad, fun hrun h hsize => ?ring, fun m hload hr => ⟨fun hm => ?command, ?result⟩⟩
  case create =>
    have answered {t : Dev} (ht : d.mgGroupCreate e iss = t) := answers_mgmt (exec_groupCreate q s) hwf hl hrun ht
    exact ⟨fun h => answered (Dev.mgGroupCreate_bad h), fun hok h => answered (Dev.mgGroupCreate_rangeBusy hok h),
      fun hok hfree h => answered (Dev.mgGroupCreate_credits hok hfree h),
      fun hok hfree h => answered (Dev.mgGroupCreate_made hok hfree h)⟩
  case destroy =>
    have answered {t : Dev} (ht : d.mgGroupDestroy e iss = t) := answers_mgmt (exec_groupDestroy q s) hwf hl hrun ht
    exact ⟨fun h => answered (Dev.mgGroupDestroy_unnamed h), fun g h => answered (Dev.mgGroupDestroy_named h)⟩
  case abort =>
    have answered {t : Dev} (ht : d.mgCollAbort e iss = t) := answers_mgmt (exec_collAbort q s) hwf hl hrun ht
    exact ⟨fun h => answered (Dev.mgCollAbort_unnamed h), fun g h => answered (Dev.mgCollAbort_named h)⟩
  case expectBad => exact answers_mgmt (exec_portExpect q s) hwf hl hrun (Dev.mgPortExpect_bad h)
  case expect => exact answers_mgmt (exec_portExpect q s) hwf hl hrun (Dev.mgPortExpect_set h)
  case avoid =>
    intro x done
    have answered {t : Dev} (ht : d.mgFabAvoid e iss = t) := answers_mgmt (exec_fabAvoid q s) hwf hl hrun ht
    exact ⟨fun h => answered (Dev.mgFabAvoid_clear h), fun h => answered (Dev.mgFabAvoid_bad h), fun hdir hdev hdom =>
      ⟨fun h => answered (Dev.mgFabAvoid_remove hdir hdev hdom h),
        fun h hnew hlen => answered ((Dev.mgFabAvoid_new hdir hdev hdom h hnew).trans (if_neg (by omega))),
        fun h hnew hlen => answered ((Dev.mgFabAvoid_new hdir hdev hdom h hnew).trans (if_pos hlen))⟩⟩
  case ringBad => exact answers_mgmt (exec_evtRing q s) hwf hl hrun (Dev.mgEvtRing_misaligned h)
  case ring => exact answers_mgmt (exec_evtRing q s) hwf hl hrun (Dev.mgEvtRing_set h hsize)
  case command => exact answers_act (exec_managementPacket m s) rfl hl (Dev.mgmtPacket_command hload hr hm)
  case result =>
    exact fun code result q seq hm he => answers_act (exec_managementPacket m s) rfl hl (Dev.mgmtPacket_result hload hr hm he)

end Sys2Proof.Machine
end

section
/-! The attention drain (R391, R392, R398, R399, R507): what a press finds, and how the drain goes on from each of its phases. -/

namespace Sys2Proof.Machine

variable {s : Dev}

/-! ### Presses (R391, R392, R647) -/

/-- R647: outside P2 to P4 a wake event changes nothing. -/
theorem Dev.wakeEvent_awake (h : s.pow.lat < 2) : s.wakeEvent = s := if_neg (by omega)

@[simp] theorem Dev.wakeEvent_takesPress (s : Dev) : s.wakeEvent.takesPress = s.takesPress :=
  s.wakeEvent_keeps (g := Dev.takesPress) fun _ _ => rfl
@[simp] theorem Dev.wakeEvent_rcv (s : Dev) : s.wakeEvent.rcv = s.rcv := s.wakeEvent_keeps (g := Dev.rcv) fun _ _ => rfl

/-- R391: the event of a press touches no phase. -/
@[simp] theorem Dev.pressEvent_rcv (s : Dev) (code : Code) : (s.pressEvent code).rcv = s.rcv :=
  s.eventAll_keeps (g := Dev.rcv) (fun _ _ => rfl) (fun _ _ => rfl) _ _ _ _ _

/-- R66: a press that the device does not take is held until step 10. -/
theorem Dev.press_held (h : s.takesPress = false) :
    s.press = { s.wakeEvent with boot := { s.wakeEvent.boot with attnHeld := true } } :=
  if_pos (by rw [Dev.wakeEvent_takesPress, h]; rfl)

theorem Dev.press_starts (ht : s.takesPress = true) (hp : s.rcv.phase = 0) (hlat : s.pow.lat = 0) : s.press = s.drainStart := by
  have hw : s.wakeEvent = s := Dev.wakeEvent_awake (by omega)
  rw [Dev.press, hw]
  exact (if_neg (by simp [ht])).trans (if_pos hp)

/-- R392: a second press before release cancels the drain. -/
theorem Dev.press_cancels (ht : s.takesPress = true) (h1 : 1 ≤ s.rcv.phase) (h3 : s.rcv.phase < 3) :
    s.press = (s.wakeEvent.pressEvent E_OK).drainCancel :=
  (if_neg (by simp [ht])).trans ((if_neg (by rw [Dev.wakeEvent_rcv]; omega)).trans
    (if_pos (by rwa [Dev.pressEvent_rcv, Dev.wakeEvent_rcv])))

/-- R391: before phase 3 the drain goes on there. -/
theorem Dev.drainNow_rcv (h : s.rcv.phase < 3) (code : Code) :
    (s.drainNow code).rcv =
      { s.rcv with phase := 3, drainCode := code, pressMs := if s.rcv.phase = 0 then s.clock else s.rcv.pressMs } := by
  rw [Dev.drainNow, if_neg (by omega)]

/-- R392: the device after a forced press. -/
def Dev.forcedPress (s : Dev) : Dev :=
  let d := ((s.wakeEvent.pressEvent E_ATTN_FORCED).logE E_ATTN_FORCED 0).drainNow E_ATTN_FORCED
  { d with rcv := { d.rcv with forced := true } }

theorem Dev.forcedPress_effect (h : s.rcv.phase < 3) :
    s.forcedPress.rcv.phase = 3 ∧ s.forcedPress.rcv.forced = true ∧ s.forcedPress.rcv.drainCode = E_ATTN_FORCED := by
  have hd := Dev.drainNow_rcv (s := (s.wakeEvent.pressEvent E_ATTN_FORCED).logE E_ATTN_FORCED 0) (by simpa using h) E_ATTN_FORCED
  simp only [Dev.forcedPress, hd, and_self]

/-! ### Transmitters off (R391) -/

/-- R391: every engine is dark, and its fibre pairs are down. -/
def Dev.lightsOff (s : Dev) : Dev :=
  s.fold (List.range 14) fun s e =>
    (s.fold (List.range 8) fun s f => s.modFib e f fun b => { b with up := false, training := false }).modEng e fun g =>
      { g with txOff := true }

theorem Dev.eng_modFib_ne (s : Dev) {e n : Nat} (i : Nat) (f : Fibre → Fibre) (h : n ≠ e) : (s.modFib e i f).eng n = s.eng n :=
  s.eng_modEng_ne _ h

theorem Dev.lightsOff_txOff (s : Dev) {e : Nat} (he : e < 14) : (s.lightsOff.eng e).txOff = true :=
  Dev.fold_once (P := fun _ => True) (Q := fun s => (s.eng e).txOff = true) (List.mem_range.mpr he) List.nodup_range
    (fun _ _ _ => id) (fun s _ => by rw [Dev.eng_modEng])
    (fun n hn s h => by
      rw [Dev.eng_modEng_ne _ _ (Ne.symm hn), Dev.fold_keeps (·.eng e) fun s f => s.eng_modFib_ne f _ (Ne.symm hn)]
      exact h)
    trivial

/-- R391: the device is safe to remove. -/
def Dev.declareSafe (s : Dev) : Dev := { s with rcv := { s.rcv with phase := 5, safe := true } }

theorem Dev.declareSafe_eng (s : Dev) (e : Nat) : s.declareSafe.eng e = s.eng e := rfl

/-! ### The commands -/

/-- Settles O45: each command by the branch that the drain's phase chooses. -/
theorem attentionDrain : Obligations.AttentionDrain := by
  intro s hl
  refine ⟨fun hpins => ⟨fun ht => ⟨?pressHeld, ?forcedHeld⟩,
      fun ht => ⟨fun hp hlat => ?starts, fun h1 h3 => ?cancels, fun h3 => ?forced⟩⟩,
    fun h2 => ⟨?release, fun hb => ?blocked⟩, fun h2 => ?noRelease, fun h => ?cancel,
    fun h3 => ⟨fun hw => ⟨?drain, ?working⟩, fun hw => ?nothing, fun hw hpost => ?quiesced⟩, fun h4 hcomb hdet => ?safe⟩
  case pressHeld => exact answers_act (exec_attnPress s) rfl hl ((if_neg (by simp [hpins])).trans (Dev.press_held ht))
  case forcedHeld =>
    exact answers_act (exec_attnForced s) rfl hl ((if_neg (by simp [hpins])).trans (if_pos (by rw [ht]; rfl)))
  case starts => exact answers_act (exec_attnPress s) rfl hl ((if_neg (by simp [hpins])).trans (Dev.press_starts ht hp hlat))
  case cancels =>
    refine ⟨(s.dev.wakeEvent.pressEvent E_OK).drainCancel, answers_act (exec_attnPress s) rfl hl ?_, rfl⟩
    exact (if_neg (by simp [hpins])).trans (Dev.press_cancels ht h1 h3)
  case forced =>
    refine ⟨s.dev.forcedPress, answers_act (exec_attnForced s) rfl hl ?_, Dev.forcedPress_effect h3⟩
    exact (if_neg (by simp [hpins])).trans ((if_neg (by simp [ht])).trans (if_neg (by simpa using h3)))
  case release => exact answers_act (exec_attnRelease s) rfl hl (if_pos h2)
  case blocked => exact answers_act (exec_attnBlocked s) rfl hl (if_neg (by simp [h2, hb]))
  case noRelease => exact answers_act (exec_attnRelease s) rfl hl (if_neg h2)
  case cancel => exact answers_act (exec_attnCancel s) rfl hl (if_pos h)
  case drain => exact answers_act (exec_attnDrain s) rfl hl (if_neg (by simp [h3, hw]))
  case working => exact answers_act (exec_attnQuiesceDone s) rfl hl (if_pos (.inr (.inl hw)))
  case nothing => exact answers_act (exec_attnDrain s) rfl hl (if_pos (.inr (by rw [hw]; rfl)))
  case quiesced => exact answers_act (exec_attnQuiesceDone s) rfl hl (if_neg (by simp [h3, hw, hpost]))
  case safe =>
    refine ⟨s.dev.lightsOff.declareSafe, answers_act (exec_attnSafe s) rfl hl (if_neg (by simp [h4, hcomb, hdet])), rfl, rfl,
      fun e he => ?_⟩
    rw [Dev.declareSafe_eng, Dev.lightsOff_txOff _ he]

end Sys2Proof.Machine
end

section
/-! Packets, flits, credits, audits and route queries (R365, R416, R421, R422, R425–R431, R436): which way a packet takes, what a flit
leaves of its port and fibre, and how the two ends of a link compare their counts. -/

namespace Sys2Proof.Machine

variable {s : Dev}

/-! ### A packet comes in (R416, R422, R429) -/

section

variable {p : Packet} {via : LinkRef} {seq : Nat} (hload : s.img.loaded.isSome = true)
include hload

theorem Dev.comeIn_inOrder (h : s.inOrder via seq = true) : ¬ (s.img.loaded.isNone || !s.inOrder via seq) = true := by
  rw [Option.isNone_eq_false_iff.mpr hload, h]
  exact Bool.false_ne_true

theorem Dev.comeIn_trunk (h : isTrunk via = true) : s.comeIn p via seq = s.fromTrunk { p with inp := some (via, p.vc, p.cls) } := by
  cases via with
  | port q => exact (if_neg (Dev.comeIn_inOrder hload rfl)).trans (if_pos h)
  | circuit c => exact absurd h Bool.false_ne_true
  | d2d l => exact absurd h Bool.false_ne_true

theorem Dev.comeIn_fabric (hc : ∀ c, via ≠ .circuit c) (h : isTrunk via = false) :
    s.comeIn p via seq = s.forward { p with inp := some (via, p.vc, p.cls) } := by
  cases via with
  | port q => exact (if_neg (Dev.comeIn_inOrder hload rfl)).trans (if_neg (Bool.eq_false_iff.mp h))
  | circuit c => exact absurd rfl (hc c)
  | d2d l => exact (if_neg (Dev.comeIn_inOrder hload rfl)).trans (if_neg (Bool.eq_false_iff.mp h))

/-- R416: the next expected packet of a circuit goes on. -/
theorem Dev.comeIn_circuit {c : Nat} (h : seq = (s.ckt c).expect) :
    s.comeIn p (.circuit c) seq =
      (s.modCkt c fun k => { k with expect := k.expect + 1 }).forward { p with inp := some (.circuit c, p.vc, p.cls) } :=
  if_neg (Dev.comeIn_inOrder (via := .circuit c) hload (beq_iff_eq.mpr h))

end

/-- R416: a circuit takes no other packet than the next. -/
theorem Dev.comeIn_outOfOrder {p : Packet} {c seq : Nat} (h : seq ≠ (s.ckt c).expect) : s.comeIn p (.circuit c) seq = s :=
  if_pos (by rw [Dev.inOrder, beq_false_of_ne h, Bool.not_false, Bool.or_true])

/-! ### A flit at its port (R365) -/

section

theorem Dev.fport_of_fab {s t : Dev} (h : s.fab = t.fab) (p : Nat) : s.fport p = t.fport p := by rw [Dev.fport, Dev.fport, h]
theorem Dev.fib_of_engs {s t : Dev} (h : s.fab.engs = t.fab.engs) (e f : Nat) : s.fib e f = t.fib e f := by
  rw [Dev.fib, Dev.fib, Dev.eng, Dev.eng, h]

@[simp] theorem Dev.fib_modFib (s : Dev) (e f : Nat) (g : Fibre → Fibre) : (s.modFib e f g).fib e f = g (s.fib e f) := by
  simp [Dev.fib, Dev.modFib]
@[simp] theorem Dev.fport_modFib (s : Dev) (e f p : Nat) (g : Fibre → Fibre) : (s.modFib e f g).fport p = s.fport p := rfl

theorem Dev.countPort_keeps {β : Type} {g : Dev → β} (he : ∀ s v, g { s with evc := v } = g s) (s : Dev) (p src n : Nat)
    (vc : Option Nat) : g (s.countPort p src n vc) = g s := by
  unfold Dev.countPort
  cases (enginesOf p).find? (s.engCarries ·) with
  | none => rfl
  | some e => exact s.count_keeps he _ _ _ _ _ _

/-- What every change of a list leaves the device as, the whole does. -/
theorem Dev.fold_still {α : Type} {f : Dev → α → Dev} (h : ∀ a, f s a = s) (l : List α) : s.fold l f = s := by
  induction l with
  | nil => rfl
  | cons a l ih => rwa [Dev.fold, List.foldl_cons, h a]

variable (s) (p e f seq symbols : Nat) (ok : Bool) (flit : BitVec 1024)

/-- R676: an engine counts a flit and the symbols corrected in it. -/
def Dev.flitCounted : Dev := (s.count (bankEng e) 0x61).when (decide (0 < symbols)) (·.count (bankEng e) 0x63 symbols)

theorem Dev.flitCounted_keeps {β : Type} {g : Dev → β} (he : ∀ s v, g { s with evc := v } = g s) :
    g (s.flitCounted e symbols) = g s :=
  (Dev.when_keeps g _ _ (Dev.count_keeps _ he _ _ _ _ _ _)).trans (s.count_keeps he _ _ _ _ _ _)

/-- R365, R428: the device once its receiver has a flit; an audit of the link is over. -/
def Dev.flitReceived : Dev :=
  ((s.endAudit (.port p)).modFport p fun t => { t with rx := t.rx.receive seq ok flit }).flitCounted e symbols

theorem Dev.flitReceived_rx : ((s.flitReceived p e seq symbols ok flit).fport p).rx = (s.fport p).rx.receive seq ok flit := by
  rw [Dev.flitReceived, Dev.flitCounted_keeps (g := (·.fport p)) _ _ _ fun _ _ => rfl, Dev.fport_modFport]
  rfl

theorem Dev.flitReceived_fib (i : Nat) : (s.flitReceived p e seq symbols ok flit).fib i f = s.fib i f := by
  rw [Dev.flitReceived, Dev.flitCounted_keeps (g := (·.fib i f)) _ _ _ fun _ _ => rfl]
  rfl

theorem Dev.flitReceived_outbox : (s.flitReceived p e seq symbols ok flit).outbox = s.outbox := by
  rw [Dev.flitReceived, Dev.flitCounted_keeps (g := Dev.outbox) _ _ _ fun _ _ => rfl]
  rfl

/-- R365: a flit that fails its check is counted and asked for again. -/
def Dev.askAgain : Dev :=
  (((s.modFib e f fun b => { b with uncorr1 := sat8 b.uncorr1 }).countPort p 0x62 1).count (bankEng e) 0x64).out (.replay (.port p) 0 seq)

theorem Dev.askAgain_fab : (s.askAgain p e f seq).fab = (s.modFib e f fun b => { b with uncorr1 := sat8 b.uncorr1 }).fab := by
  rw [Dev.askAgain, Dev.out_fab, Dev.count_fab, Dev.countPort_keeps (g := Dev.fab) fun _ _ => rfl]

theorem Dev.askAgain_outbox : (s.askAgain p e f seq).outbox = s.outbox ++ [.replay (.port p) 0 seq] := by
  rw [Dev.askAgain, Dev.out_outbox, Dev.count_outbox, Dev.countPort_keeps (g := Dev.outbox) fun _ _ => rfl]
  rfl

theorem Dev.portFlit_down (pair : Nat) (h : (s.fport p).st ≠ .up) : s.portFlit p pair seq symbols ok flit = s := by
  unfold Dev.portFlit
  split
  · rfl
  · exact if_pos h

variable {p e f} {pair : Nat} (hpair : (portPairs p)[pair]? = some (e, f)) (hup : (s.fport p).st = .up) (hidle : s.tests.running = [])
include hpair hup hidle

/-- R365: a flit at a port that is up, with no test to stop. -/
theorem Dev.portFlit_up :
    s.portFlit p pair seq symbols ok flit =
      (s.flitReceived p e seq symbols ok flit).when (!ok) (·.askAgain p e f seq) := by
  have hstill : (s.fold (portPairs p) fun s k => s.workFor 5 (8 * k.1 + k.2)) = s :=
    Dev.fold_still (fun k => Dev.workFor_idle (by rw [Dev.testRunning, hidle, List.any_nil])) _
  rw [Dev.portFlit, hpair]
  refine (if_neg (not_not.mpr hup)).trans ?_
  rw [hstill]
  cases ok <;> rfl

/-- R365: what a flit leaves of its port, of its fibre, and of what goes out. -/
theorem Dev.portFlit_effect :
    ((s.portFlit p pair seq symbols ok flit).fport p).rx = (s.fport p).rx.receive seq ok flit ∧
    ((s.portFlit p pair seq symbols ok flit).fib e f).uncorr1 =
      (if ok then (s.fib e f).uncorr1 else sat8 (s.fib e f).uncorr1) ∧
    (s.portFlit p pair seq symbols ok flit).outbox = s.outbox ++ (if ok then [] else [.replay (.port p) 0 seq]) := by
  rw [Dev.portFlit_up s seq symbols ok flit hpair hup hidle]
  cases ok with
  | true =>
    rw [Bool.not_true, Dev.when_false, Dev.flitReceived_rx, Dev.flitReceived_fib, Dev.flitReceived_outbox]
    exact ⟨rfl, rfl, (List.append_nil _).symm⟩
  | false =>
    rw [Bool.not_false, Dev.when_true, Dev.askAgain_outbox, Dev.flitReceived_outbox, Dev.fport_of_fab (Dev.askAgain_fab _ _ _ _ _),
      Dev.fport_modFib, Dev.flitReceived_rx, Dev.fib_of_engs (congrArg Fabric.engs (Dev.askAgain_fab _ _ _ _ _)), Dev.fib_modFib,
      Dev.flitReceived_fib]
    exact ⟨rfl, rfl, rfl⟩

end

/-! ### Credits after a retrain (R427) -/

theorem Dev.creditReturn_own (p : Nat) :
    s.creditReturn (.port p) 0 =
      if (s.fport p).creditHeld && (s.fport p).rx.quiet then (s.modFport p fun t => { t with creditHeld := false }).out (.quota (.port p) 0)
      else s := rfl

theorem Dev.creditReturn_neighbour (p : Nat) :
    s.creditReturn (.port p) 1 =
      if (s.fport p).nbrHeld && (s.fport p).unacked.isEmpty then (s.modFport p fun t => { t with nbrHeld := false }).fullQuota (.port p)
      else s := rfl

theorem answers_creditReturn {s : State} {p dir : Nat} {d : Dev} (hl : s.dev.live = true) (hp : p < 6) (hdir : dir < 2)
    (hd : s.dev.creditReturn (.port p) dir = d) : answers (.creditReturnAfterRetrain (.port p) dir) s d :=
  answers_act (exec_creditReturnAfterRetrain (.port p) dir s) (by simp [LinkRef.ok, hp, hdir]) hl hd

/-! ### Audits (R428) -/

theorem Dev.mayAudit_serving {link : LinkRef} (hs : s.linkServes link = true) (ha : s.fab.auditing.contains link = false)
    (hd : s.fab.audited.contains (link, s.clock) = false) : s.mayAudit link = true := by
  rw [Dev.mayAudit, hs, ha, hd]
  rfl

theorem Dev.mayAudit_audited {link : LinkRef} (hd : s.fab.audited.contains (link, s.clock) = true) : s.mayAudit link = false := by
  rw [Dev.mayAudit, hd, Bool.not_true, Bool.and_false]

/-! ### The commands -/

/-- Settles O48: each command by the branch that its link, its packet or its flit chooses. -/
theorem packetsAndCredits : Obligations.PacketsAndCredits := by
  intro s hl
  refine ⟨?packets, ?held, ?flits, ?credits, fun p hp => ?returns, fun link peer hlink => ?audits, fun port v hp => ?query⟩
  case packets =>
    intro p via seq hp hvia hload q
    have answered {seq : Nat} {d : Dev} (hd : s.dev.comeIn p via seq = d) : answers (.packetForward p ⟨via, seq⟩) s d :=
      answers_act (exec_packetForward p ⟨via, seq⟩ s) (by rw [wf_packetForward, hp, hvia]; rfl) hl hd
    refine ⟨fun hc ht => answered (Dev.comeIn_fabric hload hc ht), fun ht => answered (Dev.comeIn_trunk hload ht), fun c hc => ?_⟩
    subst hc
    exact ⟨fun h => answered (Dev.comeIn_circuit hload h), fun h => answered (Dev.comeIn_outOfOrder h)⟩
  case held =>
    intro i p hi d
    have returned {t : Dev} (ht : (if s.dev.nextUsable p then (s.dev.dropHeld i).send p else s.dev) = t) : answers (.segmentReturn i) s t :=
      answers_act (exec_segmentReturn i s) rfl hl (by rwa [hi])
    have waited {t : Dev} (ht : (if s.dev.nextUsable p then s.dev else (s.dev.dropHeld i).dropNoRoute p E_FAB_NO_ROUTE) = t) :
        answers (.noRouteHold i) s t :=
      answers_act (exec_noRouteHold i s) rfl hl (by rwa [hi])
    exact ⟨fun h => ⟨returned (if_pos h), waited (if_pos h)⟩,
      fun h => ⟨returned (if_neg (Bool.eq_false_iff.mp h)), waited (if_neg (Bool.eq_false_iff.mp h))⟩⟩
  case flits =>
    intro port pair seq symbols ok flit hp
    have answered {d : Dev} (hd : s.dev.portFlit port pair seq symbols ok flit = d) :
        answers (.portFlitReceive port seq ⟨pair, symbols⟩ ok flit) s d :=
      answers_act (exec_portFlitReceive port seq ⟨pair, symbols⟩ ok flit s) (decide_eq_true hp) hl hd
    exact ⟨fun h => answered (Dev.portFlit_down _ _ _ _ _ _ _ h),
      fun e f hpair hup hidle => ⟨_, answered rfl, s.dev.portFlit_effect seq symbols ok flit hpair hup hidle⟩⟩
  case credits =>
    intro link vc cls n hlink
    have answered {d : Dev} (hd : s.dev.linkCredit link vc cls n = d) : answers (.linkCredit link vc cls n) s d :=
      answers_act (exec_linkCredit link vc cls n s) hlink hl hd
    refine ⟨fun c hc => ?_, fun p hp => ?_, fun k hk => ?_⟩
    all_goals
      subst link
      exact answered rfl
  case returns =>
    have own {d : Dev} (hd : s.dev.creditReturn (.port p) 0 = d) := answers_creditReturn hl hp (by decide) hd
    have neighbour {d : Dev} (hd : s.dev.creditReturn (.port p) 1 = d) := answers_creditReturn hl hp (by decide) hd
    exact ⟨fun hh hq => own ((Dev.creditReturn_own p).trans (if_pos (by rw [hh, hq]; rfl))),
      fun hh hu => neighbour ((Dev.creditReturn_neighbour p).trans (if_pos (by rw [hh, hu]; rfl))),
      fun hh => own ((Dev.creditReturn_own p).trans (if_neg (by simp [hh]))),
      fun hh => neighbour ((Dev.creditReturn_neighbour p).trans (if_neg (by simp [hh])))⟩
  case audits =>
    have heard {d : Dev} (hd : s.dev.auditHeard link peer = d) : answers (.audit link peer) s d :=
      answers_act (exec_audit link peer s) hlink hl hd
    refine ⟨fun hs ha hd => ?_, fun hd => ?_, fun ha => ⟨fun h => heard ?_, fun h => heard ?_⟩⟩
    · exact answers_act (exec_creditAudit link s) hlink hl (if_pos (Dev.mayAudit_serving hs ha hd))
    · exact answers_act (exec_creditAudit link s) hlink hl (if_neg (by simp [Dev.mayAudit_audited hd]))
    · exact (if_pos ha).trans (if_pos h)
    · exact (if_pos ha).trans (if_neg (Bool.eq_false_iff.mp h))
  case query => exact answers_act (exec_routeQuery port v s) (decide_eq_true hp) hl rfl

end Sys2Proof.Machine
end

section
/-! Laser supply and wavelengths (R366–R371, R374–R376): the levels of an input, what a notice leaves of the fibres, and the slot that
a failing wavelength gives up. -/

namespace Sys2Proof.Machine

/-! ### Levels of an input (R366) -/

section

variable {g : Engine} {i : Nat} {pwr : Int}

theorem Engine.isLow_of_lt (h : pwr < g.level i - 15) : g.isLow i pwr = true := decide_eq_true h
theorem Engine.isLow_of_ge (h : g.level i - 15 ≤ pwr) : g.isLow i pwr = false := decide_eq_false (by omega)
theorem Engine.isLost_of_lt (h : pwr < g.level i - 30) : g.isLost i pwr = true := decide_eq_true h
theorem Engine.isLost_of_ge (h : g.level i - 30 ≤ pwr) : g.isLost i pwr = false := decide_eq_false (by omega)

end

/-! ### Fibres of an engine -/

section

variable (s : Dev) (e : Nat)

theorem Dev.fib_modFib_ne {f k : Nat} (g : Fibre → Fibre) (h : k ≠ f) : (s.modFib e f g).fib e k = s.fib e k := by
  simp [Dev.fib, Dev.modFib, h]

/-- A change of an engine that keeps its fibres. -/
theorem Dev.fib_modEng {f : Engine → Engine} (h : (f (s.eng e)).fibs = (s.eng e).fibs) (k : Nat) :
    (s.modEng e f).fib e k = s.fib e k := by
  rw [Dev.fib, Dev.eng_modEng, h, Dev.fib]

/-- A change of a fibre is none of its engine's own state. -/
theorem Dev.window_modFib (f : Nat) (g : Fibre → Fibre) : ((s.modFib e f g).eng e).window = (s.eng e).window := by
  rw [Dev.modFib, Dev.eng_modEng]

end

/-! ### Notices (R368) -/

section

variable (s : Dev) (e : Nat) (fibres : BitVec 8)

/-- R368: the fibres that a notice names have lost the neighbour's light. -/
def Dev.noticed : Dev := s.fold ((List.range 8).filter (fibres.getLsbD ·)) fun s f => s.modFib e f fun b => { b with rxLost := true }

/-- R368: a qualification window stays open only while a silence is unexplained. -/
def Dev.windowKept : Dev := s.modEng e fun g => { g with window := g.window && s.unexplained e }

theorem Dev.noticed_rxLost {k : Nat} (hk : k < 8) : ((s.noticed e fibres).fib e k).rxLost = (fibres.getLsbD k || (s.fib e k).rxLost) := by
  cases hb : fibres.getLsbD k with
  | true =>
    have hmem : k ∈ (List.range 8).filter (fibres.getLsbD ·) := List.mem_filter.mpr ⟨List.mem_range.mpr hk, hb⟩
    rw [Bool.true_or]
    exact Dev.fold_once (P := fun _ => True) (Q := fun d => (d.fib e k).rxLost = true) hmem (List.nodup_range.filter _)
      (fun _ _ _ => id) (fun d _ => by rw [Dev.fib_modFib]) (fun f hf d h => by rwa [d.fib_modFib_ne e _ (Ne.symm hf)]) trivial
  | false =>
    rw [Bool.false_or]
    refine Dev.fold_holds (P := fun d => (d.fib e k).rxLost = (s.fib e k).rxLost) (fun f hf d h => ?_) rfl
    have hne : k ≠ f := fun hkf => Bool.false_ne_true (hb.symm.trans (hkf ▸ (List.mem_filter.mp hf).2))
    rwa [d.fib_modFib_ne e _ hne]

theorem Dev.noticed_window : ((s.noticed e fibres).eng e).window = (s.eng e).window :=
  Dev.fold_keeps (fun d => (d.eng e).window) (fun d f => d.window_modFib e f _) s _

theorem Dev.windowKept_fib (k : Nat) : (s.windowKept e).fib e k = s.fib e k := s.fib_modEng e rfl k

theorem Dev.windowKept_window : ((s.windowKept e).eng e).window = ((s.eng e).window && (s.windowKept e).unexplained e) := by
  simp only [Dev.unexplained, Dev.windowKept_fib]
  rw [Dev.windowKept, Dev.eng_modEng]
  rfl

end

/-! ### A wavelength of a fibre (R371, R375) -/

section

variable (f : Fibre) (dir : Nat)

@[simp] theorem Fibre.active_setActive (v : BitVec 16) : (f.setActive dir v).active dir = v := by
  by_cases h : dir = 0 <;> simp [Fibre.setActive, Fibre.active, h]
@[simp] theorem Fibre.failed_setActive (v : BitVec 16) (i : Nat) : (f.setActive dir v).failed i = f.failed i := by
  by_cases h : dir = 0 <;> simp [Fibre.setActive, Fibre.failed, h]
@[simp] theorem Fibre.active_setFailed (v : BitVec 16) (i : Nat) : (f.setFailed dir v).active i = f.active i := by
  by_cases h : dir = 0 <;> simp [Fibre.setFailed, Fibre.active, h]
@[simp] theorem Fibre.failed_setFailed (v : BitVec 16) : (f.setFailed dir v).failed dir = v := by
  by_cases h : dir = 0 <;> simp [Fibre.setFailed, Fibre.failed, h]
@[simp] theorem Fibre.active_swapped (i : Nat) : (f.swapped dir).active i = f.active i := by
  by_cases h : dir = 0 <;> simp [Fibre.swapped, Fibre.active, h]
@[simp] theorem Fibre.failed_swapped (i : Nat) : (f.swapped dir).failed i = f.failed i := by
  by_cases h : dir = 0 <;> simp [Fibre.swapped, Fibre.failed, h]

@[simp] theorem Fibre.active_fail (lam : Nat) : (f.fail dir lam).active dir = clearBit (f.active dir) lam := by simp [Fibre.fail]
@[simp] theorem Fibre.failed_fail (lam : Nat) : (f.fail dir lam).failed dir = setBit (f.failed dir) lam := by simp [Fibre.fail]

/-- R375: the slot of a failing wavelength moves to another. -/
def Fibre.moveSlot (lam n : Nat) : Fibre :=
  let b := (f.fail dir lam).swapped dir
  b.setActive dir (setBit (b.active dir) n)

@[simp] theorem Fibre.active_moveSlot (lam n : Nat) : (f.moveSlot dir lam n).active dir = setBit (clearBit (f.active dir) lam) n := by
  simp [Fibre.moveSlot]
@[simp] theorem Fibre.failed_moveSlot (lam n : Nat) : (f.moveSlot dir lam n).failed dir = setBit (f.failed dir) lam := by
  simp [Fibre.moveSlot]

/-- R371: the wavelength carries no slot and has not failed. -/
def Fibre.free (l : Nat) : Bool := !(f.active dir).getLsbD l && !(f.through dir).getLsbD l && !(f.failed dir).getLsbD l

theorem Fibre.free_eq_false (l : Nat) :
    f.free dir l = false ↔ (f.active dir).getLsbD l = true ∨ (f.through dir).getLsbD l = true ∨ (f.failed dir).getLsbD l = true := by
  simp only [Fibre.free, Bool.and_eq_false_iff, Bool.not_eq_false', or_assoc]

/-- R371: the first spare is the lowest free wavelength. -/
theorem Fibre.spares_head {f : Fibre} {dir n : Nat} {t : List Nat} (h : f.spares dir = n :: t) :
    n < 16 ∧ f.free dir n = true ∧ ∀ m, m < n → f.free dir m = false := by
  have hfind : (List.range 16).find? (f.free dir) = some n := by
    rw [← List.head?_filter]
    have hhead := congrArg List.head? h
    rwa [Fibre.spares, List.head?_take, if_neg (by decide)] at hhead
  obtain ⟨hfree, hmem, hlow⟩ := List.find?_range_eq_some.mp hfind
  exact ⟨List.mem_range.mp hmem, hfree, fun m hm => by simpa using hlow m hm⟩

end

/-! ### A slot moves or is dropped (R375, R376) -/

section

variable {β : Type} {g : Dev → β} (s : Dev)

theorem Dev.replayPort_keeps (he : ∀ s v, g { s with evc := v } = g s) (ho : ∀ s v, g { s with outbox := v } = g s) (p : Nat) :
    g (s.replayPort p) = g s := by
  unfold Dev.replayPort
  split
  · rfl
  · exact (Dev.fold_keeps g (fun d k => ho d _) _ _).trans (Dev.countPort_keeps he _ _ _ _ _)

theorem Dev.repaired_fab (code : Code) (unit : Nat) (d : Word) : (s.repaired code unit d).fab = s.fab := by
  unfold Dev.repaired Dev.report
  split
  · exact Dev.eventAll_keeps (g := Dev.fab) _ (fun _ _ => rfl) (fun _ _ => rfl) _ _ _ _ _
  · rfl

variable {s} {l : LambdaRef} (h : (s.fib l.eng l.fib).neighbour l.dir l.lam = true)
include h

theorem Dev.fib_swapSlot_moved {n : Nat} {t : List Nat} (hs : (s.fib l.eng l.fib).spares l.dir = n :: t) :
    (s.swapSlot l).fib l.eng l.fib = (s.fib l.eng l.fib).moveSlot l.dir l.lam n := by
  have hfab : (s.swapSlot l).fab = (s.modFib l.eng l.fib fun b => b.moveSlot l.dir l.lam n).fab := by
    simp only [Dev.swapSlot, h, hs, Bool.not_true, Bool.false_eq_true, if_false]
    rw [Dev.repaired_fab, Dev.replayPort_keeps (g := Dev.fab) _ (fun _ _ => rfl) fun _ _ => rfl, Dev.out_fab, Dev.count_fab]
    rfl
  rw [Dev.fib_of_engs (congrArg Fabric.engs hfab), Dev.fib_modFib]

theorem Dev.fib_swapSlot_dropped (hs : (s.fib l.eng l.fib).spares l.dir = []) :
    (s.swapSlot l).fib l.eng l.fib = (s.fib l.eng l.fib).fail l.dir l.lam := by
  have hfab : (s.swapSlot l).fab = (s.modFib l.eng l.fib fun b => b.fail l.dir l.lam).fab := by
    simp only [Dev.swapSlot, h, hs, Bool.not_true, Bool.false_eq_true, if_false]
    rw [Dev.logE_fab, Dev.replayPort_keeps (g := Dev.fab) _ (fun _ _ => rfl) fun _ _ => rfl]
  rw [Dev.fib_of_engs (congrArg Fabric.engs hfab), Dev.fib_modFib]

end

/-! ### The commands -/

section

variable {s : State} {e i : Nat} {pwr : Int} (hl : s.dev.live = true) (he : e < 14) (hi : i < 2) (ht : s.dev.engThere e = true)
include hl he hi ht

theorem answers_laserLow :
    ((s.dev.eng e).input i = .ok → pwr < (s.dev.eng e).level i - 15 → answers (.laserLow e i pwr) s
      ((s.dev.modEng e fun g => { g.setInput i .low (g.against i pwr) with cause := E_ENG_LASER_LOW }).logE E_ENG_LASER_LOW e)) ∧
    ((s.dev.eng e).level i - 15 ≤ pwr → answers (.laserLow e i pwr) s s.dev) := by
  have answered {d : Dev} := answers_act (d := d) (exec_laserLow e i pwr s) (by simp [he, hi]) hl
  exact ⟨fun hok hp => answered (if_neg (by simp [ht, hok, Engine.isLow_of_lt hp])),
    fun hp => answered (if_pos (by simp [Engine.isLow_of_ge hp]))⟩

theorem answers_laserLost :
    ((s.dev.eng e).input i ≠ .lost → pwr < (s.dev.eng e).level i - 30 → answers (.laserLost e i pwr) s (s.dev.laserLost e i pwr)) ∧
    ((s.dev.eng e).level i - 30 ≤ pwr → answers (.laserLost e i pwr) s s.dev) ∧
    ((s.dev.eng e).input i = .lost → answers (.laserLost e i pwr) s s.dev) := by
  have answered {d : Dev} := answers_act (d := d) (exec_laserLost e i pwr s) (by simp [he, hi]) hl
  exact ⟨fun hin hp => answered (if_neg (by simp [ht, hin, Engine.isLost_of_lt hp])),
    fun hp => answered (if_pos (by simp [Engine.isLost_of_ge hp])), fun hin => answered (if_pos (by simp [hin]))⟩

theorem answers_laserRecover :
    ((s.dev.eng e).input i = .lost → (s.dev.eng e).level i - 15 ≤ pwr →
      answers (.laserRecover e i pwr) s (s.dev.modEng e fun g => g.setInput i .recalibrating (g.against i pwr))) ∧
    ((s.dev.eng e).input i = .low → (s.dev.eng e).level i - 15 ≤ pwr →
      answers (.laserRecover e i pwr) s (s.dev.modEng e fun g => g.setInput i .ok (g.against i pwr))) ∧
    (pwr < (s.dev.eng e).level i - 15 → answers (.laserRecover e i pwr) s s.dev) := by
  have answered {d : Dev} := answers_act (d := d) (exec_laserRecover e i pwr s) (by simp [he, hi]) hl
  refine ⟨fun hin hp => answered ?_, fun hin hp => answered ?_, fun hp => answered (if_pos (by simp [Engine.isLow_of_lt hp]))⟩
  all_goals
    refine (if_neg (by simp [ht, Engine.isLow_of_ge hp])).trans ?_
    rw [hin]

end

/-- R371, R375: what becomes of a failing neighbour slot. -/
theorem Dev.swapSlot_effect {d : Dev} {l : LambdaRef} (hlam : l.lam < 16)
    (h : (d.fib l.eng l.fib).neighbour l.dir l.lam = true) :
    let f := d.fib l.eng l.fib
    let f' := (d.swapSlot l).fib l.eng l.fib
    (f'.active l.dir).getLsbD l.lam = false ∧ (f'.failed l.dir).getLsbD l.lam = true ∧
    (∀ n t, f.spares l.dir = n :: t →
      (f'.active l.dir).getLsbD n = true ∧ (f.active l.dir).getLsbD n = false ∧ (f.failed l.dir).getLsbD n = false ∧
      (∀ m, m < n → (f.active l.dir).getLsbD m = true ∨ (f.through l.dir).getLsbD m = true ∨ (f.failed l.dir).getLsbD m = true)) ∧
    (f.spares l.dir = [] → ∀ m, m ≠ l.lam → (f'.active l.dir).getLsbD m = (f.active l.dir).getLsbD m) := by
  intro f f'
  have hactive : (f.active l.dir).getLsbD l.lam = true := (Bool.and_eq_true_iff.mp h).1
  cases hs : f.spares l.dir with
  | nil =>
    have hf' : f' = f.fail l.dir l.lam := Dev.fib_swapSlot_dropped h hs
    refine ⟨?_, ?_, nofun, fun _ m hm => ?_⟩
    · rw [hf', Fibre.active_fail, getLsbD_clearBit _ _ hlam, bne_self_eq_false, Bool.and_false]
    · rw [hf', Fibre.failed_fail, getLsbD_setBit _ _ hlam, decide_eq_true rfl, Bool.true_or]
    · rw [hf', Fibre.active_fail]
      rcases Nat.lt_or_ge m 16 with h16 | h16
      · rw [getLsbD_clearBit _ _ h16, bne_iff_ne.mpr hm, Bool.and_true]
      · rw [BitVec.getLsbD_of_ge _ _ h16, BitVec.getLsbD_of_ge _ _ h16]
  | cons n t =>
    have hf' : f' = f.moveSlot l.dir l.lam n := Dev.fib_swapSlot_moved h hs
    obtain ⟨hn, hfree, hlow⟩ := Fibre.spares_head hs
    simp only [Fibre.free, Bool.and_eq_true, Bool.not_eq_true'] at hfree
    obtain ⟨⟨hidle, -⟩, hsound⟩ := hfree
    have hne : l.lam ≠ n := fun hln => Bool.false_ne_true (hidle.symm.trans (hln ▸ hactive))
    refine ⟨?_, ?_, ?_, nofun⟩
    · rw [hf', Fibre.active_moveSlot, getLsbD_setBit _ _ hlam, getLsbD_clearBit _ _ hlam, bne_self_eq_false, Bool.and_false, Bool.or_false,
        decide_eq_false hne]
    · rw [hf', Fibre.failed_moveSlot, getLsbD_setBit _ _ hlam, decide_eq_true rfl, Bool.true_or]
    · rintro _ _ ⟨rfl, rfl⟩
      refine ⟨?_, hidle, hsound, fun m hm => ?_⟩
      · rw [hf', Fibre.active_moveSlot, getLsbD_setBit _ _ hn, decide_eq_true rfl, Bool.true_or]
      · exact (Fibre.free_eq_false f l.dir m).mp (hlow m hm)

/-- Settles O50: an input by its level, a notice by the fibres that it names, a wavelength by whether its fibre has a spare. -/
theorem laserSupplyAndWavelengths : Obligations.LaserSupplyAndWavelengths := by
  refine ⟨fun s e f i pwr hl he hf hi ht => ?commands, fun d l hok => ?slot⟩
  case commands =>
    intro g
    obtain ⟨low, notLow⟩ := answers_laserLow (pwr := pwr) hl he hi ht
    obtain ⟨lost, notLost, lostBefore⟩ := answers_laserLost (pwr := pwr) hl he hi ht
    obtain ⟨recalibrates, recovers, stillLow⟩ := answers_laserRecover (pwr := pwr) hl he hi ht
    refine ⟨low, notLow, lost, notLost, fun hin => ⟨lostBefore hin, recalibrates hin⟩, recovers, stillLow, fun hin => ?recal,
      fun fibres => ?notice, fun hr hs => ?probe, fun l hok hle => ⟨fun h => ?swap, fun h => ?noSwap, ?through⟩⟩
    case recal =>
      exact answers_act (exec_laserRecalDone e i s) (by simp [he, hi]) hl (if_neg (by simp [ht, show (s.dev.eng e).input i = _ from hin]))
    case notice =>
      refine ⟨(s.dev.noticed e fibres).windowKept e, answers_act (exec_laserNotice e fibres s) (decide_eq_true he) hl ?_,
        fun k hk => ?_, ?_⟩
      · exact if_neg (by rw [ht]; exact Bool.false_ne_true)
      · rw [Dev.windowKept_fib, Dev.noticed_rxLost _ _ _ hk]
      · rw [Dev.windowKept_window, Dev.noticed_window]
    case probe =>
      refine answers_act (exec_continuousCalibration e f s) (by simp [he, hf]) hl (if_neg ?_)
      rw [ht, hs, show (s.dev.eng e).inReset = false from hr]
      exact Bool.false_ne_true
    case swap => exact answers_act (exec_lambdaSwap l s) hok hl (if_neg (by rw [hle, h]; exact Bool.false_ne_true))
    case noSwap => exact answers_act (exec_lambdaSwap l s) hok hl (if_pos (by rw [h, Bool.not_false, Bool.or_true]))
    case through => exact answers_act (exec_throughFail l s) hok hl (if_pos hle)
  case slot =>
    simp only [LambdaRef.ok, Bool.and_eq_true, decide_eq_true_eq] at hok
    exact Dev.swapSlot_effect hok.2

end Sys2Proof.Machine
end

section
/-! Training, discovery and the control bits of a port (R368, R378–R381, R385, R387–R389, R397). -/

namespace Sys2Proof.Machine

/-! ### A missing neighbour (R381) -/

section

variable {s : Dev} {p : Nat} (hn : (s.fport p).nbr = none) (hst : (s.fport p).st = .training) (hload : s.img.loaded.isSome = true)
include hn hst hload

/-- R381: a port that still trains, with no IDENT heard, is compared with the plan. -/
theorem Dev.portMissing_training :
    s.portMissing p =
      if s.portUnused p then s.modFport p fun t => { t with st := .unused }
      else (s.modFport p fun t => { t with st := .noNeighbour, cause := E_PORT_MISSING }).logE E_PORT_MISSING p :=
  (if_neg (by simp [hn, hst])).trans (if_neg (by simp [Option.isNone_eq_false_iff.mpr hload]))

end

/-! ### The control bits of a port (R397) -/

/-- R397: a write of a control bit acts on the port that PORT_SEL selects. -/
theorem answers_portControl {c : Instr} {s : State} {d : Dev} {p : Nat} (f : Dev → Nat → Dev)
    (he : exec c s = act c (fun s => s.portSel.elim s fun p => f s p) s) (hc : c.wf = true) (hl : s.dev.live = true)
    (hsel : s.dev.portSel = some p) (hd : f s.dev p = d) : answers c s d := by
  refine answers_act he hc hl ?_
  rwa [hsel]

/-! ### The commands -/

/-- Settles O51: each command by the branch that the port, the engine or the fibre chooses; a control bit acts on the port selected. -/
theorem portsTrainAndDiscover : Obligations.PortsTrainAndDiscover := by
  intro s e f p hl he hf hp
  have hpair : (decide (e < 14) && decide (f < 8)) = true := by simp [he, hf]
  have heng : decide (e < 14) = true := decide_eq_true he
  have hport : decide (p < 6) = true := decide_eq_true hp
  refine ⟨fun failed hc h => ?trained, fun m => ⟨fun h => ?heard, fun h => ?deaf⟩, fun h => ?resend, fun h => ?noResend,
    fun hh h hph => ?retry, fun hn hst hload => ?missing, fun hc => ?heartbeat, fun hw => ?windowEnd, fun hc hq => ?regain,
    fun hc hu ht => ?idle, fun engines => answers_act (exec_withdraw p engines s) hport hl rfl, fun hsel => ?control⟩
  case trained =>
    refine answers_act (exec_fibrePairTrained e f failed s) hpair hl (if_pos ?_)
    rcases h with h | ⟨hrx, htx⟩
    · rw [hc, h]
      rfl
    · rw [hc, hrx, htx, Bool.not_false, Bool.and_self, Bool.or_true, Bool.and_self]
  case heard => exact answers_act (exec_ident e f m s) hpair hl (if_pos h)
  case deaf => exact answers_act (exec_ident e f m s) hpair hl (if_neg (Bool.eq_false_iff.mp h))
  case resend => exact answers_act (exec_identResend p s) hport hl (if_neg (by simpa using h))
  case noResend => exact answers_act (exec_identResend p s) hport hl (if_pos (beq_iff_eq.mpr h))
  case retry =>
    refine answers_act (exec_trainingRetry p s) hport hl (if_pos ?_)
    rcases h with h | h | h <;> simp [h, hh, hph]
  case missing =>
    have answered {d : Dev} (hd : s.dev.portMissing p = d) := answers_act (exec_portMissing p s) hport hl hd
    exact ⟨fun h => answered ((Dev.portMissing_training hn hst hload).trans (if_pos h)),
      fun h => answered ((Dev.portMissing_training hn hst hload).trans (if_neg (Bool.eq_false_iff.mp h)))⟩
  case heartbeat => exact answers_act (exec_heartbeatWdog e f s) hpair hl (if_pos hc)
  case windowEnd => exact answers_act (exec_qualificationWindowEnd e s) heng hl (if_neg (by simp [hw]))
  case regain => exact answers_act (exec_signalRegain e s) heng hl (if_pos (by simp [hc, hq]))
  case idle => exact answers_actIf (exec_idleControlFlit e f s) hpair hl (if_pos (by rw [hc, hu, ht]; rfl))
  case control =>
    have retrain {d : Dev} := answers_portControl (d := d) Dev.ctlRetrain (exec_portRetrain s) rfl hl hsel
    have rediscover {d : Dev} := answers_portControl (d := d) Dev.ctlRediscover (exec_portRediscover s) rfl hl hsel
    have withdraw {d : Dev} := answers_portControl (d := d) Dev.ctlWithdraw (exec_portWithdraw s) rfl hl hsel
    refine ⟨fun on => ?locate, fun hh => ?free, fun hh => ?held, fun hst hph => ?restore⟩
    case locate => exact answers_portControl (fun s p => s.ctlLocate p on) (exec_portLocate on s) rfl hl hsel rfl
    case free =>
      have hfree : ¬ (s.dev.fport p).heldBySw = true := Bool.eq_false_iff.mp hh
      exact ⟨fun hlost => retrain ((if_neg hfree).trans (if_neg (Bool.eq_false_iff.mp hlost))),
        fun hlost => retrain ((if_neg hfree).trans (if_pos hlost)), rediscover (if_neg hfree), withdraw (if_neg hfree)⟩
    case held => exact ⟨retrain (if_pos hh), rediscover (if_pos hh), withdraw (if_pos hh)⟩
    case restore =>
      exact answers_portControl Dev.ctlRestore (exec_portRestore s) rfl hl hsel (if_neg (by simp [hst, hph]))

end Sys2Proof.Machine
end

section
/-! Circuits that break and come back (R414–R417, R432) and the timers of the combining entries (R503, R506, R507). -/

namespace Sys2Proof.Machine

/-! ### Circuits come back (R416, R417) -/

section

variable {s : Dev} {n : Nat}

theorem Dev.cktRestore_dark (h : s.cktLit n = false) : s.cktRestore n = s :=
  if_pos (by rw [h, Bool.not_false])

section

variable (hlit : s.cktLit n = true)
include hlit

theorem Dev.cktRestore_training (hst : (s.ckt n).st = .training) :
    s.cktRestore n = s.modCkt n fun k => { k with st := .up } := by
  simp only [Dev.cktRestore, hlit, hst, Bool.not_true, Bool.false_eq_true, if_false]

/-- R417: the launching end first waits for the acknowledgements of its fallback flits. -/
theorem Dev.cktRestore_broken (hst : (s.ckt n).st = .broken) :
    s.cktRestore n =
      if n < 8 then s.modCkt n fun k => { k with st := .returning }
      else (s.modCkt n fun k => { k with st := .up }).logE E_FAB_CKT_RESTORE n := by
  simp only [Dev.cktRestore, hlit, hst, Bool.not_true, Bool.false_eq_true, if_false]

end

end

/-! ### Detuning (R384, R409, R414) -/

/-- R414: detuning changes engines; the circuits were broken by the BREAK before it. -/
theorem Dev.detuneNow_ckts (s : Dev) : s.detuneNow.fab.ckts = s.fab.ckts :=
  Dev.fold_keeps (·.fab.ckts) (fun s e => Dev.modEng_fab_ckts s e _) s _

/-! ### Combining entries (R506, R507) -/

/-- R595: a device reset goes on only from the wait of R507. -/
theorem Dev.resetGo_of_not_flushing {s : Dev} (h : s.rcv.flushing = false) : s.resetGo = s :=
  if_pos (by rw [h, Bool.not_false, Bool.true_or, Bool.true_or])

/-- R506: an entry whose answer does not come is freed, logged and counted. -/
theorem Dev.combStale_awaiting {s : Dev} {e : Nat} {c : Comb} (hc : s.comb e = some c) (ha : c.awaiting = true)
    (hf : s.rcv.flushing = false) :
    s.combStale e =
      let d := (s.setComb e none).logE E_AXA_COMB_STALE e
      { d with axa := { d.axa with stale := sat8 d.axa.stale } } := by
  rw [Dev.combStale, hc]
  exact (if_pos ha).trans (Dev.resetGo_of_not_flushing hf)

/-! ### The commands -/

/-- Settles O49: each command by the state of its circuit, by its light or by its combining entry. -/
theorem circuitsAndCombiningTimers : Obligations.CircuitsAndCombiningTimers := by
  intro s n e hl hn he
  have hckt : decide (n < 16) = true := decide_eq_true hn
  have hcomb : decide (e < 16384) = true := decide_eq_true he
  refine ⟨answers_act (exec_breakNotice n s) hckt hl rfl, fun hst => ?silent, fun hst => ?silentTraining, fun hd => ?detune,
    fun hlit => ⟨fun hst => ?trained, fun hst => ⟨fun hlaunch => ?launching, fun hrecv => ?receiving⟩⟩, fun hdark => ?dark,
    fun hst hun => ?returns, fun hun => ?fallback, answers_act (exec_combiningFlush e s) hcomb hl rfl, fun c hc ha hf => ?stale,
    fun hclosed => ?waitEnd⟩
  case silent => exact answers_act (exec_circuitHeartbeatWdog n s) hckt hl (if_pos (.inl hst))
  case silentTraining => exact answers_act (exec_circuitHeartbeatWdog n s) hckt hl (if_neg (by simp [hst]))
  case detune => exact ⟨s.dev.detuneNow, answers_act (exec_detune s) rfl hl (if_pos hd), rfl, Dev.detuneNow_ckts _⟩
  case trained => exact answers_act (exec_circuitRestore n s) hckt hl (Dev.cktRestore_training hlit hst)
  case launching =>
    exact answers_act (exec_circuitRestore n s) hckt hl ((Dev.cktRestore_broken hlit hst).trans (if_pos hlaunch))
  case receiving =>
    exact answers_act (exec_circuitRestore n s) hckt hl ((Dev.cktRestore_broken hlit hst).trans (if_neg (Nat.not_lt.mpr hrecv)))
  case dark => exact answers_act (exec_circuitRestore n s) hckt hl (Dev.cktRestore_dark hdark)
  case returns => exact answers_act (exec_circuitReturn n s) hckt hl (if_pos ⟨hst, hun⟩)
  case fallback => exact answers_act (exec_circuitReturn n s) hckt hl (if_neg fun h => hun h.2)
  case stale => exact answers_act (exec_combiningStale e s) hcomb hl (Dev.combStale_awaiting hc ha hf)
  case waitEnd => exact answers_act (exec_combiningFlushWaitEnd s) rfl hl (if_pos hclosed)

end Sys2Proof.Machine
end

section
/-! Requests at their target (R440, R446, R450–R452, R462–R464, R492, R503, R647): which of them reach the ingress, and the checks
there, one lemma for each way in which a request can go. -/

namespace Sys2Proof.Machine

/-! ### The ingress (R440, R452, R503) -/

section

variable {s : Dev} {p : Packet} {k : PKind}

theorem Dev.request_here (hk : p.kind = k) (h : s.forMe p = true) :
    s.request k p = (s.arrived p).countAccept ((s.arrived p).acceptReq p) :=
  if_pos ⟨hk, h⟩

theorem Dev.request_elsewhere (h : s.forMe p = false) : s.request k p = s := if_neg (by simp [h])

theorem Dev.accumulateAt_here (hk : p.kind = .accumulate) (h : s.forMe p = true) :
    s.accumulateAt p =
      let r := (s.arrived p).combine p ((s.arrived p).chanFlits p.addr.toNat)
      if r.2 then r.1.countAccept (r.1.acceptReq p) else r.1 :=
  if_pos ⟨hk, h⟩

theorem Dev.accumulateAt_elsewhere (h : s.forMe p = false) : s.accumulateAt p = s := if_neg (by simp [h])

end

/-- R440, R452: what a request packet of one kind does here and elsewhere. -/
theorem answers_request {c : Instr} {s : State} {p : Packet} {k : PKind} (hl : s.dev.live = true)
    (he : exec c s = act c (fun s => s.request k p) s) (hc : c.wf = true) (hk : p.kind = k) :
    (s.dev.forMe p = true → answers c s ((s.dev.arrived p).countAccept ((s.dev.arrived p).acceptReq p))) ∧
      (s.dev.forMe p = false → answers c s s.dev) :=
  ⟨fun h => answers_act he hc hl (Dev.request_here hk h), fun h => answers_act he hc hl (Dev.request_elsewhere h)⟩

/-- Settles O36: a request by whether it is addressed here, an accumulate packet also by whether the hub combines it. -/
theorem requestsReachTheIngress : Obligations.RequestsReachTheIngress := by
  intro s p hl hok d
  refine ⟨fun c hc => ?request, fun hk => ⟨fun h hpass => ?passed, fun h htaken => ?combined, fun h => ?elsewhere⟩⟩
  case request =>
    simp only [List.mem_cons, Prod.mk.injEq, List.not_mem_nil, or_false] at hc
    rcases hc with ⟨rfl, hk⟩ | ⟨rfl, hk⟩ | ⟨rfl, hk⟩ | ⟨rfl, hk⟩ | ⟨rfl, hk⟩ | ⟨rfl, hk⟩ | ⟨rfl, hk⟩ | ⟨rfl, hk⟩
    · exact answers_request hl (exec_load p s) hok hk
    · exact answers_request hl (exec_store p s) hok hk
    · exact answers_request hl (exec_fetchAdd p s) hok hk
    · exact answers_request hl (exec_swap p s) hok hk
    · exact answers_request hl (exec_compareSwap p s) hok hk
    · exact answers_request hl (exec_syncAdd p s) hok hk
    · exact answers_request hl (exec_copyRead p s) hok hk
    · exact answers_request hl (exec_copyWrite p s) hok hk
  case passed =>
    exact answers_act (exec_accumulate p s) hok hl ((Dev.accumulateAt_here hk h).trans (if_pos hpass))
  case combined =>
    exact answers_act (exec_accumulate p s) hok hl ((Dev.accumulateAt_here hk h).trans (if_neg (by simp [d, htaken])))
  case elsewhere => exact answers_act (exec_accumulate p s) hok hl (Dev.accumulateAt_elsewhere h)

/-! ### The access itself (R446, R450 checks 3 to 8) -/

section

variable {s : Dev} {n : Nat} {p : Packet}

theorem Dev.accessBad_unreachable (h : s.reachable p = false) : s.accessBad n p = some E_RA_RANGE := if_pos (by simp [h])

variable (hreach : s.reachable p = true)
include hreach

theorem Dev.accessBad_noRegion (h : s.regionOf p.addr.toNat (accessSize p) = none) : s.accessBad n p = some E_RA_NO_REGION := by
  rw [Dev.accessBad, if_neg (by simp [hreach]), h]

variable {r : Region} (hr : s.regionOf p.addr.toNat (accessSize p) = some r)
include hr

/-- R450 checks 5 to 8: what the region that holds the access says of it. -/
theorem Dev.accessBad_inRegion :
    s.accessBad n p =
      if r.ctx ≠ n ∨ r.gen ≠ (s.ctx n).gen then some E_RA_REGION_STALE
      else if r.key ≠ p.key then some E_RA_KEY
      else if !permits r.perm p.kind then some E_RA_PERM
      else if !s.ctrOk r p.addr.toNat then some E_RA_PART
      else if p.kind ≠ .accumulate then none
      else s.axaBad p := by
  rw [Dev.accessBad, if_neg (by simp [hreach]), hr]

theorem Dev.accessBad_stale (h : r.ctx ≠ n ∨ r.gen ≠ (s.ctx n).gen) : s.accessBad n p = some E_RA_REGION_STALE :=
  (Dev.accessBad_inRegion hreach hr).trans (if_pos h)

variable (hctx : r.ctx = n) (hgen : r.gen = (s.ctx n).gen)
include hctx hgen

theorem Dev.accessBad_wrongKey (h : r.key ≠ p.key) : s.accessBad n p = some E_RA_KEY := by
  rw [Dev.accessBad_inRegion hreach hr, if_neg (by simp [hctx, hgen]), if_pos h]

variable (hkey : r.key = p.key)
include hkey

theorem Dev.accessBad_notPermitted (h : permits r.perm p.kind = false) : s.accessBad n p = some E_RA_PERM := by
  rw [Dev.accessBad_inRegion hreach hr, if_neg (by simp [hctx, hgen]), if_neg (not_not_intro hkey), if_pos (by simp [h])]

variable (hperm : permits r.perm p.kind = true)
include hperm

/-- R450 checks 8 and 9: what is left for an access that its region permits. -/
theorem Dev.accessBad_permitted :
    s.accessBad n p =
      if !s.ctrOk r p.addr.toNat then some E_RA_PART else if p.kind ≠ .accumulate then none else s.axaBad p := by
  rw [Dev.accessBad_inRegion hreach hr, if_neg (by simp [hctx, hgen]), if_neg (not_not_intro hkey), if_neg (by simp [hperm])]

theorem Dev.accessBad_foreignCounter (h : s.ctrOk r p.addr.toNat = false) : s.accessBad n p = some E_RA_PART :=
  (Dev.accessBad_permitted hreach hr hctx hgen hkey hperm).trans (if_pos (by simp [h]))

theorem Dev.accessBad_none (h : s.ctrOk r p.addr.toNat = true) (hk : p.kind ≠ .accumulate) : s.accessBad n p = none :=
  (Dev.accessBad_permitted hreach hr hctx hgen hkey hperm).trans ((if_neg (by simp [h])).trans (if_pos hk))

end

/-! ### Deduplication (R462–R464) -/

section

variable {s : Dev} {p : Packet}

/-- R463: the entry of the deduplication table that a request matches; only an atomic looks for one. -/
def Dev.dedupOf (s : Dev) (p : Packet) : Option Dedup :=
  if isAtomic p.kind then s.ra.dedup.find? (·.isOf p) else none

theorem Dev.dedupOf_atomic (h : isAtomic p.kind = true) : s.dedupOf p = s.ra.dedup.find? (·.isOf p) := if_pos h

theorem Dev.dedupOf_plain (h : isAtomic p.kind = false) : s.dedupOf p = none := if_neg (by simp [h])

theorem Dev.dedupOf_unmatched (h : s.ra.dedup.any (·.isOf p) = false) : s.dedupOf p = none := by
  unfold Dev.dedupOf
  split
  · exact List.find?_eq_none.mpr (List.any_eq_false.mp h)
  · rfl

theorem Dev.dedupHit_applied {e : Dedup} {v : Word} (h : e.prior = some v) :
    s.dedupHit e p =
      ({ s with ra := { s.ra with hits := sat16 s.ra.hits } } : Dev).answerPkt p (toBytes 8 v.toNat) 0 E_OK := by
  rw [Dev.dedupHit, h]

theorem Dev.dedupEnter_full (h : 8192 ≤ s.ra.dedup.length) :
    s.dedupEnter p = ({ s with ra := { s.ra with full := sat16 s.ra.full } } : Dev).answerPkt p [] 0 E_RA_DEDUP_FULL :=
  if_pos h

theorem Dev.dedupEnter_room (h : s.ra.dedup.length < 8192) :
    s.dedupEnter p =
      let l := s.ra.dedup ++ [({ srcDev := p.srcDev, ctx := p.ctx, seq := p.seq, job := p.job, prior := none, waiters := [] } : Dedup)]
      ({ s with ra := { s.ra with dedup := l, peak := max s.ra.peak l.length } } : Dev).take (.remote p) p :=
  if_neg (Nat.not_le.mpr h)

end

/-! ### The checks in their order (R450, R451, R463) -/

section

variable {s : Dev} {p : Packet}

/-- R451: a request of the generation in force is neither ahead of it nor behind. -/
theorem Dev.genLag_zero {n : Nat} (h : (s.ctx n).gen = p.gen) : ((s.ctx n).gen - p.gen).toNat = 0 := by simp [h]

theorem Dev.acceptReq_noCtx (h : s.jobCtx p.job = none) : s.acceptReq p = s.refuse p E_RA_NO_CTX := by
  rw [Dev.acceptReq, h]

variable {n : Nat} (hn : s.jobCtx p.job = some n)
include hn

theorem Dev.acceptReq_genAhead (h : 2048 ≤ ((s.ctx n).gen - p.gen).toNat) : s.acceptReq p = s.refuse p E_RA_GEN_AHEAD := by
  rw [Dev.acceptReq, hn]
  exact if_pos h

theorem Dev.acceptReq_genBehind (hne : (s.ctx n).gen ≠ p.gen) (h : ((s.ctx n).gen - p.gen).toNat < 2048) :
    s.acceptReq p = { s with ra := { s.ra with genDrops := sat16 s.ra.genDrops } } := by
  have behind : ((s.ctx n).gen - p.gen).toNat ≠ 0 := fun h0 => hne (by bv_omega)
  rw [Dev.acceptReq, hn]
  exact (if_neg (Nat.not_le.mpr h)).trans (if_pos behind)

variable (hgen : (s.ctx n).gen = p.gen)
include hgen

theorem Dev.acceptReq_dedupHit {e : Dedup} (h : s.dedupOf p = some e) : s.acceptReq p = s.dedupHit e p := by
  rw [Dev.dedupOf] at h
  simp [Dev.acceptReq, hn, Dev.genLag_zero hgen, h]

variable (hnew : s.dedupOf p = none)
include hnew

theorem Dev.acceptReq_refused {code : Code} (h : s.accessBad n p = some code) : s.acceptReq p = s.refuse p code := by
  rw [Dev.dedupOf] at hnew
  simp [Dev.acceptReq, hn, Dev.genLag_zero hgen, hnew, h]

/-- R450, R462: a request that passes every check. -/
theorem Dev.acceptReq_passed (h : s.accessBad n p = none) :
    s.acceptReq p = if isAtomic p.kind then s.dedupEnter p else s.take (.remote (wholeMask p)) (wholeMask p) := by
  rw [Dev.dedupOf] at hnew
  simp [Dev.acceptReq, hn, Dev.genLag_zero hgen, hnew, h]

end

/-- Settles O37: a request by the first check that it fails; an access by the first condition that its region breaks. -/
theorem targetChecks : Obligations.TargetChecks := by
  intro d p
  refine ⟨Dev.acceptReq_noCtx, fun n hn => ⟨Dev.acceptReq_genAhead hn, Dev.acceptReq_genBehind hn, fun hgen => ⟨?applied, ?refused, ?full,
    ?entered, fun hplain => ⟨fun code hbad => ?plainRefused, fun hgood => ?plain⟩⟩⟩,
    fun n => ⟨Dev.accessBad_unreachable, fun hreach => ⟨Dev.accessBad_noRegion hreach, fun r hr => ⟨Dev.accessBad_stale hreach hr,
      fun hctx hg => ⟨Dev.accessBad_wrongKey hreach hr hctx hg, Dev.accessBad_notPermitted hreach hr hctx hg,
        Dev.accessBad_foreignCounter hreach hr hctx hg, Dev.accessBad_none hreach hr hctx hg⟩⟩⟩⟩⟩
  case applied =>
    intro e v hat hfind hv
    exact (Dev.acceptReq_dedupHit hn hgen ((Dev.dedupOf_atomic hat).trans hfind)).trans (Dev.dedupHit_applied hv)
  case refused => exact fun code hat hany hbad => Dev.acceptReq_refused hn hgen (Dev.dedupOf_unmatched hany) hbad
  case full =>
    intro hat hany hgood hlen
    rw [Dev.acceptReq_passed hn hgen (Dev.dedupOf_unmatched hany) hgood, if_pos hat, Dev.dedupEnter_full hlen]
  case entered =>
    intro hat hany hgood hlen
    rw [Dev.acceptReq_passed hn hgen (Dev.dedupOf_unmatched hany) hgood, if_pos hat, Dev.dedupEnter_room hlen]
  case plainRefused => exact Dev.acceptReq_refused hn hgen (Dev.dedupOf_plain hplain) hbad
  case plain => exact (Dev.acceptReq_passed hn hgen (Dev.dedupOf_plain hplain) hgood).trans (if_neg (by simp [hplain]))

end Sys2Proof.Machine
end

section
/-! Answers and failed attempts (R452, R457–R462, R464, R465): which part of the requester an answer reaches, and what an attempt
without an answer comes to, by the kind of its operation. -/

namespace Sys2Proof.Machine

/-! ### A packet that has arrived (R647, R677) -/

section

variable (s : Dev) (p : Packet)

/-- The arrival of a packet touches the counters and the wake-up only. -/
theorem Dev.arrived_keeps {β : Type} {g : Dev → β} (he : ∀ s v, g { s with evc := v } = g s) (hp : ∀ s v, g { s with pow := v } = g s) :
    g (s.arrived p) = g s :=
  (Dev.wakeEvent_keeps _ hp).trans (Dev.when_keeps g _ _ (Dev.count_keeps s he _ _ _ _ _ _))

@[simp] theorem Dev.arrived_ra : (s.arrived p).ra = s.ra := s.arrived_keeps (g := Dev.ra) p (fun _ _ => rfl) fun _ _ => rfl
@[simp] theorem Dev.arrived_mem : (s.arrived p).mem = s.mem := s.arrived_keeps (g := Dev.mem) p (fun _ _ => rfl) fun _ _ => rfl
@[simp] theorem Dev.arrived_ctx (n : Nat) : (s.arrived p).ctx n = s.ctx n := by rw [Dev.ctx, Dev.arrived_ra, Dev.ctx]

end

/-! ### Answers (R452, R458, R462) -/

section

variable {s : Dev} {p : Packet} {c e : Nat} {k : PEntry}

theorem Dev.answered_entry (h : s.answers p = .entry c e k) (code : Code) : s.answered p code = s.entryAnswer c e k p code := by
  rw [Dev.answered, h]

/-- R452, R293: the answer of an operation that is no returning atomic waits at the core's port. -/
theorem Dev.entryAnswer_plain (hgen : k.pkt.gen = (s.ctx k.pkt.ctx).gen) (hat : isAtomic p.ofKind = false) (code : Code) :
    s.entryAnswer c e k p code =
      s.modCore c fun m => { m with replies := m.replies ++ [({ entry := e, data := p.data, poison := p.poison, code } : Reply)] } := by
  rw [Dev.entryAnswer, if_neg (not_not_intro hgen), if_neg (by simp [hat]), hat]
  rfl

theorem Dev.released_arrived_dedup :
    ((s.arrived p).released p).ra.dedup = s.ra.dedup.filter fun e => !(e.isOf p && e.prior.isSome) := by
  rw [Dev.released, Dev.arrived_ra]

theorem Dev.released_arrived_mem : ((s.arrived p).released p).mem = s.mem := s.arrived_mem p

end

/-! ### Attempts without an answer (R457–R460, R464, R465) -/

section

variable {s : Dev} {c e : Nat} {p : PEntry}

/-- R457: the device that has counted a failed attempt. -/
def Dev.attemptFailed (s : Dev) : Dev := { s with ra := { s.ra with timeouts := sat16 s.ra.timeouts } }

/-- R457–R460, R465: what a failed attempt of the generation in force comes to. -/
def Dev.attemptOver (s : Dev) (c e : Nat) (p : PEntry) : Dev :=
  match p.kind with
  | .load _ => if p.orphan then s.freeEnt c e else if p.attempts < 4 then s.retry c e p else s.takeUp c e [] 0 E_RA_TIMEOUT
  | .atomic _ => if p.attempts < 4 then s.retry c e { p with timedOut := true } else s.takeUp c e [] 0 E_RA_INDETERMINATE
  | _ => s.takeUp c e [] 0 E_RA_INDETERMINATE

theorem Dev.attemptTimeout_waiting (hp : s.pent c e = some p) (hremote : p.remote = true) (hsent : p.sent = true)
    (hreply : (s.core c).replies.any (·.entry == e) = false) (hgen : p.pkt.gen = (s.ctx p.pkt.ctx).gen) :
    s.attemptTimeout c e = s.attemptFailed.attemptOver c e p := by
  rw [Dev.attemptTimeout, hp]
  exact (if_neg (by simp [hremote, hsent, hreply])).trans (if_neg (not_not_intro hgen))

theorem Dev.attemptOver_load {dst : Dst} (hk : p.kind = .load dst) (ho : p.orphan = false) :
    s.attemptOver c e p = if p.attempts < 4 then s.retry c e p else s.takeUp c e [] 0 E_RA_TIMEOUT := by
  rw [Dev.attemptOver, hk]
  exact if_neg (by simp [ho])

theorem Dev.attemptOver_atomic {gd : BitVec 5} (hk : p.kind = .atomic gd) :
    s.attemptOver c e p =
      if p.attempts < 4 then s.retry c e { p with timedOut := true } else s.takeUp c e [] 0 E_RA_INDETERMINATE := by
  rw [Dev.attemptOver, hk]

theorem Dev.attemptOver_posted (hk : p.kind = .posted) : s.attemptOver c e p = s.takeUp c e [] 0 E_RA_INDETERMINATE := by
  rw [Dev.attemptOver, hk]

end

/-- Settles O38: a packet by what it answers, a timeout by the kind of the operation and the attempts that it has made. -/
theorem answersAndTimeouts : Obligations.AnswersAndTimeouts := by
  intro s hl
  refine ⟨fun p hok hme => ⟨fun hk => ?response, fun c e k hk ha hgen hat => ?toEntry, fun hk => ?nack,
      fun hk => ?hold, fun hk => ?release⟩,
    fun k p i q hk hp hq => ?repeated, fun srcDev ctx seq => answers_act (exec_dedupExpire srcDev ctx seq s) rfl hl rfl,
    fun c e p hc he hp hremote hsent hreply hgen => ?timeout⟩
  case response => exact answers_act (exec_response p s) hok hl (if_pos ⟨hk, hme⟩)
  case toEntry =>
    have same : k.pkt.gen = ((s.dev.arrived p).ctx k.pkt.ctx).gen := by rw [Dev.arrived_ctx, hgen]
    exact answers_act (exec_response p s) hok hl
      ((if_pos ⟨hk, hme⟩).trans ((Dev.answered_entry ha E_OK).trans (Dev.entryAnswer_plain same hat E_OK)))
  case nack => exact answers_act (exec_negativeAcknowledgement p s) hok hl (if_pos ⟨hk, hme⟩)
  case hold => exact answers_act (exec_hold p s) hok hl (if_pos ⟨hk, hme⟩)
  case release =>
    exact ⟨(s.dev.arrived p).released p, answers_act (exec_release p s) hok hl (if_pos ⟨hk, hme⟩),
      Dev.released_arrived_dedup, Dev.released_arrived_mem⟩
  case repeated => exact answers_act (exec_holdRepeat k p i s) (by simp [hk, hp]) hl (by rw [hq]; rfl)
  case timeout =>
    have ends {d : Dev} (hd : s.dev.attemptFailed.attemptOver c e p = d) : answers (.attemptTimeout c e) s d :=
      answers_act (exec_attemptTimeout c e s) (by simp [hc, he]) hl
        ((Dev.attemptTimeout_waiting hp hremote hsent hreply hgen).trans hd)
    exact ⟨fun dst hk ho => ⟨fun hagain => ends ((Dev.attemptOver_load hk ho).trans (if_pos hagain)),
        fun hlast => ends ((Dev.attemptOver_load hk ho).trans (if_neg (Nat.not_lt.mpr hlast)))⟩,
      fun gd hk hlast => ends ((Dev.attemptOver_atomic hk).trans (if_neg (Nat.not_lt.mpr hlast))),
      fun hk => ends (Dev.attemptOver_posted hk)⟩

end Sys2Proof.Machine
end

section
/-! Contexts and regions (R441–R449, R471–R474, R528): each management command by the first condition that its operands break, and the
end of a teardown. -/

namespace Sys2Proof.Machine

section

variable {d : Dev} {e : Entry} {iss : Issuer}

/-! ### CTX_OPEN (R441, R443) -/

theorem Dev.mgCtxOpen_operand (h : 2 ^ 24 ≤ ebytes e 32 4 ∨ 2 ^ 12 ≤ ebytes e 36 2) : d.mgCtxOpen e iss = d.answer iss E_MGMT_OPERAND :=
  if_pos h

section

variable (hjob : ebytes e 32 4 < 2 ^ 24) (hgen : ebytes e 36 2 < 2 ^ 12)
include hjob hgen

theorem Dev.mgCtxOpen_partition (h : d.defined (ebytes e 38 1) = false ∨ d.mayName iss (ebytes e 38 1) = false) :
    d.mgCtxOpen e iss = d.answer iss E_RA_CTX_BAD :=
  (if_neg (by omega)).trans (if_pos (by simpa using h))

variable (hdef : d.defined (ebytes e 38 1) = true) (hname : d.mayName iss (ebytes e 38 1) = true)
include hdef hname

section

variable {n : Nat} (hn : d.ctxOfJob (BitVec.ofNat 24 (ebytes e 32 4)) = some n)
include hn

/-- R443: the context that holds the job is opened again only from a finished teardown, under its own generation. -/
theorem Dev.mgCtxOpen_held :
    d.mgCtxOpen e iss =
      if (d.ctx n).st = .closed ∧ (d.ctx n).gen.toNat = ebytes e 36 2 then
        (d.modCtx n fun c => { c with st := .opened, part := ebytes e 38 1 }).answer iss E_OK (BitVec.ofNat 64 n)
      else d.answer iss E_RA_CTX_BAD := by
  refine (if_neg (by omega)).trans ((if_neg (by simp [hdef, hname])).trans ?_)
  rw [hn]

theorem Dev.mgCtxOpen_again (hst : (d.ctx n).st = .closed) (hg : (d.ctx n).gen.toNat = ebytes e 36 2) :
    d.mgCtxOpen e iss =
      (d.modCtx n fun c => { c with st := .opened, part := ebytes e 38 1 }).answer iss E_OK (BitVec.ofNat 64 n) :=
  (Dev.mgCtxOpen_held hjob hgen hdef hname hn).trans (if_pos ⟨hst, hg⟩)

theorem Dev.mgCtxOpen_inUse (h : (d.ctx n).st ≠ .closed ∨ (d.ctx n).gen.toNat ≠ ebytes e 36 2) :
    d.mgCtxOpen e iss = d.answer iss E_RA_CTX_BAD :=
  (Dev.mgCtxOpen_held hjob hgen hdef hname hn).trans (if_neg fun hc => h.elim (· hc.1) (· hc.2))

end

variable (hnew : d.ctxOfJob (BitVec.ofNat 24 (ebytes e 32 4)) = none)
include hnew

theorem Dev.mgCtxOpen_noneFree (h : d.freeCtx = none) : d.mgCtxOpen e iss = d.answer iss E_RA_CTX_FULL := by
  refine (if_neg (by omega)).trans ((if_neg (by simp [hdef, hname])).trans ?_)
  rw [hnew, h]

theorem Dev.mgCtxOpen_free {n : Nat} (h : d.freeCtx = some n) :
    d.mgCtxOpen e iss =
      (d.modCtx n fun c =>
        { st := .opened, part := ebytes e 38 1, job := BitVec.ofNat 24 (ebytes e 32 4), gen := BitVec.ofNat 12 (ebytes e 36 2),
          seq := c.seq }).answer iss E_OK (BitVec.ofNat 64 n) := by
  refine (if_neg (by omega)).trans ((if_neg (by simp [hdef, hname])).trans ?_)
  rw [hnew, h]

end

/-! ### CTX_TEARDOWN, JOB_TEARDOWN (R443, R471) -/

theorem Dev.mgCtxTeardown_bad
    (h : 1024 ≤ ebytes e 32 2 ∨ (d.ctx (ebytes e 32 2)).st ≠ .opened ∨ d.mayName iss (d.ctx (ebytes e 32 2)).part = false) :
    d.mgCtxTeardown e iss = d.answer iss E_RA_CTX_BAD :=
  if_pos (by simpa using h)

theorem Dev.mgCtxTeardown_begins (hn : ebytes e 32 2 < 1024) (hst : (d.ctx (ebytes e 32 2)).st = .opened)
    (hname : d.mayName iss (d.ctx (ebytes e 32 2)).part = true) : d.mgCtxTeardown e iss = d.askTeardown (ebytes e 32 2) iss 0 :=
  if_neg (by simp [hn, hst, hname])

theorem Dev.mgJobTeardown_operand (h : 2 ^ 24 ≤ ebytes e 32 4) : d.mgJobTeardown e iss = d.answer iss E_MGMT_OPERAND := if_pos h

section

variable (hjob : ebytes e 32 4 < 2 ^ 24)
include hjob

theorem Dev.mgJobTeardown_noCtx (h : d.ctxOfJob (BitVec.ofNat 24 (ebytes e 32 4)) = none) :
    d.mgJobTeardown e iss = d.answer iss E_RA_NO_CTX := by
  refine (if_neg (Nat.not_le.mpr hjob)).trans ?_
  rw [h]

theorem Dev.mgJobTeardown_begins {n : Nat} (h : d.ctxOfJob (BitVec.ofNat 24 (ebytes e 32 4)) = some n) (hst : (d.ctx n).st = .opened) :
    d.mgJobTeardown e iss = d.askTeardown n iss n := by
  refine (if_neg (Nat.not_le.mpr hjob)).trans ?_
  rw [h]
  exact if_neg (not_not_intro hst)

end

/-! ### CTX_FREE (R443, R528) -/

theorem Dev.mgCtxFree_bad
    (h : 1024 ≤ ebytes e 32 2 ∨ (d.ctx (ebytes e 32 2)).st ≠ .closed ∨ d.mayName iss (d.ctx (ebytes e 32 2)).part = false) :
    d.mgCtxFree e iss = d.answer iss E_RA_CTX_BAD :=
  if_pos (by simpa using h)

/-- R528: the groups and then the regions of the context go with it. -/
theorem Dev.mgCtxFree_freed (hn : ebytes e 32 2 < 1024) (hst : (d.ctx (ebytes e 32 2)).st = .closed)
    (hname : d.mayName iss (d.ctx (ebytes e 32 2)).part = true) :
    d.mgCtxFree e iss =
      let n := ebytes e 32 2
      let t := d.fold d.coll.groups fun s g => if (g.2.map (·.ctx)) = some n then s.destroyGroup g.1 [] else s
      let u := t.fold t.ra.regions fun s r => if (r.2.map (·.ctx)) = some n then s.setRegion r.1 none else s
      (u.modCtx n fun c => { seq := c.seq }).answer iss E_OK :=
  if_neg (by simp [hn, hst, hname])

/-! ### REGION_ADD (R447, R448) -/

/-- R448: the range of the entry meets a region. -/
def Dev.rangeTaken (d : Dev) (e : Entry) : Bool :=
  d.ra.regions.any fun r => r.2.any fun r => rangesMeet r.base r.size (ebytes e 32 8) (ebytes e 40 8)

theorem Dev.mgRegionAdd_operand
    (h : ebytes e 32 8 % mib2 ≠ 0 ∨ ebytes e 40 8 % mib2 ≠ 0 ∨ ebytes e 40 8 = 0 ∨ 16 ≤ ebytes e 54 1) :
    d.mgRegionAdd e iss = d.answer iss E_MGMT_OPERAND :=
  if_pos h

section

variable (hbase : ebytes e 32 8 % mib2 = 0) (hsize : ebytes e 40 8 % mib2 = 0) (hpos : ebytes e 40 8 ≠ 0) (hperm : ebytes e 54 1 < 16)
include hbase hsize hpos hperm

theorem Dev.regionAdd_operand :
    ¬ (ebytes e 32 8 % mib2 ≠ 0 ∨ ebytes e 40 8 % mib2 ≠ 0 ∨ ebytes e 40 8 = 0 ∨ 16 ≤ ebytes e 54 1) := by
  simp [hbase, hsize, hpos, hperm]

theorem Dev.mgRegionAdd_bad
    (h : 1024 ≤ ebytes e 52 2 ∨ d.ctxOpenFor (ebytes e 52 2) (d.regionPart iss (d.ctx (ebytes e 52 2)).part) = false ∨
      d.rangeOwned (d.regionPart iss (d.ctx (ebytes e 52 2)).part) (ebytes e 32 8) (ebytes e 40 8) = false ∨ d.rangeTaken e = true) :
    d.mgRegionAdd e iss = d.answer iss E_RA_REGION_BAD :=
  (if_neg (Dev.regionAdd_operand hbase hsize hpos hperm)).trans (if_pos (by simpa [Dev.rangeTaken, or_assoc] using h))

theorem Dev.mgRegionAdd_added {i : Nat} (hn : ebytes e 52 2 < 1024)
    (hopen : d.ctxOpenFor (ebytes e 52 2) (d.regionPart iss (d.ctx (ebytes e 52 2)).part) = true)
    (howned : d.rangeOwned (d.regionPart iss (d.ctx (ebytes e 52 2)).part) (ebytes e 32 8) (ebytes e 40 8) = true)
    (hclear : d.rangeTaken e = false) (hfree : freeKey d.ra.regions 4096 = some i) :
    d.mgRegionAdd e iss =
      (d.setRegion i (some
        { base := ebytes e 32 8, size := ebytes e 40 8, key := BitVec.ofNat 32 (ebytes e 48 4), perm := BitVec.ofNat 4 (ebytes e 54 1),
          part := d.regionPart iss (d.ctx (ebytes e 52 2)).part, ctx := ebytes e 52 2, gen := (d.ctx (ebytes e 52 2)).gen })).answer
        iss E_OK (BitVec.ofNat 64 i) := by
  rw [Dev.rangeTaken] at hclear
  refine (if_neg (Dev.regionAdd_operand hbase hsize hpos hperm)).trans ((if_neg ?_).trans ?_)
  · rw [hopen, howned, hclear]
    simp [hn]
  · rw [hfree]

end

/-! ### REGION_REMOVE, REGION_RENEW (R447, R449) -/

theorem Dev.mgRegionRemove_unnamed (h : d.namedRegion (ebytes e 32 2) iss = none) :
    d.mgRegionRemove e iss = d.answer iss E_RA_REGION_BAD := by
  rw [Dev.mgRegionRemove, h]

theorem Dev.mgRegionRemove_begins {r : Region} (h : d.namedRegion (ebytes e 32 2) iss = some r) :
    d.mgRegionRemove e iss = d.beginRegion (ebytes e 32 2) r none iss := by
  rw [Dev.mgRegionRemove, h]

theorem Dev.mgRegionRenew_unnamed (h : d.namedRegion (ebytes e 32 2) iss = none) :
    d.mgRegionRenew e iss = d.answer iss E_RA_REGION_BAD := by
  rw [Dev.mgRegionRenew, h]

theorem Dev.mgRegionRenew_begins {r : Region} (h : d.namedRegion (ebytes e 32 2) iss = some r) :
    d.mgRegionRenew e iss =
      d.beginRegion (ebytes e 32 2) r (some { r with key := BitVec.ofNat 32 (ebytes e 36 4), gen := (d.ctx r.ctx).gen }) iss := by
  rw [Dev.mgRegionRenew, h]

end

/-! ### The commands -/

/-- Settles O39: each command by the first condition that its operands break, the end of a teardown by what is left of the old
generation. -/
theorem contextCommands : Obligations.ContextCommands := by
  intro s q e d hl hq iss
  have hwf : decide (q < 4096) = true := decide_eq_true hq
  refine ⟨fun hrun => ?opens, fun hrun => ?teardown, fun hrun => ?job, fun hrun => ?free,
    fun n hn hst => ⟨fun hready => ?ends, fun hleft => ?late⟩⟩
  case opens =>
    have answered {t : Dev} (ht : d.mgCtxOpen e iss = t) := answers_mgmt (exec_ctxOpen q s) hwf hl hrun ht
    exact ⟨fun h => answered (Dev.mgCtxOpen_operand h), fun hjob hgen h => answered (Dev.mgCtxOpen_partition hjob hgen h),
      fun n hjob hgen hdef hname hn =>
        ⟨fun hst hg => answered (Dev.mgCtxOpen_again hjob hgen hdef hname hn hst hg),
          fun h => answered (Dev.mgCtxOpen_inUse hjob hgen hdef hname hn h)⟩,
      fun hjob hgen hdef hname hnew =>
        ⟨fun h => answered (Dev.mgCtxOpen_noneFree hjob hgen hdef hname hnew h),
          fun n h => answered (Dev.mgCtxOpen_free hjob hgen hdef hname hnew h)⟩⟩
  case teardown =>
    have answered {t : Dev} (ht : d.mgCtxTeardown e iss = t) := answers_mgmt (exec_ctxTeardown q s) hwf hl hrun ht
    exact ⟨fun h => answered (Dev.mgCtxTeardown_bad h), fun hn hst hname => answered (Dev.mgCtxTeardown_begins hn hst hname)⟩
  case job =>
    have answered {t : Dev} (ht : d.mgJobTeardown e iss = t) := answers_mgmt (exec_jobTeardown q s) hwf hl hrun ht
    exact ⟨fun h => answered (Dev.mgJobTeardown_operand h), fun hjob h => answered (Dev.mgJobTeardown_noCtx hjob h),
      fun n hjob h hst => answered (Dev.mgJobTeardown_begins hjob h hst)⟩
  case free =>
    have answered {t : Dev} (ht : d.mgCtxFree e iss = t) := answers_mgmt (exec_ctxFree q s) hwf hl hrun ht
    exact ⟨fun hn hst hname => answered (Dev.mgCtxFree_freed hn hst hname), fun h => answered (Dev.mgCtxFree_bad h)⟩
  case ends => exact answers_act (exec_teardownComplete n s) (decide_eq_true hn) hl (if_pos ⟨hst, hready⟩)
  case late =>
    exact ⟨answers_act (exec_teardownComplete n s) (decide_eq_true hn) hl (if_neg (by simp [hleft])),
      answers_act (exec_teardownEscalate n s) (decide_eq_true hn) hl (if_pos ⟨hst, by simp [hleft]⟩)⟩

/-- Settles O40: each command by the first condition that its operands break, its completion by the accesses left under the old entry. -/
theorem regionCommands : Obligations.RegionCommands := by
  intro s q e d hl hq iss
  have hwf : decide (q < 4096) = true := decide_eq_true hq
  refine ⟨fun hrun => ?add, fun hrun => ?remove, fun hrun => ?renew, fun c hc => ⟨fun hold => ?done, fun hold => ?waits⟩⟩
  case add =>
    have answered {t : Dev} (ht : d.mgRegionAdd e iss = t) := answers_mgmt (exec_regionAdd q s) hwf hl hrun ht
    exact ⟨fun h => answered (Dev.mgRegionAdd_operand h), fun hbase hsize hpos hperm =>
      ⟨fun h => answered (Dev.mgRegionAdd_bad hbase hsize hpos hperm h),
        fun i hn hopen howned hclear hfree => answered (Dev.mgRegionAdd_added hbase hsize hpos hperm hn hopen howned hclear hfree)⟩⟩
  case remove =>
    have answered {t : Dev} (ht : d.mgRegionRemove e iss = t) := answers_mgmt (exec_regionRemove q s) hwf hl hrun ht
    exact ⟨fun r h => answered (Dev.mgRegionRemove_begins h), fun h => answered (Dev.mgRegionRemove_unnamed h)⟩
  case renew =>
    have answered {t : Dev} (ht : d.mgRegionRenew e iss = t) := answers_mgmt (exec_regionRenew q s) hwf hl hrun ht
    exact ⟨fun r h => answered (Dev.mgRegionRenew_begins h), fun h => answered (Dev.mgRegionRenew_unnamed h)⟩
  case done =>
    refine answers_act (exec_regionCommandDone q s) hwf hl ?_
    rw [hc]
    exact if_neg (by simp [hold])
  case waits =>
    refine answers_act (exec_regionCommandDone q s) hwf hl ?_
    rw [hc]
    exact if_pos hold

end Sys2Proof.Machine
end

section
/-! The copy engine (R477, R478, R480, R513–R516, R566, R569): the start of an entry, the next piece of a run, and a copy that is lost. -/

namespace Sys2Proof.Machine

variable {s : Dev} {q n : Nat} {e : QEntry} {r : CopyRun}

/-! ### The start of an entry (R566, R569) -/

/-- R569: the run of an entry that nothing has been issued of. -/
def Dev.freshRun (s : Dev) (q : Nat) (e : QEntry) : CopyRun :=
  { queue := q, seq := e.seq, readout := eKind e.e == 3, entry := e.e, ctx := eCtx e.e, part := (s.qOwner q).getD 0,
    issued := 0, finished := 0, out := [], code := E_OK, stopped := false, first := none, sum := 0, flagged := 0 }

theorem Dev.copyStart_full (h : 4 ≤ s.runsOf.countP (fun r => r.2.queue == q)) : s.copyStart q = s := if_pos (.inr (.inr h))

section

variable (ht : s.qType q = 2) (hready : s.ready = true) (hroom : s.runsOf.countP (fun r => r.2.queue == q) < 4)
  (hnext : s.nextStart q = some e) (hfree : freeKey s.copy.runs 512 = some n)
include ht hready hroom hnext hfree

theorem Dev.copyStart_runs (hb : (s.markStarted q e.seq).copyBad ((s.markStarted q e.seq).freshRun q e) = none) :
    s.copyStart q = (s.markStarted q e.seq).setRun n (some ((s.markStarted q e.seq).freshRun q e)) := by
  rw [Dev.freshRun] at hb ⊢
  refine (if_neg (by simp [ht, hready, hroom])).trans ?_
  rw [hnext, hfree]
  dsimp only
  rw [hb]

theorem Dev.copyStart_bad {code : Code} (hb : (s.markStarted q e.seq).copyBad ((s.markStarted q e.seq).freshRun q e) = some code) :
    s.copyStart q = (s.markStarted q e.seq).complete q e.seq code := by
  rw [Dev.freshRun] at hb
  refine (if_neg (by simp [ht, hready, hroom])).trans ?_
  rw [hnext, hfree]
  dsimp only
  rw [hb]

end

/-! ### The next piece (R477, R514) -/

/-- R477: the device whose copy engine has served run `n` last. -/
def Dev.servedLast (s : Dev) (n : Nat) : Dev := { s with copy := { s.copy with last := n } }

theorem Dev.pieceIssue_turn (hr : s.crun n = some r) (hc : s.canIssue r = true)
    (hturn : s.runsOf.all (fun e => !s.canIssue e.2 || decide (runTurn s.copy.last n ≤ runTurn s.copy.last e.1)) = true) (host : HostData) :
    s.pieceIssue n host = s.issuePiece n r host := by
  rw [Dev.pieceIssue, hr]
  exact if_pos (by rw [hc, hturn]; rfl)

/-- R514: a read-out goes on by a line. -/
theorem Dev.issuePiece_readout (hro : r.readout = true) (host : HostData) :
    s.issuePiece n r host =
      ((s.servedLast n).modRun n fun k => { k with issued := r.issued + 1, out := k.out ++ [(r.slot, r.issued, true)] }).readLine n r
        r.issued :=
  if_pos hro

section

variable (hro : r.readout = false)
include hro

/-- R477: a piece whose data a device holds begins with its read. -/
theorem Dev.issuePiece_device (hfrom : r.fromHost = false) (host : HostData) :
    s.issuePiece n r host =
      ((s.servedLast n).modRun n fun k =>
        { k with issued := r.issued + r.pieceLen r.issued, out := k.out ++ [(r.slot, r.issued, true)] }).sendPiece n r.slot
          ((s.servedLast n).piecePkt r n r.slot false (r.src + r.issued) (r.pieceLen r.issued)) :=
  (if_neg (by simp [hro])).trans (if_neg (by simp [hfrom]))

/-- R477: a piece whose data the host holds is fetched and goes on to the destination. -/
theorem Dev.issuePiece_host (hfrom : r.fromHost = true) {host : HostData} (hlen : host.length = r.pieceLen r.issued) :
    s.issuePiece n r host =
      (((s.servedLast n).modRun n fun k =>
        { k with issued := r.issued + r.pieceLen r.issued, out := k.out ++ [(r.slot, r.issued, false)] }).out
          (.hostFetch ((s.servedLast n).portOf r.part) (BitVec.ofNat 64 (r.src + r.issued)) (r.pieceLen r.issued))).putPiece n r.slot r
            r.issued host 0 :=
  (if_neg (by simp [hro])).trans ((if_pos hfrom).trans (if_neg (not_not_intro hlen)))

end

/-! ### A copy that is lost (R480) -/

/-- R480: of a copy to the host nothing on this device is left undefined. -/
theorem Dev.bulkLost_toHost (hr : s.crun n = some r) (hout : r.out.isEmpty = false) (hto : r.toHost = true) (hro : r.readout = false) :
    s.bulkLost n = (s.setRun n none).complete r.queue r.seq E_RA_BULK_LOST := by
  rw [Dev.bulkLost, hr]
  refine (if_neg (by simp [hout])).trans ?_
  simp [hto, hro]

/-! ### The commands -/

/-- Settles O42: an entry by the rule that it breaks, a run by where the data of its next piece are, a loss by its destination. -/
theorem copyEngine : Obligations.CopyEngine := by
  intro s hl
  refine ⟨fun q e n hq ht hready hroom hnext hfree => ⟨fun hb => ?starts, fun code hb => ?ends⟩, fun q hq hfull => ?full,
    fun n r hn hr hc hturn => ?piece, fun n r hn hr hout hto hro => ?lost, fun k p i m hk hp hm hkind hs htests => ?readout⟩
  case starts =>
    exact answers_act (exec_copyEntryStart q s) (decide_eq_true hq) hl (Dev.copyStart_runs ht hready hroom hnext hfree hb)
  case ends =>
    exact answers_act (exec_copyEntryStart q s) (decide_eq_true hq) hl (Dev.copyStart_bad ht hready hroom hnext hfree hb)
  case full => exact answers_act (exec_copyEntryStart q s) (decide_eq_true hq) hl (Dev.copyStart_full hfull)
  case piece =>
    have issued {host : HostData} {d : Dev} (hd : s.dev.issuePiece n r host = d) : answers (.copyPieceIssue n host) s d :=
      answers_act (exec_copyPieceIssue n host s) (decide_eq_true hn) hl ((Dev.pieceIssue_turn hr hc hturn host).trans hd)
    exact ⟨fun hro => issued (Dev.issuePiece_readout hro []), fun host hro hfrom => issued (Dev.issuePiece_device hro hfrom host),
      fun host hro hfrom hlen => issued (Dev.issuePiece_host hro hfrom hlen)⟩
  case lost => exact answers_act (exec_bulkLost n s) (decide_eq_true hn) hl (Dev.bulkLost_toHost hr hout hto hro)
  case readout =>
    exact answers_act (exec_readout k p i _ s) (by simp [hk, hp]) hl
      (s.dev.serveWork_taken k p i m hm hs htests (by simp [hkind]) _)

end Sys2Proof.Machine
end

section
/-! Bytes as numbers (R13). -/

namespace Sys2Proof

theorem ofBytes_toBytes (n x : Nat) : ofBytes (toBytes n x) = x % 256 ^ n := by
  induction n generalizing x with
  | zero => simp [toBytes, ofBytes, Nat.mod_one]
  | succ n ih =>
    rw [toBytes, ofBytes, ih, BitVec.toNat_ofNat, pow_succ' 256]
    exact Nat.mod_mul.symm

theorem ofBytes_lt (l : List Byte) : ofBytes l < 256 ^ l.length := by
  induction l with
  | nil => simp [ofBytes]
  | cons b l ih =>
    have hb := b.isLt
    rw [ofBytes, List.length_cons, pow_succ']
    omega

/-- Lists of one length that stand for one number are one list. -/
theorem ofBytes_inj {l l' : List Byte} (hlen : l.length = l'.length) (h : ofBytes l = ofBytes l') : l = l' := by
  induction l generalizing l' with
  | nil => exact (List.length_eq_zero_iff.mp hlen.symm).symm
  | cons b l ih =>
    cases l' with
    | nil => simp at hlen
    | cons b' l' =>
      have hb := b.isLt
      have hb' := b'.isLt
      simp only [ofBytes] at h
      rw [BitVec.eq_of_toNat_eq (show b.toNat = b'.toNat by omega), ih (Nat.succ.inj hlen) (by omega)]

theorem getBytes_length (m : List Host.Cell) (a n : Nat) : (getBytes m a n).length = n := by simp [getBytes]

theorem getBytes_inj {m m' : List Host.Cell} {a n : Nat} :
    getBytes m a n = getBytes m' a n ↔ ∀ i < n, getByte m (a + i) = getByte m' (a + i) := by
  simp [getBytes]

end Sys2Proof
end

section
/-! Accumulation (R489, R494, R496, R501): a 16 B word with its flags is the running total of the contributions to it. -/

namespace Sys2Proof.Machine

/-! ### Totals of contributions (R496) -/

/-- R496: the number that a 16 B word holds, and its flags. -/
abbrev WordTotal := BitVec 128 × BitVec 2

/-- R496: what is added to one word of a line: its index, the addend and the flags. -/
abbrev Contribution := Nat × WordTotal

/-- R496: values are added modulo 2^128, flags are ORed. -/
def plus (x y : WordTotal) : WordTotal := (x.1 + y.1, x.2 ||| y.2)

theorem plus_right_comm (x y z : WordTotal) : plus (plus x y) z = plus (plus x z) y :=
  Prod.ext (add_right_comm ..) (by simp only [plus, BitVec.or_assoc, BitVec.or_comm y.2])

theorem plus_assoc (x y z : WordTotal) : plus (plus x y) z = plus x (plus y z) :=
  Prod.ext (add_assoc ..) (BitVec.or_assoc ..)

theorem plus_zero (x : WordTotal) : plus x (0, 0) = x := Prod.ext (add_zero _) BitVec.or_zero

/-- Word `j` after one more contribution. -/
def gatherOne (j : Nat) (t : WordTotal) (w : Contribution) : WordTotal := if w.1 = j then plus t w.2 else t

/-- R496: word `j` after contributions, from `t` on. -/
def gather (j : Nat) (t : WordTotal) (l : List Contribution) : WordTotal := l.foldl (gatherOne j) t

theorem gather_cons (j : Nat) (t : WordTotal) (w : Contribution) (l : List Contribution) :
    gather j t (w :: l) = gather j (gatherOne j t w) l := rfl

/-- R501: the total does not depend on the order. -/
theorem gather_perm {l l' : List Contribution} (h : l.Perm l') (j : Nat) (t : WordTotal) : gather j t l = gather j t l' := by
  refine h.foldl_eq' (fun x _ y _ z => ?_) t
  unfold gatherOne
  split_ifs
  · exact plus_right_comm ..
  all_goals rfl

/-- Contributions to other words leave a word alone. -/
theorem gather_of_forall_ne {j : Nat} {l : List Contribution} (h : ∀ w ∈ l, w.1 ≠ j) (t : WordTotal) : gather j t l = t := by
  induction l with
  | nil => rfl
  | cons w l ih =>
    obtain ⟨hw, hl⟩ := List.forall_mem_cons.mp h
    rw [gather_cons, gatherOne, if_neg hw, ih hl]

/-- Contributions may be totalled first and then added. -/
theorem gather_eq_plus (j : Nat) (t : WordTotal) (l : List Contribution) :
    gather j t l = plus t (gather j (0, 0) l) := by
  suffices ∀ u, gather j (plus t u) l = plus t (gather j u l) by
    have := this (0, 0)
    rwa [plus_zero] at this
  induction l with
  | nil => exact fun _ => rfl
  | cons w l ih =>
    intro u
    have one : gatherOne j (plus t u) w = plus t (gatherOne j u w) := by
      unfold gatherOne
      split
      · exact plus_assoc ..
      · rfl
    rw [gather_cons, gather_cons, one, ih]

/-- One contribution to each word of a list. -/
theorem gather_map_of_nodup {idx : List Nat} (hnd : idx.Nodup) (f : Nat → WordTotal) {j : Nat} (hj : j ∈ idx)
    (t : WordTotal) : gather j t (idx.map fun i => (i, f i)) = plus t (f j) := by
  induction idx generalizing t with
  | nil => cases hj
  | cons i idx ih =>
    obtain ⟨hi, hidx⟩ := List.nodup_cons.mp hnd
    rw [List.map_cons, gather_cons, gatherOne]
    rcases eq_or_ne i j with rfl | hne
    · rw [if_pos rfl]
      exact gather_of_forall_ne (List.forall_mem_map.mpr fun n hn => ne_of_mem_of_not_mem hn hi) _
    · rw [if_neg hne]
      exact ih hidx (List.mem_of_ne_of_mem hne.symm hj) t

/-! ### A word of memory (R489) -/

section

variable (s : Dev) (k p off : Nat)

/-- R489: word `j` of a line and its flags. -/
def Dev.accCell (s : Dev) (k p off j : Nat) : WordTotal :=
  (BitVec.ofNat 128 (ofBytes (s.memRead k p (off + 16 * j) 16)), s.axaFlags k p (off + 16 * j))

theorem memKey_add (n : Nat) : memKey k p (off + n) = memKey k p off + n := (Nat.add_assoc ..).symm

/-- The flags of a word are at the word's place after the first. -/
theorem flagKey_word (j : Nat) : memKey k p (off + 16 * j) / 16 = memKey k p off / 16 + j := by
  rw [memKey_add, Nat.add_mul_div_left _ _ (by decide)]

variable (w : Contribution)

theorem Dev.accWord_data :
    (s.accWord k p off w).mem.data = setMasked s.mem.data (memKey k p (off + 16 * w.1)) (ones 16)
      (toBytes 16 (plus (s.accCell k p off w.1) w.2).1.toNat) := by
  simp only [Dev.accWord, Dev.modStk_mem_data, Dev.setAxaFlags, Dev.memWrite, plus, Dev.accCell]

theorem Dev.accWord_flags :
    (s.accWord k p off w).mem.flags = put 0 s.mem.flags (memKey k p (off + 16 * w.1) / 16) (plus (s.accCell k p off w.1) w.2).2 := by
  simp only [Dev.accWord, Dev.modStk_mem_flags, Dev.setAxaFlags, Dev.memWrite, plus, Dev.accCell]

/-- R496: no byte outside the word changes. -/
theorem Dev.accWord_getByte {b : Nat} (h : b < memKey k p (off + 16 * w.1) ∨ memKey k p (off + 16 * w.1) + 16 ≤ b) :
    getByte (s.accWord k p off w).mem.data b = getByte s.mem.data b := by
  rw [Dev.accWord_data, getByte_setMasked_out _ _ _ _ _ (by rwa [toBytes_length])]

theorem Dev.accWord_wf (h : Memory.wf s.mem.data = true) : Memory.wf (s.accWord k p off w).mem.data = true := by
  rw [Dev.accWord_data]
  exact wf_setMasked _ _ _ _ h

/-- R496: the bytes of the word hold the sum. -/
theorem Dev.accWord_memRead :
    (s.accWord k p off w).memRead k p (off + 16 * w.1) 16 = toBytes 16 (plus (s.accCell k p off w.1) w.2).1.toNat := by
  have written := getBytes_setMasked_ones s.mem.data (memKey k p (off + 16 * w.1))
    (toBytes 16 (plus (s.accCell k p off w.1) w.2).1.toNat)
  rwa [toBytes_length, ← Dev.accWord_data] at written

/-- R496: the flags of the word are ORed. -/
theorem Dev.accWord_axaFlags : (s.accWord k p off w).axaFlags k p (off + 16 * w.1) = (plus (s.accCell k p off w.1) w.2).2 := by
  rw [Dev.axaFlags, Dev.accWord_flags, look_put_same]

/-- R496: a contribution is added to its own word only. -/
theorem Dev.accWord_accCell (j : Nat) : (s.accWord k p off w).accCell k p off j = gatherOne j (s.accCell k p off j) w := by
  unfold gatherOne
  split
  case isTrue h =>
    subst h
    rw [Dev.accCell, Dev.accWord_memRead, Dev.accWord_axaFlags, ofBytes_toBytes]
    refine Prod.ext (BitVec.eq_of_toNat_eq ?_) rfl
    rw [BitVec.toNat_ofNat, Nat.mod_mod_of_dvd _ (by decide), BitVec.toNat_mod_cancel]
  case isFalse h =>
    have bytes : (s.accWord k p off w).memRead k p (off + 16 * j) 16 = s.memRead k p (off + 16 * j) 16 :=
      getBytes_inj.mpr fun i _ => s.accWord_getByte k p off w (by simp only [memKey_add]; omega)
    have flags : (s.accWord k p off w).axaFlags k p (off + 16 * j) = s.axaFlags k p (off + 16 * j) := by
      rw [Dev.axaFlags, Dev.accWord_flags, look_put_ne _ _ _ (by simp only [flagKey_word]; omega), ← Dev.axaFlags]
    exact Prod.ext (by simp only [Dev.accCell, bytes]) flags

/-! ### What a set of contributions leaves (R496, R501) -/

/-- R496: the device after contributions to the words from `off` on. -/
abbrev Dev.accumulated (s : Dev) (k p off : Nat) (l : List Contribution) : Dev :=
  s.fold l fun s w => s.accWord k p off w

variable (l : List Contribution)

theorem Dev.accumulated_cons :
    s.accumulated k p off (w :: l) = (s.accWord k p off w).accumulated k p off l := rfl

theorem Dev.accumulated_accCell (j : Nat) : (s.accumulated k p off l).accCell k p off j = gather j (s.accCell k p off j) l := by
  induction l generalizing s with
  | nil => rfl
  | cons w l ih => rw [Dev.accumulated_cons, ih, Dev.accWord_accCell, gather_cons]

/-- Nothing before the first word changes. -/
theorem Dev.accumulated_getByte_before {b : Nat} (h : b < memKey k p off) :
    getByte (s.accumulated k p off l).mem.data b = getByte s.mem.data b := by
  refine Dev.fold_keeps (fun s => getByte s.mem.data b) (fun s w => ?_) s l
  have before : b < memKey k p (off + 16 * w.1) := memKey_add k p off _ ▸ Nat.lt_add_right _ h
  exact s.accWord_getByte k p off w (.inl before)

theorem Dev.accumulated_flags_before {n : Nat} (h : n < memKey k p off / 16) :
    look 0 (s.accumulated k p off l).mem.flags n = look 0 s.mem.flags n := by
  refine Dev.fold_keeps (fun s => look 0 s.mem.flags n) (fun s w => ?_) s l
  rw [Dev.accWord_flags, look_put_ne _ _ _ (by rw [flagKey_word]; omega)]

end

section

variable (s : Dev) {k p off : Nat} {l l' : List Contribution} (h : ∀ j t, gather j t l = gather j t l')
include h

/-- Contributions with the same totals leave the same words. -/
theorem Dev.accumulated_accCell_congr (j : Nat) :
    (s.accumulated k p off l).accCell k p off j = (s.accumulated k p off l').accCell k p off j := by
  rw [Dev.accumulated_accCell, Dev.accumulated_accCell, h]

theorem Dev.accumulated_getByte_congr (b : Nat) :
    getByte (s.accumulated k p off l).mem.data b = getByte (s.accumulated k p off l').mem.data b := by
  rcases lt_or_ge b (memKey k p off) with hb | hb
  · rw [Dev.accumulated_getByte_before _ _ _ _ _ hb, Dev.accumulated_getByte_before _ _ _ _ _ hb]
  · obtain ⟨j, i, hi, rfl⟩ : ∃ j i, i < 16 ∧ b = memKey k p (off + 16 * j) + i :=
      ⟨(b - memKey k p off) / 16, (b - memKey k p off) % 16, Nat.mod_lt _ (by decide), by rw [memKey_add]; omega⟩
    have words := congrArg (·.1.toNat) (s.accumulated_accCell_congr h (k := k) (p := p) (off := off) j)
    have below (d : Dev) : ofBytes (d.memRead k p (off + 16 * j) 16) < 2 ^ 128 := by
      simpa [Dev.memRead, getBytes_length] using ofBytes_lt (d.memRead k p (off + 16 * j) 16)
    simp only [Dev.accCell, BitVec.toNat_ofNat, Nat.mod_eq_of_lt (below _)] at words
    have bytes := ofBytes_inj (by simp only [Dev.memRead, getBytes_length]) words
    exact getBytes_inj.mp bytes i hi

theorem Dev.accumulated_axaFlags_congr (a : Nat) :
    (s.accumulated k p off l).axaFlags k p a = (s.accumulated k p off l').axaFlags k p a := by
  rcases lt_or_ge (memKey k p a / 16) (memKey k p off / 16) with ha | ha
  · exact (s.accumulated_flags_before k p off l ha).trans (s.accumulated_flags_before k p off l' ha).symm
  · obtain ⟨j, hj⟩ := Nat.exists_eq_add_of_le ha
    have flags := congrArg (·.2) (s.accumulated_accCell_congr h (k := k) (p := p) (off := off) j)
    simp only [Dev.accCell, Dev.axaFlags, flagKey_word] at flags
    rw [Dev.axaFlags, Dev.axaFlags, hj, flags]

end

/-- Settles O21: the bytes and flags that contributions leave depend on each word's total, and a total on no order. -/
theorem accumulationIsOrderIndependent : Obligations.AccumulationIsOrderIndependent := fun s _ _ _ _ _ hperm =>
  ⟨s.accumulated_getByte_congr (gather_perm hperm), s.accumulated_axaFlags_congr (gather_perm hperm)⟩

end Sys2Proof.Machine
end

section
/-! Combining (R502–R504): a combining entry holds the totals of the packets that it absorbed, and its SUMMED packet brings them. -/

namespace Sys2Proof.Machine

/-! ### The words of a payload (R496, R505) -/

/-- R505: a word of a payload has its bit in the mask. -/
theorem accWords_mem {a : AccPayload} {w : Contribution} (h : w ∈ accWords a) : w.1 < 16 ∧ a.mask.getLsbD w.1 = true := by
  obtain ⟨⟨j, v⟩, hz, rfl⟩ := List.mem_map.mp h
  obtain ⟨hr, hm⟩ := List.mem_filter.mp (List.of_mem_zip hz).1
  rw [List.mem_range] at hr
  dsimp only
  split <;> exact ⟨hr, hm⟩

/-! ### Sums and flags by word (R503, R505) -/

/-- R503: the sums after one more contribution. -/
def addSum (m : SMap (BitVec 128)) (w : Contribution) : SMap (BitVec 128) := put 0 m w.1 (look 0 m w.1 + w.2.1)

/-- R503, R505: the flags of a line after one more contribution, two bits to each word. -/
def orFlags (f : BitVec 32) (w : Contribution) : BitVec 32 := f ||| BitVec.ofNat 32 (w.2.2.toNat * 2 ^ (2 * w.1))

/-- The sum and the flags of one word. -/
def cellOf (m : SMap (BitVec 128)) (f : BitVec 32) (j : Nat) : WordTotal := (look 0 m j, f.extractLsb' (2 * j) 2)

/-- The flags of a word stand at the place of that word only. -/
theorem extract_placed {i j : Nat} (hi : i < 16) (f : BitVec 2) :
    (BitVec.ofNat 32 (f.toNat * 2 ^ (2 * i))).extractLsb' (2 * j) 2 = if i = j then f else 0#2 := by
  ext b hb
  rw [BitVec.getElem_extractLsb', BitVec.getLsbD_ofNat, Nat.testBit_mul_two_pow, apply_ite (fun x : BitVec 2 => x[b])]
  split
  case isTrue h =>
    subst h
    simp [show 2 * i + b < 32 by omega, BitVec.getElem_eq_testBit_toNat]
  case isFalse h =>
    rw [BitVec.getElem_zero, Bool.and_eq_false_imp]
    intro _
    rcases lt_or_gt_of_ne h with h | h
    · have : f.toNat < 2 ^ (2 * j + b - 2 * i) := f.isLt.trans_le (Nat.pow_le_pow_right (by decide) (by omega))
      simp [Nat.testBit_lt_two_pow this]
    · simp [show ¬ 2 * i ≤ 2 * j + b by omega]

theorem cellOf_one (m : SMap (BitVec 128)) (f : BitVec 32) {w : Contribution} (hw : w.1 < 16) (j : Nat) :
    cellOf (addSum m w) (orFlags f w) j = gatherOne j (cellOf m f j) w := by
  rw [cellOf, orFlags, BitVec.extractLsb'_or, extract_placed hw, addSum, gatherOne]
  by_cases h : w.1 = j
  · simp [h, plus, cellOf]
  · simp [h, Ne.symm h, cellOf]

theorem cellOf_foldl {l : List Contribution} (hl : ∀ w ∈ l, w.1 < 16) (m : SMap (BitVec 128)) (f : BitVec 32) (j : Nat) :
    cellOf (l.foldl addSum m) (l.foldl orFlags f) j = gather j (cellOf m f j) l := by
  induction l generalizing m f with
  | nil => rfl
  | cons w l ih =>
    obtain ⟨hw, hl⟩ := List.forall_mem_cons.mp hl
    rw [List.foldl_cons, List.foldl_cons, ih hl, cellOf_one m f hw, gather_cons]

/-! ### A combining entry (R502–R504) -/

/-- The total of a word in an entry. -/
def Comb.cell (e : Comb) (j : Nat) : WordTotal := cellOf e.sums e.flags j

/-- The words of an entry. -/
def Comb.words (e : Comb) : List Nat := (List.range 16).filter (e.mask.getLsbD ·)

theorem Comb.words_nodup (e : Comb) : e.words.Nodup := List.nodup_range.filter _

/-- An entry after the packets of a list. -/
def Comb.absorbAll (e : Comb) (l : List (Packet × AccPayload)) : Comb := l.foldl (fun e x => e.absorb x.1 x.2) e

theorem Comb.absorb_cell (e : Comb) (p : Packet) (a : AccPayload) (j : Nat) :
    (e.absorb p a).cell j = gather j (e.cell j) (accWords a) :=
  cellOf_foldl (fun _ hw => (accWords_mem hw).1) e.sums e.flags j

/-- R503: an entry holds the totals of what it has absorbed. -/
theorem Comb.absorbAll_cell (e : Comb) (l : List (Packet × AccPayload)) (j : Nat) :
    (e.absorbAll l).cell j = gather j (e.cell j) (l.flatMap fun x => accWords x.2) := by
  induction l generalizing e with
  | nil => rfl
  | cons x l ih =>
    rw [List.flatMap_cons, gather, List.foldl_append]
    exact (ih _).trans (congrArg (gather j · _) (e.absorb_cell x.1 x.2 j))

theorem Comb.absorbAll_mask (e : Comb) (l : List (Packet × AccPayload)) (j : Nat) :
    (e.absorbAll l).mask.getLsbD j = (e.mask.getLsbD j || l.any (·.2.mask.getLsbD j)) := by
  induction l generalizing e with
  | nil => exact (Bool.or_false _).symm
  | cons x l ih =>
    rw [List.any_cons, ← Bool.or_assoc, ← BitVec.getLsbD_or]
    exact ih _

/-- R503: the words absorbed are words of the entry. -/
theorem Comb.absorbAll_words (e : Comb) {l : List (Packet × AccPayload)} {w : Contribution}
    (hw : w ∈ l.flatMap fun x => accWords x.2) : w.1 ∈ (e.absorbAll l).words := by
  obtain ⟨x, hx, hw⟩ := List.mem_flatMap.mp hw
  obtain ⟨hlt, hmask⟩ := accWords_mem hw
  have hany : l.any (·.2.mask.getLsbD w.1) = true := List.any_eq_true.mpr ⟨x, hx, hmask⟩
  exact List.mem_filter.mpr ⟨List.mem_range.mpr hlt, by simp [Comb.absorbAll_mask, hany]⟩

/-- R504: a SUMMED packet brings the total of each word of its entry. -/
theorem Comb.summed_words (e : Comb) (i dev dom : Nat) (route : BitVec 39) (p : Packet) :
    ((e.summed i dev dom route p).acc.map accWords).getD [] = e.words.map fun j => (j, e.cell j) := by
  have each := List.zip_map' (f := id) (g := look 0 e.sums) (l := e.words)
  rw [List.map_id] at each
  simp only [Comb.summed, Option.map_some, Option.getD_some, accWords]
  rw [← Comb.words, each, List.map_map]
  rfl

theorem Comb.start_cell (p : Packet) (a : AccPayload) (j : Nat) : (Comb.start p a).cell j = (0, 0) :=
  Prod.ext rfl (BitVec.extractLsb'_zero ..)

/-- R501, R504: the totals of an entry that began empty add to each word what the packets absorbed add. -/
theorem Comb.gather_absorbAll {e : Comb} (he : ∀ j, e.cell j = (0, 0)) (l : List (Packet × AccPayload)) (j : Nat) (t : WordTotal) :
    gather j t ((e.absorbAll l).words.map fun i => (i, (e.absorbAll l).cell i)) = gather j t (l.flatMap fun x => accWords x.2) := by
  by_cases hj : j ∈ (e.absorbAll l).words
  case pos => rw [gather_map_of_nodup (Comb.words_nodup _) _ hj, Comb.absorbAll_cell, he, ← gather_eq_plus]
  case neg =>
    rw [gather_of_forall_ne (List.forall_mem_map.mpr fun i hi => ne_of_mem_of_not_mem hi hj),
      gather_of_forall_ne fun w hw => ne_of_mem_of_not_mem (e.absorbAll_words hw) hj]

/-- Settles O22: the SUMMED packet and the packets absorbed have the same total for every word. -/
theorem combiningNeverChangesAResult : Obligations.CombiningNeverChangesAResult := by
  intro s k p off i dev dom route p0 a0 l
  have totals (j : Nat) (t : WordTotal) :
      gather j t (((((Comb.start p0 a0).absorbAll l).summed i dev dom route p0).acc.map accWords).getD []) =
        gather j t (l.flatMap fun x => accWords x.2) := by
    rw [Comb.summed_words, Comb.gather_absorbAll (Comb.start_cell p0 a0)]
  exact ⟨s.accumulated_getByte_congr totals, s.accumulated_axaFlags_congr totals⟩

end Sys2Proof.Machine
end

section
/-! The conversion of a contribution (R494, R495): the magnitude at the anchor, truncated toward zero. -/

namespace Sys2Proof.Machine

/-- R494: m × 2^sh, truncated. -/
def scaled (m : Nat) (sh : Int) : Nat := if 0 ≤ sh then m * 2 ^ sh.toNat else m / 2 ^ (-sh).toNat

theorem scaled_of_nonneg {sh : Int} (h : 0 ≤ sh) (m : Nat) : scaled m sh = m * 2 ^ sh.toNat := if_pos h

theorem scaled_of_neg {sh : Int} (h : sh < 0) (m : Nat) : scaled m sh = m / 2 ^ (-sh).toNat := if_neg (not_le.mpr h)

theorem floor_scaled (m : Nat) (sh : Int) : ⌊(m : ℚ) * (2 : ℚ) ^ sh⌋ = (scaled m sh : Int) := by
  rcases le_or_gt 0 sh with h | h
  case inl =>
    lift sh to ℕ using h
    rw [scaled_of_nonneg (Int.natCast_nonneg sh), Int.toNat_natCast, zpow_natCast]
    exact_mod_cast Int.floor_natCast (m * 2 ^ sh)
  case inr =>
    obtain ⟨n, rfl⟩ : ∃ n : ℕ, sh = -n := ⟨(-sh).toNat, by omega⟩
    rw [scaled_of_neg h, neg_neg, Int.toNat_natCast, zpow_neg, zpow_natCast, ← div_eq_mul_inv]
    exact_mod_cast Rat.floor_natCast_div_natCast m (2 ^ n)

/-- R495: the value of a code of a format with `ew` bits of exponent and `mw` of mantissa. -/
def decodeFloat (code ew mw bias : Nat) (ieee : Bool) : Option (Bool × Nat × Int) :=
  if ieee && code / 2 ^ mw % 2 ^ ew == 2 ^ ew - 1 then none
  else if !ieee && code / 2 ^ mw % 2 ^ ew == 2 ^ ew - 1 && code % 2 ^ mw == 2 ^ mw - 1 then none
  else if code / 2 ^ mw % 2 ^ ew = 0 then some (code.testBit (ew + mw), code % 2 ^ mw, (1 : Int) - bias - mw)
  else some (code.testBit (ew + mw), code % 2 ^ mw + 2 ^ mw, ((code / 2 ^ mw % 2 ^ ew : Nat) : Int) - bias - mw)

theorem decodeFloat_lt {code ew mw bias : Nat} {ieee neg : Bool} {m : Nat} {e : Int}
    (h : decodeFloat code ew mw bias ieee = some (neg, m, e)) : m < 2 ^ (mw + 1) := by
  have hlt : code % 2 ^ mw < 2 ^ mw := Nat.mod_lt _ (by positivity)
  unfold decodeFloat at h
  split_ifs at h <;> cases h <;> omega

theorem contrib_eq (ty code : Nat) :
    contrib ty code = match ty with
      | 0 => decodeFloat code 8 23 127 true
      | 1 => decodeFloat code 8 7 127 true
      | 2 => decodeFloat code 4 3 7 false
      | _ => decodeFloat code 5 2 15 true := rfl

/-- R495: no type has a significand of more than 24 bits. -/
theorem contrib_lt {ty code : Nat} {neg : Bool} {m : Nat} {e : Int} (h : contrib ty code = some (neg, m, e)) : m < 2 ^ 24 := by
  rw [contrib_eq] at h
  split at h <;> exact (decodeFloat_lt h).trans_le (by decide)

/-- R494: a NaN or an infinity raises SPECIAL. -/
theorem convert_none {ty code : Nat} (h : contrib ty code = none) (anchor : Int) : convert ty code anchor = (0, 2) := by
  rw [convert, h]

/-- R494: every other contribution by its magnitude at the anchor. -/
theorem convert_some {ty code : Nat} {neg : Bool} {m : Nat} {e : Int} (h : contrib ty code = some (neg, m, e)) (anchor : Int) :
    convert ty code anchor =
      if 2 ^ 126 ≤ scaled m (e + 112 - anchor) then (0, 1)
      else (BitVec.ofInt 128 (if neg then -(scaled m (e + 112 - anchor)) else scaled m (e + 112 - anchor)), 0) := by
  have hm := contrib_lt h
  have signed (n : Nat) : BitVec.ofInt 128 (if neg then -(n : Int) else n) = if neg then -(BitVec.ofNat 128 n) else BitVec.ofNat 128 n := by
    split <;> simp only [BitVec.ofInt_neg, BitVec.ofInt_natCast]
  rw [convert, h, signed]
  dsimp only
  generalize e + 112 - anchor = sh
  rcases lt_or_ge sh 0 with hsh | hsh
  case inl =>
    have small : m / 2 ^ (-sh).toNat < 2 ^ 126 := (Nat.div_le_self ..).trans_lt (hm.trans (by decide))
    have magnitude : (if 200 ≤ -sh then 0 else m / 2 ^ (-sh).toNat) = m / 2 ^ (-sh).toNat := by
      split
      case isTrue far => exact (Nat.div_eq_of_lt (hm.trans_le (Nat.pow_le_pow_right (by decide) (by omega)))).symm
      case isFalse => rfl
    rw [if_neg (not_le.mpr hsh), scaled_of_neg hsh, if_neg (not_le.mpr small), magnitude]
  case inr =>
    rw [if_pos hsh, scaled_of_nonneg hsh]
    split
    · next h =>
      obtain ⟨hbig, hpos⟩ : 126 ≤ sh ∧ 0 < m := by simpa using h
      have large : 2 ^ 126 ≤ m * 2 ^ sh.toNat :=
        (Nat.pow_le_pow_right (by decide) (by omega)).trans (Nat.le_mul_of_pos_left _ hpos)
      rw [if_pos large]
    · rfl

/-- R494: the magnitude at the anchor, in units of 2^(anchor − 112). -/
theorem floor_atAnchor (m : Nat) (e anchor : Int) :
    ⌊(m : ℚ) * (2 : ℚ) ^ e * (2 : ℚ) ^ (112 - anchor)⌋ = (scaled m (e + 112 - anchor) : Int) := by
  rw [mul_assoc, ← zpow_add₀ two_ne_zero, ← add_sub_assoc, floor_scaled]

/-- R494: a contribution is out of range where its magnitude in those units is 2^126 or more. -/
theorem range_iff (m : Nat) (e anchor : Int) :
    (2 : ℚ) ^ (anchor + 14) ≤ (m : ℚ) * (2 : ℚ) ^ e ↔ 2 ^ 126 ≤ scaled m (e + 112 - anchor) := by
  have unit : (0 : ℚ) < (2 : ℚ) ^ (112 - anchor) := by positivity
  have bound : (2 : ℚ) ^ (anchor + 14) * (2 : ℚ) ^ (112 - anchor) = ((2 ^ 126 : ℤ) : ℚ) := by
    rw [← zpow_add₀ two_ne_zero, show anchor + 14 + (112 - anchor) = (126 : ℕ) by omega, zpow_natCast]
    norm_cast
  rw [← mul_le_mul_iff_of_pos_right unit, bound, ← Int.le_floor, floor_atAnchor]
  norm_cast

end Sys2Proof.Machine
end

section
/-! ACCUM (R137, R494, R496, R498). -/

namespace Sys2Proof.Machine

section

variable (s : Dev) {k p : Nat} {r : MemReq}

/-- R137: a request that the region table refuses. -/
theorem Dev.doAccum_refused {q : Packet} {code : Code} (hbad : s.accumBad r = some (q, code)) :
    s.doAccum k p noEcc r = s.refuse q code := by
  simp only [Dev.doAccum, Dev.eccApply_noEcc, hbad]

variable (hok : s.accumBad r = none)
include hok

/-- R498: a request whose line is clean. -/
theorem Dev.doAccum_clean (hclean : s.poisonBits k p r = 0) :
    s.doAccum k p noEcc r =
      ((((s.accumulated k p r.off ((r.acc.map accWords).getD [])).modStk k fun b =>
        { b with accums := b.accums + 1 }).recordTag k r 0).count (bankStack k) 0x43 1 none r.part).respond r.src [] 0 E_OK := by
  simp only [Dev.doAccum, Dev.eccApply_noEcc, hok, hclean, ne_eq, not_true_eq_false, if_false]

/-- R498: a request whose line is poisoned. -/
theorem Dev.doAccum_poisoned (hpoison : s.poisonBits k p r ≠ 0) : s.doAccum k p noEcc r = s.respond r.src [] 0 E_MEM_POISON := by
  simp only [Dev.doAccum, Dev.eccApply_noEcc, hok]
  exact if_pos hpoison

end

section

variable {s : State} {k p i : Nat} {r : MemReq} (hl : s.dev.live = true) (hk : k < 32) (hp : p < 31)
  (hq : (s.dev.chan k p).queue[i]? = some r) (hs : s.dev.mayServe k p i r = true) (ht : s.dev.tests.running = []) (h : r.kind = .accum)
include hl hk hp hq hs ht h

theorem answers_accum : answers (.accum k p i noEcc) s ((s.dev.taken k p i r).doAccum k p noEcc r) :=
  answers_act (exec_accum k p i noEcc s) (by simp [hk, hp]) hl (s.dev.serveWork_taken k p i r hq hs ht (by simp [h]) _)

end

/-- Settles O20: a request by whether the region table refuses it and whether its line is poisoned; a word by its bytes and its flags; a
contribution by its magnitude in units of 2^(anchor − 112). -/
theorem accumulationIsExact : Obligations.AccumulationIsExact := by
  refine ⟨fun k p i s r hl hk hp hq hs ht h => ?request, fun s k p off j v f => ?word, fun ty code anchor _ _ _ => ?contribution⟩
  case request =>
    have served := answers_accum hl hk hp hq hs ht h
    refine ⟨fun q code hbad => ?refused, fun hok hclean => ?clean, fun hok hpoison => ?poisoned⟩
    case refused => exact Dev.doAccum_refused (s.dev.taken k p i r) hbad ▸ served
    case clean =>
      exact Dev.doAccum_clean (s.dev.taken k p i r) hok ((s.dev.taken_poisonBits k p i r r).trans hclean) ▸ served
    case poisoned =>
      exact Dev.doAccum_poisoned (s.dev.taken k p i r) hok ((s.dev.taken_poisonBits k p i r r).trans_ne hpoison) ▸ served
  case word =>
    refine ⟨?_, s.accWord_axaFlags k p off (j, v, f), fun b hb => s.accWord_getByte k p off (j, v, f) hb,
      s.accWord_wf k p off (j, v, f)⟩
    rw [s.accWord_memRead k p off (j, v, f), ofBytes_toBytes]
    simp [plus, Dev.accCell]
  case contribution =>
    refine ⟨fun h => convert_none h anchor, fun neg m e h => ⟨fun hbig => ?_, fun hfits => ?_⟩⟩
    · rw [convert_some h, if_pos ((range_iff m e anchor).mp hbig)]
    · rw [convert_some h, if_neg (mt (range_iff m e anchor).mpr (not_le.mpr hfits)), floor_atAnchor]

end Sys2Proof.Machine
end

section
/-! Doorbells and the queue watchdog (R134, R563–R565, R584–R586): what POST does at a port, what a held queue keeps of an entry, and when
the oldest entry of a queue ends. -/

namespace Sys2Proof.Machine

variable {s : Dev} {port q : Nat}

/-! ### POST (R563–R565) -/

/-- R563: a port that does not serve the queue posts nothing. -/
theorem Dev.postFrom_closed (h : s.doorOpen port q = false) : s.postFrom port q = s := if_pos (by rw [h]; rfl)

theorem Dev.queue_count (s : Dev) (bank src n : Nat) (unit part vc : Option Nat) (q : Nat) :
    (s.count bank src n unit part vc).queue q = s.queue q := by
  rw [Dev.queue, Dev.count_host, Dev.queue]

section

variable (ho : s.doorOpen port q = true)
include ho

/-- R563–R565: a port that serves the queue counts the POST, and the number of entries decides. -/
theorem Dev.postFrom_open :
    s.postFrom port q =
      let d := s.count bankHub 0xCE 1 none (s.qOwner q)
      if 32 ≤ (s.queue q).entries.length then d.wakeEvent.modQueue q fun k => k.setLast port E_Q_FULL
      else (d.modQueue q fun k => k.setLast port E_OK).postEntry q (s.queue q).stage := by
  simp only [Dev.postFrom, ho, Bool.not_true, Bool.false_eq_true, if_false, Dev.queue_count]

/-- R564: a queue with a place takes a copy of STAGE. -/
theorem Dev.postFrom_place (hn : (s.queue q).entries.length < 32) :
    s.postFrom port q =
      ((s.count bankHub 0xCE 1 none (s.qOwner q)).modQueue q fun k => k.setLast port E_OK).postEntry q (s.queue q).stage :=
  (Dev.postFrom_open ho).trans (if_neg (not_le.mpr hn))

/-- R563, R565: a full queue takes nothing. -/
theorem Dev.postFrom_full (hn : 32 ≤ (s.queue q).entries.length) :
    s.postFrom port q = (s.count bankHub 0xCE 1 none (s.qOwner q)).wakeEvent.modQueue q fun k => k.setLast port E_Q_FULL :=
  (Dev.postFrom_open ho).trans (if_pos hn)

end

/-! ### A held queue (R134) -/

/-- R134, R564: outside P2 to P4 a held queue appends the entry, and does nothing else with it. -/
theorem Dev.postEntry_held (hq : s.qHeld q = true) (hl : s.pow.lat < 2) (e : Entry) :
    s.postEntry q e = s.modQueue q fun k =>
      { k with entries := k.entries ++ [{ seq := k.seq, e, started := false }], seq := k.seq + 1
               heldFrom := some (k.heldFrom.getD k.entries.length) } := by
  simp only [Dev.postEntry, hq, if_true]
  exact Dev.wakeEvent_awake (by rwa [Dev.modQueue_pow])

/-! ### The commands -/

section

variable {s : State} {d : Dev} (hl : s.dev.live = true)
include hl

theorem answers_post (hp : port < 2) (hq : q < 4096) (hd : s.dev.postFrom port q = d) : answers (.post port q) s d :=
  answers_act (exec_post port q s) (by simp [hp, hq]) hl hd

section

variable {e : QEntry} {l : List QEntry} (hq : q < 4096) (he : (s.dev.queue q).entries = e :: l)
include hq he

/-- R584, R586: in a queue for dispatch that is neither held nor in a test window, the oldest entry ends. -/
theorem answers_qProgressWdog_ends (ht : (s.dev.qType q == 1 || s.dev.qType q == 2 || s.dev.qType q == 3) = true)
    (hw : fldN (s.dev.reg 0 0xB00 0x64) 0 16 ≠ 0) (hh : s.dev.qHeld q = false) (hin : s.dev.inWindow ((s.dev.qOwner q).getD 8) = false) :
    answers (.qProgressWdog q) s
      (((s.dev.logE E_Q_PROGRESS_WDOG q).event ((s.dev.qOwner q).getD 8) 10 E_Q_PROGRESS_WDOG q).endOldest q e) := by
  refine answers_actIf (exec_qProgressWdog q s) (decide_eq_true hq) hl ?_
  simp only [he]
  exact if_neg (by rw [ht, beq_false_of_ne hw, hh, hin]; exact Bool.false_ne_true)

/-- R584: a time of 0 turns the watchdog off. -/
theorem answers_qProgressWdog_off (hw : fldN (s.dev.reg 0 0xB00 0x64) 0 16 = 0) : answers (.qProgressWdog q) s s.dev := by
  refine answers_actIf (exec_qProgressWdog q s) (decide_eq_true hq) hl ?_
  simp only [he]
  exact if_pos (by rw [beq_iff_eq.mpr hw, Bool.or_true, Bool.true_or, Bool.true_or])

end

end

/-- Settles O43: POST by its port and by the places of the queue, the watchdog by its time, an entry of a held queue by the queue's
numbers. -/
theorem doorbellsAndTheirWatchdog : Obligations.DoorbellsAndTheirWatchdog := by
  intro s port q hl hp hq
  refine ⟨fun hc => answers_post hl hp hq (Dev.postFrom_closed hc), fun ho => ?posted, fun e l he => ?watchdog, fun d e hh hlat => ?held⟩
  case posted =>
    exact ⟨fun hn => answers_post hl hp hq (Dev.postFrom_place ho hn), fun hn => answers_post hl hp hq (Dev.postFrom_full ho hn)⟩
  case watchdog => exact ⟨answers_qProgressWdog_ends hl hq he, answers_qProgressWdog_off hl hq he⟩
  case held =>
    rw [Dev.postEntry_held hh (by omega)]
    refine ⟨?_, ?_, fun r hr => Dev.queue_modQueue_ne d _ hr⟩ <;> rw [Dev.queue_modQueue]

end Sys2Proof.Machine
end

section
/-! Power modes and latency-tolerance states (R623–R625, R634, R643–R649, R652, R689): what a write of MODE, the end of a change and a
silent regulator leave of the power state, and the commands. -/

namespace Sys2Proof.Machine

variable (s : Dev)

/-! ### The voltages of the dies (R622) -/

theorem Dev.setDies_pow_change : s.setDies.pow.change = s.pow.change :=
  Dev.setDies_keeps s (g := (·.pow.change)) (fun _ _ => rfl) fun _ _ => rfl

variable {s} {m : BitVec 2}

/-! ### A write of MODE (R623, R625) -/

/-- R623: a write of code 3 is only logged. -/
theorem Dev.modeWrite_bad : s.modeWrite 3 = s.logE E_PWR_MODE_BAD 0 := if_pos rfl

/-- R623: from step 10 on, another code is the mode asked for. -/
theorem Dev.modeWrite_ready (hm : m ≠ 3) (hr : s.ready = true) :
    s.modeWrite m = ({ s with pow := { s.pow with mode := m } } : Dev).startChange m :=
  (if_neg hm).trans (if_pos hr)

/-- R625: a write during a change waits for its end. -/
theorem Dev.startChange_waits (hc : s.pow.change.isSome = true) : s.startChange m = { s with pow := { s.pow with later := some m } } :=
  if_pos hc

/-- R625: outside a change, a write of another mode than the one in force begins one. -/
theorem Dev.startChange_begins (hc : s.pow.change = none) (hm : s.pow.modeNow ≠ m) :
    (s.startChange m).pow.change = some m ∧ (s.startChange m).pow.mode = s.pow.mode ∧ (s.startChange m).pow.modeNow = s.pow.modeNow := by
  rw [Dev.startChange, if_neg (by simp [hc]), if_neg hm]
  exact ⟨rfl, rfl, rfl⟩

/-! ### The end of a change (R625, R634) -/

/-- R634: a change waits for the end of a dip. -/
theorem Dev.changeDone_dip (hd : s.dipInForce = true) : s.changeDone = s := by
  unfold Dev.changeDone
  split
  · rfl
  · exact if_pos hd

/-- R625: the dies run at the new mode. -/
theorem Dev.changeDone_ends (hc : s.pow.change = some m) (hd : s.dipInForce = false) (hl : s.pow.later = none) :
    s.changeDone = ({ s with pow := { s.pow with modeNow := m, change := none, later := none } } : Dev).setDies := by
  simp only [Dev.changeDone, hc, hd, Bool.false_eq_true, if_false, hl, Option.elim]

/-! ### A silent regulator (R689) -/

theorem Dev.logE_rail (s : Dev) (code : Code) (unit r : Nat) : (s.logE code unit).rail r = s.rail r := rfl

/-- R689: the rail of a silent regulator is marked. -/
theorem Dev.vrSilent_noAck (s : Dev) (r : Nat) : ((s.vrSilent r).rail (regRail r)).noAck = true := by
  have marked : ((((s.modRail (regRail r) fun x => { x with noAck := true }).logE E_VR_NO_ACK r).eventAll 9 E_VR_NO_ACK r).rail
      (regRail r)).noAck = true := by
    rw [Dev.eventAll_keeps (g := (·.rail (regRail r))) _ (fun _ _ => rfl) fun _ _ => rfl, Dev.logE_rail, Dev.rail_modRail]
  unfold Dev.vrSilent
  split
  · exact marked
  · exact marked

/-! ### Latency-tolerance states (R643–R647) -/

/-- R645: in P0 a write of a tolerance wakes nothing. -/
theorem Dev.latWrite_awake (h : s.pow.lat = 0) (port : Nat) (v : Word) :
    s.latWrite port v =
      { s with pow := if port = 0 then { s.pow with lt0 := fld v 0 20 } else { s.pow with lt1 := fld v 20 20 } } := by
  have kept : (if port = 0 then { s.pow with lt0 := fld v 0 20 } else { s.pow with lt1 := fld v 20 20 }).lat = 0 := by
    split <;> exact h
  exact if_neg (by simp [kept])

/-- R646: a device that is not idle enters no state. -/
theorem Dev.latEnter_busy (h : s.deviceIdle = false) : s.latEnter = s := if_pos (by simp [h])

/-- R643, R646: an idle device with the target P2 enters it. -/
theorem Dev.latEnter_p2 (hr : s.ready = true) (h6 : s.inReset 6 0 = false) (ht : s.latTarget = 2) (hn : s.pow.lat ≠ 2)
    (hw : s.pow.waking = false) (hi : s.deviceIdle = true) : s.latEnter = { s with pow := { s.pow with lat := 2 } } := by
  refine (if_neg (by simp [hr, h6, ht, hn.symm, hw, hi])).trans ((if_pos (by omega)).trans ?_)
  rw [ht]

/-- R647: a wake event ends P2. -/
theorem Dev.latExit_p2 (hl : s.pow.lat = 2) (hw : s.pow.waking = true) :
    s.latExit = { s with pow := { s.pow with lat := 0, waking := false }, cores := s.cores.map fun c => (c.1, { c.2 with p1 := false }) } :=
  (if_neg (by simp [hl, hw])).trans (if_pos (by simp [hl]))

/-! ### The commands -/

section

variable {s : State} (hl : s.dev.live = true)
include hl

section

variable {port : Nat} (hp : port < 2)
include hp

theorem answers_modeChange {d : Dev} (hd : s.dev.modeWrite m = d) : answers (.modeChange port m) s d :=
  answers_actIf (exec_modeChange port m s) (decide_eq_true hp) hl hd

section

variable (hm : m ≠ 3) (hr : s.dev.ready = true)
include hm hr

theorem answers_modeChange_waits (hc : s.dev.pow.change.isSome = true) :
    answers (.modeChange port m) s { s.dev with pow := { s.dev.pow with mode := m, later := some m } } :=
  answers_modeChange hl hp ((Dev.modeWrite_ready hm hr).trans (Dev.startChange_waits hc))

theorem answers_modeChange_begins (hc : s.dev.pow.change = none) (hn : s.dev.pow.modeNow ≠ m) :
    ∃ d : Dev, answers (.modeChange port m) s d ∧ d.pow.change = some m ∧ d.pow.mode = m ∧ d.pow.modeNow = s.dev.pow.modeNow :=
  ⟨_, answers_modeChange hl hp (Dev.modeWrite_ready hm hr), Dev.startChange_begins hc hn⟩

end

theorem answers_latTol (h : s.dev.pow.lat = 0) (v : Word) :
    answers (.latTol port v) s
      { s.dev with pow := if port = 0 then { s.dev.pow with lt0 := fld v 0 20 } else { s.dev.pow with lt1 := fld v 20 20 } } :=
  answers_actIf (exec_latTol port v s) (decide_eq_true hp) hl (Dev.latWrite_awake h port v)

end

theorem answers_modeChangeDone_ends (hc : s.dev.pow.change = some m) (hd : s.dev.dipInForce = false) (hn : s.dev.pow.later = none) :
    ∃ d : Dev, answers .modeChangeDone s d ∧ d.pow.modeNow = m ∧ d.pow.change = none := by
  refine ⟨_, answers_actIf (exec_modeChangeDone s) rfl hl (Dev.changeDone_ends hc hd hn), ?_, ?_⟩
  · rw [Dev.setDies_modeNow]
  · rw [Dev.setDies_pow_change]

theorem answers_vrNoAck {r : Nat} (hr : r < 8) : ∃ d : Dev, answers (.vrNoAck r) s d ∧ (d.rail (regRail r)).noAck = true :=
  ⟨_, answers_actIf (exec_vrNoAck r s) (decide_eq_true hr) hl rfl, s.dev.vrSilent_noAck r⟩

/-- R646: an idle core enters P1 where the target state lets it. -/
theorem answers_coreP1Entry {c : Nat} (hc : c < 32) (hr : s.dev.ready = true) (hu : s.dev.coreUsable c = true)
    (hb : s.dev.coreBusy c = false) (ht : 1 ≤ s.dev.latTarget) (hi : s.dev.coreIdle c = true) :
    answers (.coreP1Entry c) s (s.dev.modCore c fun k => { k with p1 := true }) :=
  answers_actIf (exec_coreP1Entry c s) (decide_eq_true hc) hl (if_pos (by simp [hr, hu, hb, ht, hi]))

end

/-- Settles O52: a write of MODE by its code and by the change in progress, the end of a change by the dip in force, entry and exit of P2
by what their rules ask for, a reference by whether it was there. -/
theorem modesAndLatencyStates : Obligations.ModesAndLatencyStates := by
  intro s hl
  have entered {d : Dev} (hd : s.dev.latEnter = d) : answers .latencyStateEntry s d :=
    answers_actIf (exec_latencyStateEntry s) rfl hl hd
  refine ⟨fun port hp => answers_modeChange hl hp Dev.modeWrite_bad, fun port m hp hm hr => ?writes,
    fun m => answers_modeChangeDone_ends hl, fun hd => ?dip, fun r => answers_vrNoAck hl, fun port v hp h => answers_latTol hl hp h v,
    fun c => answers_coreP1Entry hl, fun hr h6 ht hn hw hi => entered (Dev.latEnter_p2 hr h6 ht hn hw hi),
    fun hi => entered (Dev.latEnter_busy hi), fun h2 hw => ?wakes, fun hf => ?lost, ?returns⟩
  case writes => exact ⟨answers_modeChange_waits hl hp hm hr, answers_modeChange_begins hl hp hm hr⟩
  case dip => exact answers_actIf (exec_modeChangeDone s) rfl hl (Dev.changeDone_dip hd)
  case wakes => exact answers_actIf (exec_latencyStateExit s) rfl hl (Dev.latExit_p2 h2 hw)
  case lost => exact answers_actIf (exec_clkRefLost s) rfl hl (if_neg (by rw [hf]; exact Bool.false_ne_true))
  case returns => exact answers_actIf (exec_clkRefReturn s) rfl hl rfl

end Sys2Proof.Machine
end

section
/-! The power limit and dips (R626, R628–R633): the forced mode, the set voltage of a rail against a reading, and what a dip starts at
each rail. -/

namespace Sys2Proof.Machine

variable {s : Dev} {r k mv : Nat}

/-! ### The forced mode (R630) -/

theorem Dev.setDies_pow_forced (s : Dev) : s.setDies.pow.forced = s.pow.forced :=
  Dev.setDies_keeps s (g := (·.pow.forced)) (fun _ _ => rfl) fun _ _ => rfl

theorem Dev.eventAll_pow (s : Dev) (kind : Nat) (code : Code) (unit : Nat) (d0 d1 : Word) : (s.eventAll kind code unit d0 d1).pow = s.pow :=
  s.eventAll_keeps (g := Dev.pow) (fun _ _ => rfl) (fun _ _ => rfl) kind code unit d0 d1

theorem Dev.dieMode_of_forcedByPower (h : s.pow.forced = true) (n : Nat) : s.dieMode n = 2 := by
  rw [Dev.dieMode, h, Bool.true_or, if_pos rfl]

/-- R630: outside EFFICIENT a hundred rounds over the limit force every die. -/
theorem Dev.forceMode_forces (ho : 100 ≤ s.pow.overRounds) (hf : s.pow.forced = false) (hlog : s.pow.forceLogged = false)
    (hm : s.pow.modeNow ≠ 2) :
    s.forceMode = (({ s with pow := { s.pow with forced := true, forceLogged := true, easyRounds := 0 } } : Dev).logE
      E_PWR_MODE_FORCED 4).setDies.eventAll 9 E_PWR_MODE_FORCED 4 :=
  (if_neg (by simp [hf, hlog, ho])).trans (if_neg hm)

theorem Dev.forceMode_forced (ho : 100 ≤ s.pow.overRounds) (hf : s.pow.forced = false) (hlog : s.pow.forceLogged = false)
    (hm : s.pow.modeNow ≠ 2) : s.forceMode.pow.forced = true := by
  rw [Dev.forceMode_forces ho hf hlog hm, Dev.eventAll_pow, Dev.setDies_pow_forced, Dev.logE_pow]

/-! ### Rails (R631, R660) -/

theorem railStack_stack (hk : k < 32) : railStack (k + 6) = some k := if_pos (by omega)

theorem railStack_other (hr : r < 6 ∨ 38 ≤ r) : railStack r = none := if_neg (by omega)

theorem Dev.railThere_other (h : railStack r = none) : s.railThere r = true := by
  rw [Dev.railThere, h]
  rfl

theorem Dev.railThere_stack (hk : k < 32) : s.railThere (k + 6) = s.stackFitted k := by
  rw [Dev.railThere, railStack_stack hk]
  rfl

theorem Dev.railUnder_below {percent : Nat} (ht : s.railThere r = true) (h : 100 * mv < percent * s.railSet r) :
    s.railUnder r mv percent = true := by
  rw [Dev.railUnder, ht, decide_eq_true h]
  rfl

theorem Dev.railUnder_above {percent : Nat} (h : percent * s.railSet r ≤ 100 * mv) : s.railUnder r mv percent = false := by
  rw [Dev.railUnder, decide_eq_false (not_lt.mpr h), Bool.and_false]

theorem Dev.railUnder_absent (ht : s.railThere r = false) (mv percent : Nat) : s.railUnder r mv percent = false := by
  rw [Dev.railUnder, ht, Bool.false_and]

/-! ### The warning level (R631, R632) -/

theorem Dev.dip_other (h : railStack r = none) :
    s.dip r = s.modRail r fun x => { x with dips := min 0xFFF (x.dips + 1), dipped := true, toLog := true } := by
  rw [Dev.dip, h]
  rfl

theorem Dev.dipOver_other (h : railStack r = none) : s.dipOver r = s.modRail r fun x => { x with dipped := false } := by
  rw [Dev.dipOver, h]
  rfl

theorem Dev.rail_modStk (s : Dev) (k : Nat) (f : Stack → Stack) (r : Nat) : (s.modStk k f).rail r = s.rail r := rfl

theorem Stack.level_dipSteep {b : Stack} (h : b.dipSteep = true) : b.level = 15 := by
  rw [Stack.level, h, Bool.true_or, if_pos rfl]

/-- R631: the steep level of a stack whose rail dips is 15. -/
theorem Dev.dip_stack (h : railStack r = some k) : ((s.dip r).rail r).dipped = true ∧ ((s.dip r).stk k).level = 15 := by
  rw [Dev.dip, h, Option.elim]
  refine ⟨?_, Stack.level_dipSteep ?_⟩
  · rw [Dev.rail_modStk, Dev.rail_modRail]
  · rw [Dev.stk_modStk]

/-- R632: the end of the dip of a stack rail lets its steep level go. -/
theorem Dev.dipOver_stack (h : railStack r = some k) :
    ((s.dipOver r).rail r).dipped = false ∧ ((s.dipOver r).stk k).dipSteep = false := by
  rw [Dev.dipOver, h, Option.elim]
  refine ⟨?_, ?_⟩
  · rw [Dev.rail_modStk, Dev.rail_modRail]
  · rw [Dev.stk_modStk]

/-! ### The reset level (R631, R633) -/

theorem Dev.dipReset_stack (h : railStack r = some k) : s.dipReset r = s.beginStack k E_PWR_DIP_RESET false := by
  simp only [Dev.dipReset, h]

/-- R631: the dies, the links or the device that a rail feeds. -/
theorem Dev.dipReset_other (hr : r < 6 ∨ 38 ≤ r) :
    s.dipReset r =
      if r < 4 then s.beginDie r E_PWR_DIP_RESET false
      else if r = 5 then s.fold (List.range 4) fun s n => s.beginDie n E_PWR_DIP_RESET false
      else if r = 38 ∨ r = 39 then s.fold (List.range 14) fun s e => s.beginLink e E_PWR_DIP_RESET false
      else s.beginDevice E_PWR_DIP_RESET false := by
  simp only [Dev.dipReset, railStack_other hr]

/-! ### The commands -/

section

variable {s : State} {d : Dev} (hl : s.dev.live = true)
include hl

/-- R628: PSTEP falls after ten rounds, and not before. -/
theorem answers_pstepLower :
    (10 ≤ s.dev.pow.lowRounds →
      answers .pstepLower s { s.dev with pow := { s.dev.pow with pstep := s.dev.pow.pstep - 1, lowRounds := 0 } }) ∧
    (s.dev.pow.lowRounds < 10 → answers .pstepLower s s.dev) := by
  have answered {d : Dev} := answers_actIf (d := d) (exec_pstepLower s) rfl hl
  exact ⟨fun h => answered (if_neg (not_lt.mpr h)), fun h => answered (if_pos h)⟩

theorem answers_pwrModeForced (ho : 100 ≤ s.dev.pow.overRounds) (hf : s.dev.pow.forced = false) (hlog : s.dev.pow.forceLogged = false)
    (hm : s.dev.pow.modeNow ≠ 2) :
    ∃ d : Dev, answers .pwrModeForced s d ∧ d.pow.forced = true ∧ (∀ n, n < 4 → d.dieMode n = 2) := by
  have forced := Dev.forceMode_forced ho hf hlog hm
  exact ⟨_, answers_actIf (exec_pwrModeForced s) rfl hl rfl, forced, fun n _ => Dev.dieMode_of_forcedByPower forced n⟩

theorem answers_pwrForceEnd (he : 1000 ≤ s.dev.pow.easyRounds) (hf : s.dev.pow.forced = true) :
    ∃ d : Dev, answers .pwrForceEnd s d ∧ d.pow.forced = false := by
  refine ⟨_, answers_actIf (exec_pwrForceEnd s) rfl hl (if_pos (by rw [hf, decide_eq_true he]; rfl)), ?_⟩
  rw [Dev.setDies_pow_forced]

/-- R629: a current over the limit of the die's mode sets the floor. -/
theorem answers_pwrFastLimit {n amps : Nat} (hn : n < 4) :
    (amps ≤ modeAmps (s.dev.dieMode n) → answers (.pwrFastLimit ⟨n, amps⟩) s s.dev) ∧
    (modeAmps (s.dev.dieMode n) < amps → answers (.pwrFastLimit ⟨n, amps⟩) s
      ((s.dev.modDieT n fun d => { d with curFloor := min 15 (s.dev.powerStep n + 4) }).logE E_PWR_FAST_LIMIT n)) := by
  have answered {d : Dev} := answers_actIf (d := d) (exec_pwrFastLimit ⟨n, amps⟩ s) (decide_eq_true hn) hl
  exact ⟨fun h => answered (if_pos h), fun h => answered (if_neg (not_le.mpr h))⟩

section

variable (hr : r < 41)
include hr

theorem answers_dipWarn (hd : s.dev.when (s.dev.railUnder r mv 95) (·.dip r) = d) : answers (.dipWarn ⟨r, mv⟩) s d :=
  answers_actIf (exec_dipWarn ⟨r, mv⟩ s) (decide_eq_true hr) hl hd

theorem answers_dipReset (hd : s.dev.when (s.dev.railUnder r mv 90) (·.dipReset r) = d) : answers (.dipReset ⟨r, mv⟩) s d :=
  answers_actIf (exec_dipReset ⟨r, mv⟩ s) (decide_eq_true hr) hl hd

/-- R632: a rail back above 96 % of its set voltage. -/
theorem answers_dipFloorRelease (ht : s.dev.railThere r = true) (h : 96 * s.dev.railSet r < 100 * mv) (hd : s.dev.dipOver r = d) :
    answers (.dipFloorRelease ⟨r, mv⟩) s d :=
  answers_actIf (exec_dipFloorRelease ⟨r, mv⟩ s) (decide_eq_true hr) hl (by rw [ht, decide_eq_true h]; exact hd)

/-- R631: a reading under the warning level of a rail that is there. -/
theorem answers_dipWarn_below (ht : s.dev.railThere r = true) (h : 100 * mv < 95 * s.dev.railSet r) (hd : s.dev.dip r = d) :
    answers (.dipWarn ⟨r, mv⟩) s d :=
  answers_dipWarn hl hr (by rw [Dev.railUnder_below ht h]; exact hd)

/-- R631: a reading under the reset level of a rail that is there. -/
theorem answers_dipReset_below (ht : s.dev.railThere r = true) (h : 100 * mv < 90 * s.dev.railSet r) (hd : s.dev.dipReset r = d) :
    answers (.dipReset ⟨r, mv⟩) s d :=
  answers_dipReset hl hr (by rw [Dev.railUnder_below ht h]; exact hd)

end

theorem answers_pwrStackLost (hk : k < 32) (hd : s.dev.when (s.dev.railUnder (k + 6) mv 90) (·.stackLost k) = d) :
    answers (.pwrStackLost ⟨k, mv⟩) s d :=
  answers_actIf (exec_pwrStackLost ⟨k, mv⟩ s) (decide_eq_true hk) hl hd

end

/-- Settles O53: the counters of rounds at their bounds, a reading by its side of each level, a rail by what it feeds. -/
theorem powerLimitAndDips : Obligations.PowerLimitAndDips := by
  intro s hl
  obtain ⟨lower, still⟩ := answers_pstepLower hl
  refine ⟨lower, still, answers_pwrModeForced hl, answers_pwrForceEnd hl, fun n amps => answers_pwrFastLimit hl, fun r mv hr => ?dips,
    fun k mv hk => ?lost⟩
  case dips =>
    refine ⟨fun h => answers_dipWarn hl hr ?above, fun ht h => ?warns, fun ht h => ?resets, fun h => answers_dipReset hl hr ?high,
      fun ho h => ?restored, fun k hk ht h => ?released⟩
    case above | high => rw [Dev.railUnder_above h, Dev.when_false]
    case warns =>
      have answered {d : Dev} := answers_dipWarn_below (d := d) hl hr ht h
      exact ⟨fun ho => answered (Dev.dip_other ho), fun k hk => ⟨_, answered rfl, Dev.dip_stack hk⟩⟩
    case resets =>
      have answered {d : Dev} := answers_dipReset_below (d := d) hl hr ht h
      have other {d : Dev} (ho : r < 6 ∨ 38 ≤ r) (hd) := answered (d := d) ((Dev.dipReset_other ho).trans hd)
      refine ⟨fun k hk => answered (Dev.dipReset_stack hk), fun hd => other (by omega) (if_pos hd), ?sram, ?photonic, ?device⟩
      case sram => rintro rfl; exact other (by omega) rfl
      case photonic => rintro (rfl | rfl) <;> exact other (by omega) rfl
      case device => rintro (rfl | rfl) <;> exact other (by omega) rfl
    case restored => exact answers_dipFloorRelease hl hr (Dev.railThere_other ho) h (Dev.dipOver_other ho)
    case released => exact ⟨_, answers_dipFloorRelease hl hr ht h rfl, Dev.dipOver_stack hk⟩
  case lost =>
    refine ⟨fun hf h => answers_pwrStackLost hl hk ?below, fun hf => answers_pwrStackLost hl hk ?absent⟩
    case below => rw [Dev.railUnder_below ((Dev.railThere_stack hk).trans hf) h]; rfl
    case absent => rw [Dev.railUnder_absent ((Dev.railThere_stack hk).trans hf)]; rfl

end Sys2Proof.Machine
end

section
/-! Core resets (R92, R138, R180–R186, R190, R191): what the reset of a core leaves of its store and of the memory. -/

namespace Sys2Proof.Machine

/-- What `g` says of the state reads no record of tests, hosts, links, counters, groups, image or recovery, and of a core its store and
its reset only. -/
structure ReadsStores {β : Type} (g : Dev → β) : Prop where
  tests : ∀ s v, g { s with tests := v } = g s
  img : ∀ s v, g { s with img := v } = g s
  d2d : ∀ s v, g { s with d2d := v } = g s
  sync : ∀ s v, g { s with sync := v } = g s
  fab : ∀ s v, g { s with fab := v } = g s
  coll : ∀ s v, g { s with coll := v } = g s
  host : ∀ s v, g { s with host := v } = g s
  rcv : ∀ s v, g { s with rcv := v } = g s
  evc : ∀ s v, g { s with evc := v } = g s
  outbox : ∀ s v, g { s with outbox := v } = g s
  core : ∀ (s : Dev) c (f : Core → Core), (∀ k, (f k).store = k.store) → (∀ k, (f k).resetting = k.resetting) → g (s.modCore c f) = g s

theorem readsStores_mem : ReadsStores Dev.mem := by constructor <;> intros <;> rfl

/-- A change of a core that keeps a part of it leaves that part of every core. -/
theorem Dev.core_modCore_keeps {β : Type} (g : Core → β) {f : Core → Core} (h : ∀ k, g (f k) = g k) (s : Dev) (b c : Nat) :
    g ((s.modCore b f).core c) = g (s.core c) := by
  by_cases hc : c = b
  · rw [hc, Dev.core_modCore, h]
  · rw [Dev.core_modCore_ne _ _ hc]

theorem readsStores_store (c : Nat) : ReadsStores fun s => (s.core c).store := by
  constructor
  case core => exact fun s b f hs _ => Dev.core_modCore_keeps (·.store) hs s b c
  all_goals intros; rfl

theorem readsStores_resetting (c : Nat) : ReadsStores fun s => (s.core c).resetting := by
  constructor
  case core => exact fun s b f _ hr => Dev.core_modCore_keeps (·.resetting) hr s b c
  all_goals intros; rfl

section

variable {β : Type} {g : Dev → β} (s : Dev)

theorem Dev.reloadHit_keeps (hi : ∀ s v, g { s with img := v } = g s) (c : Nat) : g (s.reloadHit c) = g s := by
  unfold Dev.reloadHit
  split
  · split
    · exact hi s _
    · rfl
  · rfl

theorem Dev.putCapture_keeps (hr : ∀ s v, g { s with rcv := v } = g s) (domain unit : Nat) (cause : Code) (body : List Word) :
    g (s.putCapture domain unit cause body) = g s := by
  unfold Dev.putCapture
  simp only
  split <;> exact hr s _

end

namespace ReadsStores

variable {β : Type} {g : Dev → β} (hg : ReadsStores g) (s : Dev) (c : Nat)
include hg

/-! ### Arrays and threads -/

theorem modArr (a : Nat) (f : MArray → MArray) : g (s.modArr c a f) = g s :=
  hg.core s c (fun k => if a = 0 then { k with a0 := f (s.arr c a) } else { k with a1 := f (s.arr c a) })
    (fun k => by split <;> rfl) fun k => by split <;> rfl

theorem modThr (x : Tid) (f : Thread → Thread) : g (s.modThr x f) = g s :=
  hg.core s x.core (fun k => { k with threads := put {} k.threads x.thr (f (s.thr x)) }) (fun _ => rfl) fun _ => rfl

theorem addCtr (i : Nat) (v : Word) (cause : Code) : g (s.addCtr i v cause) = g s := s.addCtr_keeps hg.sync hg.evc hg.coll i v cause

theorem raiseGroup (q : Nat) (cause : Code) : g (s.raiseGroup q cause) = g s := s.raiseGroup_keeps hg.sync hg.evc hg.coll q cause

/-! ### Tests that stop (R92) -/

theorem testReport (kind unit result : Nat) (code : Code) : g (s.testReport kind unit result code) = g s := by
  unfold Dev.testReport
  refine (Dev.fold_keeps g (fun s n => ?_) _ _).trans (hg.tests s _)
  rw [Dev.when_keeps g _ _ (Dev.msix_keeps _ hg.host hg.outbox _ _), Dev.event_keeps _ hg.host hg.outbox]

theorem testLeave (kind unit : Nat) : g (s.testLeave kind unit) = g s := by
  unfold Dev.testLeave
  split
  · exact (hg.modArr _ _ _ _).trans (hg.tests s _)
  · exact (hg.d2d _ _).trans (hg.tests s _)
  · exact (hg.fab _ _).trans (hg.tests s _)
  · exact hg.tests s _

theorem stopTest (kind unit : Nat) : g (s.stopTest kind unit) = g s := by
  unfold Dev.stopTest
  split
  · rw [hg.testReport, hg.tests, hg.testLeave]
  · rfl

theorem resetTests (hit : Nat → Nat → Bool) : g (s.resetTests hit) = g s :=
  Dev.fold_keeps g (fun s (r : TestRun) => hg.stopTest s r.kind r.unit) s _

/-! ### The steps of a core reset (R184) -/

theorem reloadHit : g (s.reloadHit c) = g s := s.reloadHit_keeps hg.img c

theorem capture (domain unit : Nat) (cause : Code) : g (s.capture domain unit cause) = g s := s.putCapture_keeps hg.rcv domain unit cause _

theorem endArr (a : Nat) (k : ArrInsn) (code : Code) : g (s.endArr c a k code) = g s := by
  unfold Dev.endArr
  simp only
  split
  · exact hg.modThr s _ _
  · split
    · split
      · exact (hg.addCtr _ _ _ _).trans (hg.modThr s _ _)
      · exact hg.modThr s _ _
    · exact hg.modThr s _ _

theorem emptyArr (a : Nat) (code : ArrInsn → Code) : g (s.emptyArr c a code) = g s := by
  unfold Dev.emptyArr
  exact (Dev.fold_keeps g (fun s k => hg.endArr s c a k _) _ _).trans
    ((hg.core _ c _ (by intro k; rfl) (by intro k; rfl)).trans (hg.modArr s c a _))

theorem arrayReset (a : Nat) (code : ArrInsn → Code) : g (s.arrayReset c a code) = g s := by
  unfold Dev.arrayReset
  split
  · rfl
  · exact (hg.emptyArr _ c a _).trans ((hg.modArr _ c a _).trans (hg.resetTests s _))

theorem coreHalt : g (s.coreHalt c) = g s := by
  unfold Dev.coreHalt
  exact (hg.arrayReset _ c 1 _).trans ((hg.arrayReset _ c 0 _).trans (hg.core s c _ (by intro k; rfl) (by intro k; rfl)))

end ReadsStores

/-- R92, R138, R186: the device of a core that is held, before its threads are. -/
def Dev.coreDisturbed (s : Dev) (c : Nat) : Dev :=
  ((s.resetTests fun kind unit => (kind == 1 && unit == c) || (kind == 2 && unit / 2 == c)).fold (List.range 16) fun s t =>
    match (s.thr ⟨c, t⟩).legOf with
    | some q => if ((s.group q).bind (·.raised)).isNone then s.raiseGroup q E_CORE_RESET else s
    | none => s).reloadHit c

theorem ReadsStores.coreDisturbed {β : Type} {g : Dev → β} (hg : ReadsStores g) (s : Dev) (c : Nat) : g (s.coreDisturbed c) = g s := by
  unfold Dev.coreDisturbed
  refine (hg.reloadHit _ c).trans ((Dev.fold_keeps g (fun s t => ?_) _ _).trans (hg.resetTests s _))
  split
  · split
    · exact hg.raiseGroup s _ _
    · rfl
  · rfl

/-! ### A core reset begins (R174, R184) -/

section

variable (s : Dev) (c : Nat)

theorem Dev.coreHold_eq : s.coreHold c = (s.coreDisturbed c).modCore c fun k =>
    { k with resetting := true, threads := (List.range 16).map fun t => (t, (look {} k.threads t).hold) } := rfl

theorem Dev.coreHold_resetting : ((s.coreHold c).core c).resetting = true := by
  rw [Dev.coreHold_eq, Dev.core_modCore]

theorem Dev.coreHold_store : ((s.coreHold c).core c).store = (s.core c).store := by
  rw [Dev.coreHold_eq, Dev.core_modCore_keeps (·.store) (by intro k; rfl)]
  exact (readsStores_store c).coreDisturbed s c

theorem Dev.coreHold_mem : (s.coreHold c).mem = s.mem := by
  rw [Dev.coreHold_eq, Dev.modCore_mem]
  exact readsStores_mem.coreDisturbed s c

end

/-- R191: the device whose record of the reset has been written. -/
def Dev.resetRecorded (s : Dev) (c : Nat) (cause : Code) : Dev :=
  (s.lastReset 2 c cause).modCore c fun k => { k with resetCount := sat8 k.resetCount, resetCause := cause }

theorem ReadsStores.resetRecorded {β : Type} {g : Dev → β} (hg : ReadsStores g) (s : Dev) (c : Nat) (cause : Code) :
    g (s.resetRecorded c cause) = g s :=
  (hg.core _ c _ (by intro k; rfl) (by intro k; rfl)).trans (hg.rcv s _)

theorem Dev.beginCore_ok {s : Dev} {c : Nat} (hu : s.coreUsable c = true) (hb : s.coreBusy c = false) :
    s.beginCore c E_OK = (((s.resetRecorded c E_OK).coreHold c).capture 2 c E_OK).coreHalt c :=
  if_neg (by simp [hu, hb])

theorem ReadsStores.beginCore {β : Type} {g : Dev → β} (hg : ReadsStores g) {s : Dev} {c : Nat} (hu : s.coreUsable c = true)
    (hb : s.coreBusy c = false) : g (s.beginCore c E_OK) = g ((s.resetRecorded c E_OK).coreHold c) := by
  rw [Dev.beginCore_ok hu hb, hg.coreHalt, hg.capture]

/-- R174, R184: the store of a core outlives its reset, and so does the memory. -/
theorem Dev.beginCore_effect {s : Dev} {c : Nat} (hu : s.coreUsable c = true) (hb : s.coreBusy c = false) :
    ((s.beginCore c E_OK).core c).resetting = true ∧ ((s.beginCore c E_OK).core c).store = (s.core c).store ∧
      (s.beginCore c E_OK).mem = s.mem :=
  ⟨((readsStores_resetting c).beginCore hu hb).trans (Dev.coreHold_resetting _ c),
    ((readsStores_store c).beginCore hu hb).trans
      ((Dev.coreHold_store _ c).trans ((readsStores_store c).resetRecorded s c E_OK)),
    (readsStores_mem.beginCore hu hb).trans ((Dev.coreHold_mem _ c).trans (readsStores_mem.resetRecorded s c E_OK))⟩

/-- Settles O33: each command by the branch that its premises choose; a reset that begins changes neither the store nor the memory. -/
theorem coreResets : Obligations.CoreResets := by
  intro s x a hl hx ha c
  have hc : c < 32 := by simp only [Tid.ok, Bool.and_eq_true, decide_eq_true_eq] at hx; exact hx.1
  have reset (src : ResetSrc) : (Instr.coreReset src c).wf = true := decide_eq_true hc
  have hub (cause : Code) : answers (.coreReset (.hub cause) c) s (s.dev.beginCore c cause) :=
    answers_act (exec_coreReset _ c s) (reset _) hl rfl
  refine ⟨fun port => ⟨fun h => ?own, fun h => ?foreign⟩, hub, fun hr h3 h6 => ⟨fun hback => ?done, ?late⟩, fun h => ?thread,
    fun hst hb => ?array, fun hu hb => ⟨_, hub E_OK, Dev.beginCore_effect hu hb⟩⟩
  case own => exact answers_act (exec_coreReset _ c s) (reset _) hl (if_neg (by simp [h]))
  case foreign => exact answers_act (exec_coreReset _ c s) (reset _) hl (if_pos (by simp [h]))
  case done => exact answers_actIf (exec_coreResetDone c s) (decide_eq_true hc) hl (if_neg (by simp [hr, h3, h6, hback]))
  case late => exact answers_act (exec_coreResetEscalate c s) (decide_eq_true hc) hl (if_neg (by simp [hr, h3, h6]))
  case thread => exact answers_act (exec_threadResetEscalate x s) hx hl (if_neg (not_not_intro h))
  case array => exact answers_act (exec_arrayResetEscalate c a s) (by simp [hc, ha]) hl (if_neg (by simp [hst, hb]))

end Sys2Proof.Machine
end

section
/-! NOP, END, ICINV, RKEY and RDSYS (R155, R284–R286, R316): the words that RDSYS returns, and the instructions. -/

namespace Sys2Proof.Machine

/-! ### The words of RDSYS (R284, R442) -/

theorem at_zero (n : Nat) : at_ 0 n = BitVec.ofNat 64 n := by
  rw [at_, Nat.pow_zero, Nat.mul_one]

/-- Two fields of a word, the lower below 2^i, as one. -/
theorem at_joins {a b i : Nat} (ha : a < 2 ^ i) : at_ 0 a ||| at_ i b = at_ 0 (a + b * 2 ^ i) := (at_or_at ha).trans (at_zero _).symm

/-- R284: the number that each code of RDSYS returns. -/
def Dev.sysNum (s : Dev) (x : Tid) (n : Nat) : Nat :=
  let t := s.thr x
  let k := (t.work.map (·.ctx)).getD 0
  match n with
  | 0 => (s.core x.core).cycle.toNat
  | 1 => x.thr + x.core * 2 ^ 8 + ((s.partOfCore x.core).getD 0) * 2 ^ 16 + s.devNum * 2 ^ 32 + s.domNum * 2 ^ 48
  | 2 => k + (s.ctx k).gen.toNat * 2 ^ 16 + (s.ctx k).job.toNat * 2 ^ 32
  | 3 => t.epoch.toNat
  | 4 => t.remCode.toNat + t.remCount.toNat * 2 ^ 16
  | _ => t.rk.toNat

theorem Dev.sysReg_eq {s : Dev} {x : Tid} {n : Nat} (hx : x.ok = true) (hn : n < 6) (hp : (s.partOfCore x.core).getD 0 < 8)
    (hdev : s.devNum < 2 ^ 14) (hk : ((s.thr x).work.map (·.ctx)).getD 0 < 1024) :
    s.sysReg x n = some (BitVec.ofNat 64 (s.sysNum x n)) := by
  obtain ⟨hcore, hthr⟩ : x.core < 32 ∧ x.thr < 16 := by simpa [Tid.ok] using hx
  match n, hn with
  | 0, _ => exact congrArg some (by rw [Dev.sysNum, BitVec.ofNat_toNat, BitVec.setWidth_eq])
  | 1, _ =>
    refine congrArg some ?_
    rw [at_joins (by omega), at_joins (by omega), at_joins (by omega), at_or_at (by omega)]
    rfl
  | 2, _ =>
    have hgen := (s.ctx (((s.thr x).work.map (·.ctx)).getD 0)).gen.isLt
    refine congrArg some ?_
    rw [at_joins (by omega), at_or_at (by omega)]
    rfl
  | 3, _ => exact congrArg some (BitVec.ofNat_toNat 64 (s.thr x).epoch).symm
  | 4, _ => exact congrArg some (at_or_at (s.thr x).remCode.isLt)
  | 5, _ => exact congrArg some (BitVec.ofNat_toNat 64 (s.thr x).rk).symm

theorem Dev.issued_sysReg (s : Dev) (x : Tid) (n : Nat) : (s.issued x).sysReg x n = s.sysReg x n :=
  Dev.issued_keeps (fun s => s.sysReg x n) (fun _ _ => rfl) (fun _ _ => rfl) s x

/-! ### The instructions -/

/-- Settles O3: each instruction by its effect once its fields pass their check; RDSYS by the number that its code returns. -/
theorem threadStateInstructionResults : Obligations.ThreadStateInstructionResults := by
  refine ⟨fun x i s => ⟨fun h hfmt => ⟨?nop, ?icinv⟩, fun h hfmt => ?rkey, fun h hfmt hn => ?rdsys⟩, fun x i s h hfmt => ?endWork⟩
  case nop => exact answers_checked (exec_nop x i s) rfl h hfmt rfl
  case icinv => exact answers_checked (exec_icinv x i s) rfl h hfmt rfl
  case rkey =>
    refine answers_checked (exec_rkey x i s) rfl h hfmt ?_
    simp only [BitVec.ofNat_toNat]
  case rdsys =>
    intro t k v hp hdev _ hk
    have hreg : (s.dev.issued x).sysReg x i.upper.toNat = some (BitVec.ofNat 64 v) :=
      (s.dev.issued_sysReg x _).trans (Dev.sysReg_eq (Dev.issues_live h).2 hn hp hdev hk)
    refine answers_issue (exec_rdsys x i s) rfl h ?_
    rw [hreg, Dev.checked_ok (by rw [hfmt]; rfl)]
    simp only [hreg, Option.getD_some]
  case endWork => exact answers_issue (exec_endWork x i s) rfl h (Dev.checked_ok hfmt _)

end Sys2Proof.Machine
end

section
/-! Fetch, issue and the scheduler (R156, R163, R184, R278, R282, R313, R316, R336): what a line that arrives leaves of the core, why an
instruction does not issue, the round-robin of a class, and the fields that fault. -/

namespace Sys2Proof.Machine

/-! ### A line arrives (R163, R172, R316, R336) -/

section

variable {x : Tid} {s : Dev}

theorem Dev.touchLine_keeps {β : Type} {g : Dev → β} (h : ∀ (s : Dev) c off n, g (s.storeTouch c off n) = g s) (s : Dev) (a : Nat) :
    g (s.touchLine a) = g s := by
  unfold Dev.touchLine
  split
  · exact h s _ _ _
  · rfl

theorem Dev.core_storeTouch {β : Type} (g : Core → β)
    (h : ∀ (k : Core) soft corr uncorr word, g { k with storeSoft := soft, errCorr := corr, errUncorr := uncorr, errWord := word } = g k)
    (s : Dev) (b off n c : Nat) : g ((s.storeTouch b off n).core c) = g (s.core c) := by
  unfold Dev.storeTouch
  exact Dev.core_modCore_keeps g (fun k => h k _ _ _ _) s b c

theorem Dev.touchLine_thr (s : Dev) (a : Nat) (y : Tid) : (s.touchLine a).thr y = s.thr y :=
  Dev.touchLine_keeps (g := fun s => s.thr y) (fun s c off n => s.thr_storeTouch c off n y) s a
theorem Dev.touchLine_mem (s : Dev) (a : Nat) : (s.touchLine a).mem = s.mem := Dev.touchLine_keeps (fun _ _ _ _ => rfl) s a
theorem Dev.touchLine_icache (s : Dev) (a c : Nat) : ((s.touchLine a).core c).icache = (s.core c).icache :=
  Dev.touchLine_keeps (g := fun s => (s.core c).icache) (fun s b off n => s.core_storeTouch (·.icache) (fun _ _ _ _ _ => rfl) b off n c) s a
theorem Dev.touchLine_store (s : Dev) (a c : Nat) : ((s.touchLine a).core c).store = (s.core c).store :=
  Dev.touchLine_keeps (g := fun s => (s.core c).store) (fun s b off n => s.core_storeTouch (·.store) (fun _ _ _ _ _ => rfl) b off n c) s a

/-- R163: the lines of a core once `line` has taken the place of the one that its fetch chose. -/
def Core.fill (k : Core) (line victim : Nat) : Core :=
  { k with icache :=
      let set := k.icache.filter fun l => l % 128 == line % 128
      let kept := if 4 ≤ set.length then k.icache.filter (· != set.getD (victim % 4) 0) else k.icache
      addNew kept line }

theorem addNew_contains {α : Type} [DecidableEq α] (l : List α) (a : α) : (addNew l a).contains a = true := by
  unfold addNew
  split
  · next h => exact List.contains_iff_mem.mpr h
  · simp

/-- R163, R316: the device once the line of thread `x` has come without an error. -/
def Dev.lineArrived (s : Dev) (x : Tid) (victim : Nat) : Dev :=
  let d := s.touchLine (128 * lineOf (s.thr x).pc)
  if (s.thr x).line = .overtaken then d.modThr x fun t => { t with st := .ready, line := .atHand }
  else (d.modCore x.core (·.fill (lineOf (s.thr x).pc) victim)).modThr x fun t => { t with st := .ready }

theorem Dev.lineArrived_overtaken {victim : Nat} (h : (s.thr x).line = .overtaken) :
    s.lineArrived x victim =
      (s.touchLine (128 * lineOf (s.thr x).pc)).modThr x fun t => { t with st := .ready, line := .atHand } := if_pos h

theorem Dev.lineArrived_held {victim : Nat} (h : (s.thr x).line ≠ .overtaken) :
    s.lineArrived x victim = ((s.touchLine (128 * lineOf (s.thr x).pc)).modCore x.core
      (·.fill (lineOf (s.thr x).pc) victim)).modThr x fun t => { t with st := .ready } := if_neg h

/-- What a line that arrives leaves as it is. -/
theorem Dev.lineArrived_keeps (s : Dev) (x : Tid) (victim : Nat) :
    (∀ y, y ≠ x → (s.lineArrived x victim).thr y = s.thr y) ∧ (s.lineArrived x victim).mem = s.mem ∧
      ∀ c, ((s.lineArrived x victim).core c).store = (s.core c).store := by
  by_cases h : (s.thr x).line = .overtaken
  · rw [Dev.lineArrived_overtaken h]
    refine ⟨fun y hy => ?_, ?_, fun c => ?_⟩
    · rw [Dev.thr_modThr_ne _ _ hy, Dev.touchLine_thr]
    · rw [Dev.modThr_mem, Dev.touchLine_mem]
    · rw [Dev.store_modThr, Dev.touchLine_store]
  · rw [Dev.lineArrived_held h]
    refine ⟨fun y hy => ?_, ?_, fun c => ?_⟩
    · rw [Dev.thr_modThr_ne _ _ hy, Dev.thr_modCore _ (by intro k; rfl), Dev.touchLine_thr]
    · rw [Dev.modThr_mem, Dev.modCore_mem, Dev.touchLine_mem]
    · rw [Dev.store_modThr, Dev.core_modCore_keeps (·.store) (by intro k; rfl), Dev.touchLine_store]

theorem Dev.lineArrived_thr (s : Dev) (x : Tid) (victim : Nat) :
    (s.lineArrived x victim).thr x =
      { s.thr x with st := .ready, line := if (s.thr x).line = .overtaken then .atHand else (s.thr x).line } := by
  by_cases h : (s.thr x).line = .overtaken
  · rw [Dev.lineArrived_overtaken h, Dev.thr_modThr, Dev.touchLine_thr, if_pos h]
  · rw [Dev.lineArrived_held h, Dev.thr_modThr, Dev.thr_modCore _ (by intro k; rfl), Dev.touchLine_thr, if_neg h]

/-- R316: a line whose fetch was overtaken is not held. -/
theorem Dev.lineArrived_icache_overtaken {victim : Nat} (h : (s.thr x).line = .overtaken) (c : Nat) :
    ((s.lineArrived x victim).core c).icache = (s.core c).icache := by
  rw [Dev.lineArrived_overtaken h, Dev.icache_modThr, Dev.touchLine_icache]

theorem Dev.lineArrived_icache_held {victim : Nat} (h : (s.thr x).line ≠ .overtaken) :
    ((s.lineArrived x victim).core x.core).icache.contains (lineOf (s.thr x).pc) = true := by
  rw [Dev.lineArrived_held h, Dev.icache_modThr, Dev.core_modCore]
  exact addNew_contains _ _

theorem Dev.lineArrived_hasInsn (s : Dev) (x : Tid) (victim : Nat) : (s.lineArrived x victim).hasInsn x = true := by
  rw [Dev.hasInsn, Dev.lineArrived_thr, Bool.or_eq_true]
  by_cases h : (s.thr x).line = .overtaken
  · exact .inr (by rw [if_pos h]; rfl)
  · exact .inl (Dev.lineArrived_icache_held h)

end

section

variable {x : Tid} {s : State} {victim : Nat} (hx : x.ok = true) (hv : victim < 512) (hl : s.dev.live = true)
  (hst : (s.dev.thr x).st = .parkedFetch) (hr : s.dev.coreRuns x.core = true)
include hx hv hl hst hr

theorem answers_fetchLineArrive_poisoned :
    answers (.fetchLineArrive x victim true) s ((s.dev.touchLine (128 * lineOf (s.dev.thr x).pc)).faultThr x E_LOAD_POISON) :=
  answers_act (exec_fetchLineArrive x victim true s) (by simp [hx, hv]) hl ((if_neg (by simp [hst, hr])).trans (if_pos rfl))

theorem answers_fetchLineArrive_clean (hp : s.dev.linePoisoned (128 * lineOf (s.dev.thr x).pc) = false) :
    answers (.fetchLineArrive x victim false) s (s.dev.lineArrived x victim) :=
  answers_act (exec_fetchLineArrive x victim false s) (by simp [hx, hv]) hl
    ((if_neg (by simp [hst, hr])).trans (if_neg (by simp [hp])))

end

/-! ### Why an instruction does not issue (R156, R163) -/

section

variable {s : Dev} {x : Tid} (reads : List (BitVec 5)) (sem : Dev → Dev)

theorem Dev.issue_idle (h : (s.thr x).st ≠ .ready ∨ s.coreRuns x.core = false) : s.issue x reads sem = s :=
  if_pos (by simpa using h)

variable (hst : (s.thr x).st = .ready) (hr : s.coreRuns x.core = true)
include hst hr

theorem Dev.issue_badFetch (h : s.fetchOk x.core (s.thr x).pc.toNat = false ∨ (s.thr x).pcOut = true) :
    s.issue x reads sem = s.faultThr x E_FETCH_ADDR :=
  (if_neg (by simp [hst, hr])).trans (if_pos (by simpa using h))

variable (hf : s.fetchOk x.core (s.thr x).pc.toNat = true) (hp : (s.thr x).pcOut = false)
include hf hp

theorem Dev.issue_miss (h : s.hasInsn x = false) :
    s.issue x reads sem = (s.count (bankCore x.core) 0x10 1 (some x.thr)).modThr x Thread.miss :=
  (if_neg (by simp [hst, hr])).trans ((if_neg (by simp [hf, hp])).trans (if_pos (by simp [h])))

theorem Dev.issue_unchosen (h : s.hasInsn x = true) (ha : (s.thr x).awaiting = []) (hc : s.chosen x = false) :
    s.issue x reads sem = s :=
  (if_neg (by simp [hst, hr])).trans ((if_neg (by simp [hf, hp])).trans ((if_neg (by simp [h])).trans
    ((if_neg (by simp [ha])).trans (if_pos (by simp [hc])))))

end

/-- The command issues an instruction of thread `x`. -/
def issuesOn (c : Instr) (x : Tid) : Prop :=
  c.wf = x.ok ∧ ∃ (reads : List (BitVec 5)) (sem : Dev → Dev), ∀ s, exec c s = act c (fun s => s.issue x reads sem) s

/-- R280: every listed opcode is that of an instruction, which issues as the others do. -/
theorem issuesOn_of_coreInstr {opc : Nat} {x : Tid} {i : Insn} {c : Instr} (h : coreInstr opc x i = some c) : issuesOn c x := by
  unfold coreInstr at h
  split at h <;> cases h <;> exact ⟨rfl, _, _, fun _ => rfl⟩

theorem answers_of_issuesOn {c : Instr} {x : Tid} {s : State} {d : Dev} (h : issuesOn c x) (hx : x.ok = true) (hl : s.dev.live = true)
    (hd : ∀ reads sem, s.dev.issue x reads sem = d) : answers c s d := by
  obtain ⟨hc, reads, sem, he⟩ := h
  exact answers_act (he s) (hc.trans hx) hl (hd reads sem)

/-- R278: a word whose opcode is not listed. -/
theorem answers_illegalInstruction {x : Tid} {w : Word} {s : State} (h : s.dev.issues x [] = true)
    (hw : coreInstr (fldN w 0 8) x (insnOf w) = none) :
    answers (.illegalInstruction x w) s ((s.dev.issued x).faultThr x E_ILLEGAL_OPC) := by
  have hopc : (w.extractLsb' 0 8).toNat = fldN w 0 8 := by rw [fldN_zero, BitVec.extractLsb'_toNat, Nat.shiftRight_zero]
  have hun : coreInstr (w.extractLsb' 0 8).toNat x (insnOf w) = none := hopc ▸ hw
  exact answers_act (exec_illegalInstruction x w s) (Dev.issues_live h).2 (Dev.issues_live h).1
    ((if_neg (by rw [hun]; exact Bool.false_ne_true)).trans (Dev.issue_eq h _))

/-! ### The scheduler (R156) -/

/-- Thread `t` comes first, of `t` and `u`, after the thread that issued last. -/
def comesFirst (last t u : Nat) : Prop := (last < t ∧ (u ≤ last ∨ t ≤ u)) ∨ (t ≤ last ∧ u ≤ last ∧ t ≤ u)

theorem sorted_head_le {t : Nat} {l r : List Nat} (h : l.Pairwise (· < ·)) (hl : l = t :: r) : ∀ u ∈ l, t ≤ u := by
  subst hl
  intro u hu
  rcases List.mem_cons.mp hu with rfl | hu
  · exact le_rfl
  · exact (List.rel_of_pairwise_cons h hu).le

/-- R156: the round-robin of a class finds the first of it after the last. -/
theorem roundRobin_some (last : Nat) {l : List Nat} (hs : l.Pairwise (· < ·)) (hne : l ≠ []) :
    ∃ t ∈ l, roundRobin last l = some t ∧ ∀ u ∈ l, comesFirst last t u := by
  have mem_above {u : Nat} : u ∈ l.filter (last < ·) ↔ u ∈ l ∧ last < u := by simp
  rw [roundRobin]
  cases ha : l.filter (last < ·) with
  | cons t r =>
    obtain ⟨ht, hlast⟩ := mem_above.mp (ha ▸ List.mem_cons_self : t ∈ l.filter (last < ·))
    refine ⟨t, ht, rfl, fun u hu => .inl ⟨hlast, ?_⟩⟩
    by_cases hul : u ≤ last
    · exact .inl hul
    · exact .inr (sorted_head_le (hs.filter _) ha u (mem_above.mpr ⟨hu, by omega⟩))
  | nil =>
    have below (u : Nat) (hu : u ∈ l) : u ≤ last := by
      by_contra hul
      exact absurd (mem_above.mpr ⟨hu, by omega⟩) (by rw [ha]; exact List.not_mem_nil)
    obtain ⟨t, r, rfl⟩ := List.exists_cons_of_ne_nil hne
    rw [List.filter_eq_self.mpr fun u hu => decide_eq_true (below u hu)]
    exact ⟨t, List.mem_cons_self, rfl, fun u hu =>
      .inr ⟨below t List.mem_cons_self, below u hu, sorted_head_le hs rfl u hu⟩⟩

section

variable (s : Dev) (c : Nat)

/-- R156: the unreserved class has its turn. -/
def Dev.freeTurn (l : List Nat) : Prop :=
  (∀ u ∈ l, s.reserved ⟨c, u⟩ = false) ∨ ((s.schedOf c).inRow = 2 ∧ ∃ u ∈ l, s.reserved ⟨c, u⟩ = false)

theorem Dev.choice_free {l : List Nat} (h : s.freeTurn c l) :
    s.choice c l = roundRobin (s.schedOf c).lastFree (l.filter fun t => !s.reserved ⟨c, t⟩) := by
  refine if_pos ?_
  rcases h with h | ⟨hrow, u, hu, hres⟩
  · have : (l.filter fun t => s.reserved ⟨c, t⟩) = [] := List.filter_eq_nil_iff.mpr fun u hu => by simp [h u hu]
    simp [this]
  · have : (l.filter fun t => !s.reserved ⟨c, t⟩) ≠ [] := List.ne_nil_of_mem (List.mem_filter.mpr ⟨hu, by simp [hres]⟩)
    simp [hrow, this]

theorem Dev.choice_reserved {l : List Nat} (h : ¬ s.freeTurn c l) :
    s.choice c l = roundRobin (s.schedOf c).lastRsv (l.filter fun t => s.reserved ⟨c, t⟩) := by
  refine if_neg fun hif => h ?_
  rcases Bool.or_eq_true_iff.mp hif with he | he
  · exact .inl fun u hu => by simpa using List.filter_eq_nil_iff.mp (List.isEmpty_iff.mp he) u hu
  · obtain ⟨hrow, hne⟩ := Bool.and_eq_true_iff.mp he
    obtain ⟨u, hu⟩ := List.exists_mem_of_ne_nil _ (by simpa using hne : (l.filter fun t => !s.reserved ⟨c, t⟩) ≠ [])
    obtain ⟨hul, hres⟩ := List.mem_filter.mp hu
    exact .inr ⟨by simpa using hrow, u, hul, by simpa using hres⟩

/-- R156: reserved threads before the others, an unreserved one after two issues in a row, and the round-robin within the class. -/
theorem Dev.choice_some {l : List Nat} (hs : l.Pairwise (· < ·)) (hne : l ≠ []) :
    ∃ t ∈ l, s.choice c l = some t ∧
      (s.reserved ⟨c, t⟩ = true ↔
        (∃ u ∈ l, s.reserved ⟨c, u⟩ = true) ∧ ¬ ((s.schedOf c).inRow = 2 ∧ ∃ u ∈ l, s.reserved ⟨c, u⟩ = false)) ∧
      ∀ u ∈ l, s.reserved ⟨c, u⟩ = s.reserved ⟨c, t⟩ →
        comesFirst (if s.reserved ⟨c, t⟩ then (s.schedOf c).lastRsv else (s.schedOf c).lastFree) t u := by
  by_cases h : s.freeTurn c l
  · have some : (l.filter fun t => !s.reserved ⟨c, t⟩) ≠ [] := by
      rcases h with h | ⟨-, u, hu, hres⟩
      · obtain ⟨u, hu⟩ := List.exists_mem_of_ne_nil l hne
        exact List.ne_nil_of_mem (List.mem_filter.mpr ⟨hu, by simp [h u hu]⟩)
      · exact List.ne_nil_of_mem (List.mem_filter.mpr ⟨hu, by simp [hres]⟩)
    obtain ⟨t, ht, hrr, hfirst⟩ := roundRobin_some (s.schedOf c).lastFree (hs.filter _) some
    obtain ⟨htl, htr⟩ := List.mem_filter.mp ht
    have hres : s.reserved ⟨c, t⟩ = false := by simpa using htr
    refine ⟨t, htl, (s.choice_free c h).trans hrr, ?_, fun u hu hclass => ?_⟩
    · rw [hres]
      refine iff_of_false Bool.false_ne_true fun ⟨⟨u, hu, hur⟩, hturn⟩ => ?_
      rcases h with h | h
      · exact Bool.false_ne_true ((h u hu).symm.trans hur)
      · exact hturn h
    · rw [hres, if_neg Bool.false_ne_true]
      exact hfirst u (List.mem_filter.mpr ⟨hu, by simp [hclass, hres]⟩)
  · have hall : ∃ u ∈ l, s.reserved ⟨c, u⟩ = true := by
      by_contra hno
      exact h (.inl fun u hu => Bool.eq_false_iff.mpr fun hur => hno ⟨u, hu, hur⟩)
    obtain ⟨u, hu, hur⟩ := hall
    obtain ⟨t, ht, hrr, hfirst⟩ := roundRobin_some (s.schedOf c).lastRsv (hs.filter fun t => s.reserved ⟨c, t⟩)
      (List.ne_nil_of_mem (List.mem_filter.mpr ⟨hu, hur⟩))
    obtain ⟨htl, hres⟩ := List.mem_filter.mp ht
    refine ⟨t, htl, (s.choice_reserved c h).trans hrr, ?_, fun v hv hclass => ?_⟩
    · exact iff_of_true hres ⟨⟨u, hu, hur⟩, fun hturn => h (.inr hturn)⟩
    · rw [hres, if_pos rfl]
      exact hfirst v (List.mem_filter.mpr ⟨hv, hclass.trans hres⟩)

/-- R156: an issue is remembered by its class. -/
theorem Dev.issued_schedOf (x : Tid) :
    (s.issued x).schedOf x.core =
      let k := s.schedOf x.core
      if s.reserved x then { k with lastRsv := x.thr, inRow := min 2 (k.inRow + 1), slot := k.slot + 1 }
      else { k with lastFree := x.thr, inRow := 0, slot := k.slot + 1 } := by
  have hsched : (s.count (bankCore x.core) 0x02 1 (some x.thr)).schedOf x.core = s.schedOf x.core :=
    s.count_keeps (g := fun s => s.schedOf x.core) (fun _ _ => rfl) _ _ _ _ _ _
  have hres : (s.count (bankCore x.core) 0x02 1 (some x.thr)).reserved x = s.reserved x :=
    s.count_keeps (g := fun s => s.reserved x) (fun _ _ => rfl) _ _ _ _ _ _
  rw [Dev.issued, Dev.scheduled, Dev.schedOf, Dev.modSched, look_put_same, hsched, hres]

end

/-! ### Fields that fault (R278, R282, R313) -/

section

variable {x : Tid} {i : Insn} {s : State} {c : Instr} {reads : List (BitVec 5)}

theorem Dev.checked_bad {d : Dev} {ok : Bool} (h : ok = false) (sem : Dev → Dev) : d.checked x ok sem = d.faultThr x E_RESERVED_FIELD :=
  if_neg (Bool.eq_false_iff.mp h)

/-- R284: the codes of RDSYS from 6 on are reserved. -/
theorem Dev.sysReg_none {d : Dev} {n : Nat} (h : 6 ≤ n) : d.sysReg x n = none := by
  match n, h with
  | n + 6, _ => rfl

/-- An instruction that issues with a field that it does not use. -/
theorem answers_unchecked {ok : Bool} {sem : Dev → Dev} (he : exec c s = act c (fun s => s.issue x reads fun s => s.checked x ok sem) s)
    (hc : c.wf = x.ok) (h : s.dev.issues x reads = true) (hok : ok = false) :
    answers c s ((s.dev.issued x).faultThr x E_RESERVED_FIELD) :=
  answers_issue he hc h (Dev.checked_bad hok sem)

section

variable {ok : Bool} {dest : Dev → Word} (he : exec c s = act c (fun s => s.issue x reads fun s => s.jump x i ok (dest s)) s)
  (hc : c.wf = x.ok) (h : s.dev.issues x reads = true) (hdest : dest (s.dev.issued x) = dest s.dev)
include he hc h hdest

theorem answers_jump_reserved (hok : ok = false) (hal : (dest s.dev).toNat % 8 = 0) :
    answers c s ((s.dev.issued x).faultThr x E_RESERVED_FIELD) :=
  answers_issue he hc h ((if_neg (by simp [hdest, hal])).trans (Dev.checked_bad hok _))

/-- R282: whatever its other fields. -/
theorem answers_jump_misaligned (hal : (dest s.dev).toNat % 8 ≠ 0) :
    answers c s (((s.dev.issued x).modThr x fun t => { t with jumpFrom := some t.pc }).faultThr x E_FETCH_ADDR) :=
  answers_issue he hc h (if_pos (by rwa [hdest]))

end

end

/-! ### The obligation -/

/-- Settles O4: a line that arrives by whether an ICINV overtook it, an instruction by the first condition that keeps it from issuing, the
scheduler by the class that has its turn, and each form of an instruction by its field check. -/
theorem issueAndFetchRules : Obligations.IssueAndFetchRules := by
  refine ⟨?line, fun x w s h hw => answers_illegalInstruction h hw, ?fetch, ?waits, ⟨?choice, ?remembered⟩, ?fields⟩
  case line =>
    intro x victim s hx hv hl hst hr
    obtain ⟨hthr, hmem, hstore⟩ := s.dev.lineArrived_keeps x victim
    have hx' := s.dev.lineArrived_thr x victim
    refine ⟨answers_fetchLineArrive_poisoned hx hv hl hst hr, fun hp => ⟨_, answers_fetchLineArrive_clean hx hv hl hst hr hp,
      s.dev.lineArrived_hasInsn x victim, Dev.lineArrived_icache_held, Dev.lineArrived_icache_overtaken, ?_, ?_, hthr, hmem,
      fun c off => by rw [hstore]⟩⟩
    · rw [hx']
    · rw [hx']
  case fetch =>
    intro opc x i c s hi hx hl hst hr
    have answer {d : Dev} := answers_of_issuesOn (s := s) (d := d) (issuesOn_of_coreInstr hi) hx hl
    exact ⟨fun h => answer fun reads sem => Dev.issue_badFetch reads sem hst hr h,
      fun hf hp hn => answer fun reads sem => Dev.issue_miss reads sem hst hr hf hp hn⟩
  case waits =>
    intro opc x i c s hi hx hl
    have answer := answers_of_issuesOn (s := s) (d := s.dev) (issuesOn_of_coreInstr hi) hx hl
    refine ⟨fun h => answer fun reads sem => Dev.issue_idle reads sem h, fun hf hp hn ha hc => answer fun reads sem => ?_⟩
    by_cases h : (s.dev.thr x).st = .ready ∧ s.dev.coreRuns x.core = true
    · exact Dev.issue_unchosen reads sem h.1 h.2 hf hp hn ha hc
    · exact Dev.issue_idle reads sem ((not_and_or.mp h).imp_right (Bool.not_eq_true _).mp)
  case choice =>
    intro s c p l k
    have hs : l.Pairwise (· < ·) := List.pairwise_lt_range.filter p
    exact ⟨fun h => by rw [h]; rfl, fun hne => s.choice_some c hs hne⟩
  case remembered =>
    intro s x k
    have hk : k = _ := s.issued_schedOf x
    refine ⟨fun h => ?_, fun h => ?_⟩
    · rw [hk, h]
      exact ⟨rfl, rfl, rfl⟩
    · rw [hk, h]
      exact ⟨rfl, rfl, rfl⟩
  case fields =>
    intro x i s faults
    refine ⟨fun h hfmt => ?two, fun h hfmt => answers_unchecked (exec_mulh x i s) rfl h hfmt, fun h hfmt => ?imm, fun h hfmt hal => ?jalr,
      fun h hfmt hal => ?jal, fun h hbad => ?branch, fun h hfmt => ?none, fun h hn => ?rdsys, fun h hal => ?jalrOff, fun h hal => ?jalOff⟩
    case two =>
      have fault {c : Instr} {f : Word → Word → Word} (he : exec c s = act c (Dev.alu2 x i 0 f) s) (hc : c.wf = x.ok) : faults c :=
        answers_unchecked he hc h hfmt
      simp only [List.forall_mem_cons]
      exact ⟨fault (exec_add x i s) rfl, fault (exec_sub x i s) rfl, fault (exec_mul x i s) rfl, fault (exec_and x i s) rfl,
        fault (exec_or x i s) rfl, fault (exec_xor x i s) rfl, fault (exec_shl x i s) rfl, fault (exec_shr x i s) rfl,
        fault (exec_sra x i s) rfl, fault (exec_slt x i s) rfl, fault (exec_sltu x i s) rfl, List.forall_mem_nil _⟩
    case imm =>
      have fault {c : Instr} {f : Word → Word → Word} (he : exec c s = act c (Dev.aluI x i f) s) (hc : c.wf = x.ok) : faults c :=
        answers_unchecked he hc h hfmt
      simp only [List.forall_mem_cons]
      exact ⟨fault (exec_addi x i s) rfl, fault (exec_andi x i s) rfl, fault (exec_ori x i s) rfl, fault (exec_xori x i s) rfl,
        fault (exec_shli x i s) rfl, fault (exec_shri x i s) rfl, fault (exec_srai x i s) rfl, fault (exec_lih x i s) rfl,
        List.forall_mem_nil _⟩
    case branch =>
      have hok : (i.d == 0 && i.c == 0 && i.fn == 0 && i.upper.toNat % 8 == 0) = false := by
        refine Bool.eq_false_iff.mpr fun hok => ?_
        simp only [Bool.and_eq_true, beq_iff_eq] at hok
        obtain ⟨⟨⟨hd, hc⟩, hfn⟩, hoff⟩ := hok
        exact hbad.elim (· hd) (·.elim (· hc) (·.elim (· hfn) (· hoff)))
      have fault {c : Instr} {f : Word → Word → Bool} (he : exec c s = act c (Dev.branch x i f) s) (hc : c.wf = x.ok) : faults c :=
        answers_unchecked he hc h hok
      simp only [List.forall_mem_cons]
      exact ⟨fault (exec_beq x i s) rfl, fault (exec_bne x i s) rfl, fault (exec_blt x i s) rfl, fault (exec_bge x i s) rfl,
        fault (exec_bltu x i s) rfl, fault (exec_bgeu x i s) rfl, List.forall_mem_nil _⟩
    case none =>
      simp only [List.forall_mem_cons]
      exact ⟨answers_unchecked (exec_nop x i s) rfl h hfmt, answers_unchecked (exec_endWork x i s) rfl h hfmt,
        answers_unchecked (exec_icinv x i s) rfl h hfmt, List.forall_mem_nil _⟩
    case rdsys =>
      exact answers_issue (exec_rdsys x i s) rfl h (Dev.checked_bad (by simp [Dev.sysReg_none hn]) _)
    case jalr =>
      exact answers_jump_reserved (dest := fun s => (s.thr x).rg i.a + immOf i) (exec_jalr x i s) rfl h (by simp) hfmt hal
    case jal =>
      exact answers_jump_reserved (dest := fun s => (s.thr x).pc.setWidth 64 + immOf i) (exec_jal x i s) rfl h (by simp) hfmt hal
    case jalrOff =>
      exact answers_jump_misaligned (dest := fun s => (s.thr x).rg i.a + immOf i) (exec_jalr x i s) rfl h (by simp) hal
    case jalOff =>
      exact answers_jump_misaligned (dest := fun s => (s.thr x).pc.setWidth 64 + immOf i) (exec_jal x i s) rfl h (by simp) hal

end Sys2Proof.Machine
end

section
/-! Loads and stores by local address (R149, R158, R159, R167, R172, R287–R289): what an access does by where its address lies, and the
six instructions. -/

namespace Sys2Proof.Machine

/-! ### An access by where its address lies (R149, R158, R172, R288, R289) -/

section

variable {d : Dev} {x : Tid} {opc : BitVec 8} {i : Insn} {a : Word}

theorem Dev.unless_some (sem : Dev → Dev) {fault : Option Code} {code : Code} (h : fault = some code) :
    d.unless x fault sem = d.faultThr x code := by
  rw [h]
  rfl

section

variable {n off : Nat} {counter : Bool} {dst : Dst}

theorem Dev.loadOp_fault {code : Code} (hf : d.addrFault x a n counter true = some code) :
    d.loadOp x opc i a n counter dst = d.faultThr x code := Dev.unless_some _ hf

variable (hf : d.addrFault x a n counter true = none)
include hf

theorem Dev.loadOp_own (ho : ownStore x a = some off) (hb : d.storeBadAt x.core off n = false) :
    d.loadOp x opc i a n counter dst =
      (d.storeTouch x.core off n).upd x fun t => t.load dst (getBytes (d.core x.core).store off n) := by
  refine (Dev.unless_none _ hf).trans ?_
  simp only [ho]
  exact if_neg (Bool.eq_false_iff.mp hb)

theorem Dev.loadOp_port (ho : ownStore x a = none) :
    d.loadOp x opc i a n counter dst = d.callOp x opc i (.load dst) (d.localPkt x .load a n) false := by
  refine (Dev.unless_none _ hf).trans ?_
  simp only [ho]

end

section

variable {off mask : Nat} {bytes : List Byte}

theorem Dev.storeOp_fault {code : Code} (hf : d.addrFault x a bytes.length false true = some code) :
    d.storeOp x opc i a bytes mask = d.faultThr x code := Dev.unless_some _ hf

variable (hf : d.addrFault x a bytes.length false true = none)
include hf

theorem Dev.storeOp_own (ho : ownStore x a = some off) (hb : d.storeWriteBad x.core off bytes.length mask = false) :
    d.storeOp x opc i a bytes mask = (d.storeWrite x.core off bytes mask).upd x fun t => t := by
  refine (Dev.unless_none _ hf).trans ?_
  simp only [ho]
  exact if_neg (Bool.eq_false_iff.mp hb)

theorem Dev.storeOp_port (ho : ownStore x a = none) :
    d.storeOp x opc i a bytes mask = d.postOp x opc i { d.localPkt x .store a bytes.length with data := bytes, mask } false := by
  refine (Dev.unless_none _ hf).trans ?_
  simp only [ho]

end

end

/-! ### The instructions (R277, R280, R287) -/

section

variable {x : Tid} {i : Insn} {s : State} {d : Dev}

/-- R287: FN 4 to 7 are the forms of LD that extend the sign. -/
theorem getLsbD_two {fn : BitVec 4} (h : fn.toNat < 8) : fn.getLsbD 2 = decide (4 ≤ fn.toNat) := by
  revert h
  revert fn
  decide

section

variable (h : s.dev.issues x [i.a] = true) (hb : i.b = 0) (hc : i.c = 0)
include h hb hc

theorem answers_ld (hfn : i.fn.toNat < 8)
    (hd : (s.dev.issued x).loadOp x 0x40 i (s.dev.memAddr x i) (2 ^ (i.fn.toNat % 4)) true
      (.g i.d (2 ^ (i.fn.toNat % 4)) (decide (4 ≤ i.fn.toNat))) = d) : answers (.ld x i) s d := by
  refine answers_checked (exec_ld x i s) rfl h (by simp [hb, hc, hfn]) ?_
  rw [Dev.issued_memAddr, getLsbD_two hfn]
  exact hd

theorem answers_vld (hfn : i.fn.toNat < 5)
    (hd : (s.dev.issued x).loadOp x 0x42 i (s.dev.memAddr x i) (32 * 2 ^ i.fn.toNat) false (.v i.d (32 * 2 ^ i.fn.toNat)) = d) :
    answers (.vld x i) s d := by
  refine answers_checked (exec_vld x i s) rfl h (by simp [hb, hc, hfn]) ?_
  rw [Dev.issued_memAddr]
  exact hd

theorem answers_pld (hfn : i.fn = 0) (hp : i.d.toNat < 8)
    (hd : (s.dev.issued x).loadOp x 0x44 i (s.dev.memAddr x i) 64 false (.p i.d) = d) : answers (.pld x i) s d := by
  refine answers_checked (exec_pld x i s) rfl h (by simp [hb, hc, hfn, hp, pField]) ?_
  rw [Dev.issued_memAddr]
  exact hd

end

section

variable (hd0 : i.d = 0)
include hd0

theorem answers_st (h : s.dev.issues x [i.a, i.b] = true) (hc : i.c = 0) (hfn : i.fn.toNat < 4)
    (hd : (s.dev.issued x).storeOp x 0x41 i (s.dev.memAddr x i) (toBytes (2 ^ i.fn.toNat) ((s.dev.thr x).rg i.b).toNat)
      (2 ^ 2 ^ i.fn.toNat - 1) = d) : answers (.st x i) s d := by
  have hsize : sizeG i = 2 ^ i.fn.toNat := by rw [sizeG, Nat.mod_eq_of_lt hfn]
  refine answers_checked (exec_st x i s) rfl h (by simp [hd0, hc, hfn]) ?_
  rw [Dev.issued_memAddr, Dev.issued_thr, hsize]
  exact hd

variable (h : s.dev.issues x [i.a] = true)
include h

theorem answers_vst (hc : i.c.toNat < 8) (hfn : i.fn.toNat < 5)
    (hd : (s.dev.issued x).storeOp x 0x43 i (s.dev.memAddr x i) (toBytes (32 * 2 ^ i.fn.toNat) ((s.dev.thr x).rv i.b).toNat)
      (((s.dev.thr x).rp (i.c.setWidth 3)).toNat % 2 ^ (32 * 2 ^ i.fn.toNat)) = d) : answers (.vst x i) s d := by
  refine answers_checked (exec_vst x i s) rfl h (by simp [hd0, hc, hfn, pField]) ?_
  rw [Dev.issued_memAddr, Dev.issued_thr]
  exact hd

theorem answers_pst (hc : i.c = 0) (hfn : i.fn = 0) (hp : i.b.toNat < 8)
    (hd : (s.dev.issued x).storeOp x 0x45 i (s.dev.memAddr x i) (toBytes 64 ((s.dev.thr x).rp (i.b.setWidth 3)).toNat)
      (2 ^ 64 - 1) = d) : answers (.pst x i) s d := by
  refine answers_checked (exec_pst x i s) rfl h (by simp [hd0, hc, hfn, hp, pField]) ?_
  rw [Dev.issued_memAddr, Dev.issued_thr]
  exact hd

end

end

/-! ### The own store (R149, R167, R172, R287) -/

/-- R287: what LD writes, by FN. -/
theorem Thread.load_ld (t : Thread) (r : BitVec 5) (n fn : Nat) (bytes : List Byte) :
    t.load (.g r n (decide (4 ≤ fn))) bytes =
      t.wg r (if fn < 4 then BitVec.ofNat 64 (ofBytes bytes) else BitVec.ofInt 64 (BitVec.ofNat (8 * n) (ofBytes bytes)).toInt) := by
  unfold Thread.load
  by_cases h : fn < 4
  · simp only [decide_eq_false (Nat.not_le.mpr h), if_pos h, Bool.false_eq_true, if_false]
  · simp only [decide_eq_true (Nat.not_lt.mp h), if_neg h, if_true]
    rfl

/-- Settles O5: a load or store of the own core store by its operation, whose checks pass. -/
theorem localLoadsAndStores : Obligations.LocalLoadsAndStores := by
  refine ⟨?loads, ?stores⟩
  case loads =>
    intro x i s off h hb hc a ho
    have own {opc : BitVec 8} {n : Nat} {counter : Bool} {dst : Dst} (hf : s.dev.addrFault x a n counter true = none)
        (hbad : s.dev.storeBadAt x.core off n = false) :
        (s.dev.issued x).loadOp x opc i a n counter dst =
          ((s.dev.issued x).storeTouch x.core off n).upd x fun t => t.load dst (getBytes (s.dev.core x.core).store off n) := by
      rw [Dev.loadOp_own (by rwa [Dev.issued_addrFault]) ho (by rwa [Dev.issued_storeBadAt]), Dev.issued_core]
    refine ⟨?ld, fun hfn hf hbad => answers_vld h hb hc hfn (own hf hbad), fun hfn hp hf hbad => answers_pld h hb hc hfn hp (own hf hbad)⟩
    case ld =>
      intro hfn n hf hbad r
      refine answers_ld h hb hc hfn ((own hf hbad).trans ?_)
      simp only [Thread.load_ld]
      rfl
  case stores =>
    intro x i s off h2 h hd0 a ho
    have own {opc : BitVec 8} {n v mask : Nat} (hf : s.dev.addrFault x a n false true = none)
        (hbad : s.dev.storeWriteBad x.core off n mask = false) :
        (s.dev.issued x).storeOp x opc i a (toBytes n v) mask =
          ((s.dev.issued x).storeWrite x.core off (toBytes n v) mask).upd x fun t => t :=
      Dev.storeOp_own (by rwa [toBytes_length, Dev.issued_addrFault]) ho (by rwa [toBytes_length, Dev.issued_storeWriteBad])
    exact ⟨fun hc hfn hf hbad => answers_st hd0 h2 hc hfn (own hf hbad),
      fun hc hfn hf hbad => answers_vst hd0 h hc hfn (own hf hbad),
      fun hc hfn hp hf hbad => answers_pst hd0 h hc hfn hp (own hf hbad)⟩

/-! ### The port, and faults (R149, R158, R159, R288, R289, R313) -/

/-- Settles O6: the operations of O5 at an address outside the own store, or with an address fault. -/
theorem offCoreAccessesAndAddressFaults : Obligations.OffCoreAccessesAndAddressFaults := by
  refine ⟨?port, ?faults⟩
  case port =>
    intro x i s h2 h a d load store ho
    have called {opc : BitVec 8} {n : Nat} {counter : Bool} {dst : Dst} (hf : s.dev.addrFault x a n counter true = none) :
        d.loadOp x opc i a n counter dst = load opc n dst :=
      Dev.loadOp_port ((s.dev.issued_addrFault x x a n counter true).trans hf) ho
    have posted {opc : BitVec 8} {n v mask : Nat} (hf : s.dev.addrFault x a n false true = none) :
        d.storeOp x opc i a (toBytes n v) mask = store opc n (toBytes n v) mask := by
      refine (Dev.storeOp_port ?_ ho).trans ?_
      · rw [toBytes_length]
        exact (s.dev.issued_addrFault x x a n false true).trans hf
      · rw [toBytes_length]
    exact ⟨fun hb hc hfn hf => answers_ld h hb hc hfn (called hf), fun hb hc hfn hf => answers_vld h hb hc hfn (called hf),
      fun hb hc hfn hp hf => answers_pld h hb hc hfn hp (called hf), fun hd0 hc hfn hf => answers_st hd0 h2 hc hfn (posted hf),
      fun hd0 hc hfn hf => answers_vst hd0 h hc hfn (posted hf), fun hd0 hc hfn hp hf => answers_pst hd0 h hc hfn hp (posted hf)⟩
  case faults =>
    intro x i s code h2 h a faults
    have load {opc : BitVec 8} {n : Nat} {counter : Bool} {dst : Dst} (hf : s.dev.addrFault x a n counter true = some code) :
        (s.dev.issued x).loadOp x opc i a n counter dst = (s.dev.issued x).faultThr x code :=
      Dev.loadOp_fault ((s.dev.issued_addrFault x x a n counter true).trans hf)
    have store {opc : BitVec 8} {n v mask : Nat} (hf : s.dev.addrFault x a n false true = some code) :
        (s.dev.issued x).storeOp x opc i a (toBytes n v) mask = (s.dev.issued x).faultThr x code :=
      Dev.storeOp_fault (by rwa [toBytes_length, Dev.issued_addrFault])
    exact ⟨fun hb hc hfn hf => answers_ld h hb hc hfn (load hf), fun hd0 hc hfn hf => answers_st hd0 h2 hc hfn (store hf),
      fun hb hc hfn hf => answers_vld h hb hc hfn (load hf), fun hd0 hc hfn hf => answers_vst hd0 h hc hfn (store hf),
      fun hal => if_pos hal⟩

end Sys2Proof.Machine
end

section
/-! Replies and the events of a port (R159, R160, R268, R293, R294, R336): what a reply without an error leaves, and what the port makes of
an operation that it accepts. -/

namespace Sys2Proof.Machine

/-! ### Replies without an error (R159, R293, R294, R336) -/

section

variable {s : Dev} {c e : Nat} {p : PEntry} (data : List Byte) (poison : BitVec 16) (hp : s.pent c e = some p)
include hp

/-- R460, R465: only an error may leave an outcome unsure. -/
theorem Dev.takeUp_ok : s.takeUp c e data poison E_OK = s.takeReply c e data poison E_OK := by
  simp only [Dev.takeUp, hp]
  rfl

theorem Dev.takeReply_posted (hk : p.kind = .posted) (ho : p.orphan = false) :
    s.takeReply c e data poison E_OK = s.freeEnt c e := by
  simp only [Dev.takeReply, hp, hk, ho, Bool.false_eq_true, if_false, if_true]

variable (ho : p.orphan = false)
include ho

theorem Dev.takeReply_atomic {gd : BitVec 5} (hk : p.kind = .atomic gd) :
    s.takeReply c e data poison E_OK =
      (s.freeEnt c e).modThr ⟨c, p.thr⟩ fun t => (t.wg gd (BitVec.ofNat 64 (ofBytes data))).retire := by
  have hroute : (p.remote && E_OK == E_FAB_NO_ROUTE) = false := Bool.and_false _
  simp only [Dev.takeReply, hp, hk, ho, hroute, Dev.when_false, Bool.false_eq_true, if_false, ne_eq, not_true_eq_false]

theorem Dev.takeReply_load {dst : Dst} (hk : p.kind = .load dst) :
    s.takeReply c e data poison E_OK =
      if poison ≠ 0 then (s.freeEnt c e).faultThr ⟨c, p.thr⟩ E_LOAD_POISON
      else (s.freeEnt c e).modThr ⟨c, p.thr⟩ fun t => (t.load dst data).retire := by
  have hroute : (p.remote && E_OK == E_FAB_NO_ROUTE) = false := Bool.and_false _
  simp only [Dev.takeReply, hp, hk, ho, hroute, Dev.when_false, Bool.false_eq_true, if_false, ne_eq, not_true_eq_false]

end

/-- R159: the device whose reply for an entry has been taken from the port. -/
def Dev.replyTaken (s : Dev) (c e : Nat) : Dev :=
  s.modCore c fun k => { k with replies := dropAt k.replies (k.replies.findIdx (·.entry == e)) }

theorem Dev.replyTaken_pent (s : Dev) (c e : Nat) : (s.replyTaken c e).pent c e = s.pent c e := by
  rw [Dev.pent, Dev.pent, Dev.replyTaken, Dev.core_modCore]

/-- R159: a reply without an error is taken up where the core is not in reset. -/
theorem answers_remoteReply {c e : Nat} {s : State} {r : Reply} {p : PEntry} {d : Dev} (hl : s.dev.live = true) (hc : c < 32) (he : e < 256)
    (hb : s.dev.coreBusy c = false) (hr : (s.dev.core c).replies.find? (·.entry == e) = some r) (hok : r.code = E_OK)
    (hp : s.dev.pent c e = some p) (hd : (s.dev.replyTaken c e).takeReply c e r.data r.poison E_OK = d) :
    answers (.remoteReply c e) s d := by
  refine answers_act (exec_remoteReply c e s) (by simp [hc, he]) hl ?_
  simp only [hr, hok]
  exact (if_neg (Bool.eq_false_iff.mp hb)).trans
    ((Dev.takeUp_ok r.data r.poison ((s.dev.replyTaken_pent c e).trans hp)).trans hd)

/-! ### The port accepts (R159, R268, R456) -/

/-- R456: an operation that no block of its thread holds back is accepted, and the thread goes on. -/
theorem Dev.acceptEntry_free {s : Dev} {x : Tid} {p : PEntry} (e : Nat) (h : p.remote = true → (s.thr x).blocked = []) :
    s.acceptEntry x e p = ((s.setPent x.core e (some { p with accepted := true })).modThr x Thread.retire).flushHeld x.core x.thr := by
  have hno : (if p.remote then (s.thr x).blockOf p.pkt.dstDev else none) = none := by
    split
    · next hr => rw [Thread.blockOf, h hr]; rfl
    · rfl
  simp only [Dev.acceptEntry, hno]

theorem Dev.thr_grantPort (s : Dev) (c who : Nat) (x : Tid) : (s.grantPort c who).thr x = s.thr x := s.thr_modCore (by intro k; rfl) x

section

variable {s : State} {x : Tid} (hl : s.dev.live = true) (hx : x.ok = true)
include hl hx

theorem answers_portAccept_waits (ht : s.dev.portTurn x.core 2 = false) : answers (.portAccept x) s s.dev :=
  answers_act (exec_portAccept x s) hx hl (if_pos (.inr (by simp [ht])))

section

variable {e : Nat} {p : PEntry} (hst : (s.dev.thr x).st = .parkedPort) (hr : s.dev.coreRuns x.core = true)
  (hs : (s.dev.thr x).stash = none) (hu : s.dev.unaccepted x = some (e, p))
include hst hr hs hu

theorem answers_portAccept (ht : s.dev.portTurn x.core 2 = true) (hb : p.remote = true → (s.dev.thr x).blocked = []) :
    answers (.portAccept x) s ((((s.dev.grantPort x.core 2).setPent x.core e (some { p with accepted := true })).modThr x
      Thread.retire).flushHeld x.core x.thr) := by
  have hasks : s.dev.asksPort x = true := by simp [Dev.asksPort, hst, hr, hs, hu]
  refine answers_act (exec_portAccept x s) hx hl ((if_neg (by simp [hasks, ht])).trans ?_)
  simp only [hu]
  exact Dev.acceptEntry_free e (by rwa [Dev.thr_grantPort])

end

/-- R160: an entry that becomes free has the instruction that waits for it issue. -/
theorem answers_portEntryFree {k : Stash} (hst : (s.dev.thr x).st = .parkedPort) (hr : s.dev.coreRuns x.core = true)
    (hs : (s.dev.thr x).stash = some k) (hf : (s.dev.freeEntry x.core x.thr (s.dev.thr x).legOf).isSome = true) :
    answers (.portEntryFree x) s (s.dev.reissue x k) := by
  refine answers_act (exec_portEntryFree x s) hx hl ?_
  simp only [hst, hs]
  exact if_pos (by simp [hr, hf])

end

/-- Settles O9: a reply by the kind of its entry, the port by its turn. -/
theorem repliesAndPortEvents : Obligations.RepliesAndPortEvents := by
  refine ⟨?reply, ?port⟩
  case reply =>
    intro c e s r p hl hc he hb hr hok hp ho d
    have hd : d.pent c e = some p := (s.dev.replyTaken_pent c e).trans hp
    have answer {t : Dev} (ht : d.takeReply c e r.data r.poison E_OK = t) : answers (.remoteReply c e) s t :=
      answers_remoteReply hl hc he hb hr hok hp ht
    exact ⟨fun dst hk h0 => answer ((Dev.takeReply_load _ _ hd ho hk).trans (if_neg (not_not_intro h0))),
      fun dst hk h0 => answer ((Dev.takeReply_load _ _ hd ho hk).trans (if_pos h0)),
      fun gd hk => answer (Dev.takeReply_atomic _ _ hd ho hk), fun hk => answer (Dev.takeReply_posted _ _ hd hk ho)⟩
  case port =>
    intro x s hl hx hst hr
    exact ⟨fun e p hs hu hb => ⟨fun ht => answers_portAccept hl hx hst hr hs hu ht hb,
      fun ht => answers_portAccept_waits hl hx ht⟩, fun k hs hf => answers_portEntryFree hl hx hst hr hs hf⟩

end Sys2Proof.Machine
end

section
/-! Thread watchdogs and thread resets (R177–R180, R187, R190): which entries of a port the park watchdog frees, the threads that a mask
names, and what a reset with nothing outstanding leaves of its thread. -/

namespace Sys2Proof.Machine

/-! ### Watchdogs (R177–R179, R187) -/

section

variable {s : Dev} {x : Tid}

/-- R187: the park watchdog leaves entries that the port has accepted, and those of threads without a reset. -/
theorem Dev.freeUnsent_none (h : (s.pents x.core).all (fun e => e.2.thr != x.thr || !e.2.orphan || e.2.accepted) = true) :
    s.freeUnsent x = s := by
  have hno : ((s.pents x.core).filter fun e => e.2.thr == x.thr && e.2.orphan && !e.2.accepted) = [] := by
    refine List.filter_eq_nil_iff.mpr fun e he => ?_
    have hkept := List.all_eq_true.mp h e he
    cases hthr : e.2.thr == x.thr
    · simp
    · cases horphan : e.2.orphan
      · simp
      · have hacc : e.2.accepted = true := by simpa [beq_iff_eq.mp hthr, horphan] using hkept
        simp [hacc]
  rw [Dev.freeUnsent, hno, Dev.fold_nil]

variable {watched : Bool} {code : Code}

theorem Dev.wdog_watched (hw : watched = true) (hwork : (s.thr x).work.isSome = true) (hb : s.coreBusy x.core = false) :
    s.wdog x watched code = s.faultThr x code := if_pos (by simp [hw, hwork, hb])

theorem Dev.wdog_unwatched (hw : watched = false) : s.wdog x watched code = s := if_neg (by simp [hw])

end

/-! ### The threads of a mask (R190) -/

theorem threadsOf_bit {t : Nat} (h : t < 16) : (List.range 16).filter ((BitVec.ofNat 16 (2 ^ t)).getLsbD ·) = [t] := by
  revert h
  revert t
  decide

/-- R190: the device whose CORE.THR_RESET shows the reset of thread `x`. -/
def Dev.thrResetSet (s : Dev) (x : Tid) : Dev :=
  s.modCore x.core fun k => { k with thrReset := k.thrReset ||| BitVec.ofNat 16 (2 ^ x.thr) }

theorem Dev.thrResetSet_thr (s : Dev) (x y : Tid) : (s.thrResetSet x).thr y = s.thr y := s.thr_modCore (by intro k; rfl) y

theorem Dev.resetThreads_bit {s : Dev} {x : Tid} (hx : x.ok = true) (hb : s.coreBusy x.core = false) :
    s.resetThreads x.core (BitVec.ofNat 16 (2 ^ x.thr)) =
      if (s.thr x).st = .resetting then s.thrResetSet x else (s.thrResetSet x).beginReset x E_THREAD_RESET E_OK := by
  obtain ⟨-, hthr⟩ : x.core < 32 ∧ x.thr < 16 := by simpa [Tid.ok] using hx
  rw [Dev.resetThreads, if_neg (Bool.eq_false_iff.mp hb), threadsOf_bit hthr, ← Dev.thrResetSet_thr s x x]
  rfl

/-! ### A reset with nothing outstanding (R180, R187) -/

section

variable {β : Type} {g : Dev → β} (hr : ∀ s v, g { s with rcv := v } = g s)
include hr

theorem Dev.captureThr_keeps (s : Dev) (x : Tid) (cause : Code) : g (s.captureThr x cause) = g s := s.putCapture_keeps hr _ _ _ _

/-- R138, R180, R616: the device before the registers of the reset thread change. -/
def Dev.resetNoted (s : Dev) (x : Tid) (code cause : Code) : Dev :=
  let d := (s.lastReset 1 (16 * x.core + x.thr) cause).reloadHit x.core
  match (d.thr x).legOf with
  | some q => if ((d.group q).bind (fun g => g.raised)) = none then d.raiseGroup q code else d
  | none => d

theorem Dev.resetNoted_keeps (hi : ∀ s v, g { s with img := v } = g s) (hs : ∀ s v, g { s with sync := v } = g s)
    (he : ∀ s v, g { s with evc := v } = g s) (hc : ∀ s v, g { s with coll := v } = g s) (s : Dev) (x : Tid) (code cause : Code) :
    g (s.resetNoted x code cause) = g s := by
  have noted (s : Dev) : g ((s.lastReset 1 (16 * x.core + x.thr) cause).reloadHit x.core) = g s :=
    (Dev.reloadHit_keeps _ hi _).trans (hr s _)
  unfold Dev.resetNoted
  simp only
  split
  · split
    · exact (Dev.raiseGroup_keeps _ hs he hc _ _).trans (noted s)
    · exact noted s
  · exact noted s

end

/-- R180: the registers of a thread whose reset begins. -/
def Thread.inReset (t : Thread) (code : Code) : Thread :=
  { t with st := .resetting, resetCode := code, stash := none, wait := .none, awaiting := [], jumpFrom := none, blocked := [] }

/-- Every entry of a core's port, changed by `f`. -/
def Dev.mapPort (s : Dev) (c : Nat) (f : PEntry → PEntry) : Dev :=
  s.modCore c fun k => { k with port := k.port.map fun (e : Nat × Option PEntry) => (e.1, e.2.map f) }

section

variable (s : Dev) (x : Tid)

theorem Dev.mapPort_thr (c : Nat) (f : PEntry → PEntry) : (s.mapPort c f).thr x = s.thr x := s.thr_modCore (by intro k; rfl) x

theorem Dev.mapPort_pents (c : Nat) (f : PEntry → PEntry) : (s.mapPort c f).pents c = (s.pents c).map fun e => (e.1, f e.2) := by
  rw [Dev.pents, Dev.pents, Dev.mapPort, Dev.core_modCore, List.filterMap_map, List.map_filterMap]
  congr 1
  funext e
  simp [Option.map_map, Function.comp_def]

theorem Dev.modThr_pents (f : Thread → Thread) (c : Nat) : (s.modThr x f).pents c = s.pents c := by
  rw [Dev.pents, Dev.port_modThr, Dev.pents]

theorem Dev.outstanding_of_pents {s d : Dev} {x : Tid} (h : s.pents x.core = d.pents x.core) :
    s.outstanding x false = d.outstanding x false := by
  rw [Dev.outstanding, h, Dev.outstanding]
  rfl

/-- A change that makes no entry of a thread outstanding leaves it with none. -/
theorem Dev.outstanding_mapPort {f : PEntry → PEntry} (hthr : ∀ p, (f p).thr = p.thr) (horphan : ∀ p, p.orphan = true → (f p).orphan = true)
    {s : Dev} {x : Tid} (h : s.outstanding x false = false) : (s.mapPort x.core f).outstanding x false = false := by
  rw [Dev.outstanding, List.any_eq_false] at h ⊢
  rw [Dev.mapPort_pents]
  intro e he
  obtain ⟨e₀, he₀, rfl⟩ := List.mem_map.mp he
  have hno := h e₀ he₀
  simp only [Bool.not_false, Bool.true_or, Bool.and_true, Bool.and_eq_true, beq_iff_eq, Bool.not_eq_true', hthr] at hno ⊢
  exact fun hout => hno ⟨hout.1, Bool.eq_false_iff.mpr fun ho => Bool.false_ne_true (hout.2.symm.trans (horphan _ ho))⟩

theorem PEntry.atReset_thr (p : PEntry) : p.atReset.thr = p.thr := by unfold PEntry.atReset; split <;> rfl
theorem PEntry.atReset_orphan (p : PEntry) (h : p.orphan = true) : p.atReset.orphan = true := by
  unfold PEntry.atReset
  split
  · exact h
  · rfl

/-- R180, R187: what the reset of thread `x` makes of an entry of its port. -/
def PEntry.resetOf (x : Tid) (p : PEntry) : PEntry := if p.thr = x.thr then p.atReset else p

theorem PEntry.resetOf_thr (p : PEntry) : (p.resetOf x).thr = p.thr := by
  unfold PEntry.resetOf
  split
  · exact p.atReset_thr
  · rfl

theorem PEntry.resetOf_orphan (p : PEntry) (h : p.orphan = true) : (p.resetOf x).orphan = true := by
  unfold PEntry.resetOf
  split
  · exact p.atReset_orphan h
  · exact h

theorem Dev.startReset_eq {s : Dev} {x : Tid} (hb : s.coreBusy x.core = false) (code cause : Code) :
    s.startReset x code cause =
      (((s.resetNoted x code cause).modThr x (·.inReset code)).mapPort x.core (·.resetOf x)).tryFinish x :=
  if_neg (Bool.eq_false_iff.mp hb)

/-- R180 steps 3 and 4. -/
theorem Dev.finishReset_thr : (s.finishReset x).thr x = { epoch := (s.thr x).epoch + 1 } := by
  unfold Dev.finishReset
  simp only
  rw [Dev.thr_modCore _ (by intro k; rfl), Dev.thr_modThr, Dev.thr_endItem]

theorem Dev.captureThr_coreBusy (cause : Code) (c : Nat) : (s.captureThr x cause).coreBusy c = s.coreBusy c := by
  unfold Dev.captureThr Dev.putCapture
  simp only
  split <;> rfl

end

/-- R180: a thread reset with nothing outstanding ends at once. -/
theorem Dev.startReset_thr {s : Dev} {x : Tid} (hb : s.coreBusy x.core = false) (ho : s.outstanding x false = false) (code cause : Code) :
    (s.startReset x code cause).thr x = { epoch := (s.thr x).epoch + 1 } := by
  have hthr : (s.resetNoted x code cause).thr x = s.thr x :=
    Dev.resetNoted_keeps (g := fun s => s.thr x) (fun _ _ => rfl) (fun _ _ => rfl) (fun _ _ => rfl) (fun _ _ => rfl) (fun _ _ => rfl) s x _ _
  have hpents : (s.resetNoted x code cause).pents x.core = s.pents x.core :=
    Dev.resetNoted_keeps (g := fun s => s.pents x.core) (fun _ _ => rfl) (fun _ _ => rfl) (fun _ _ => rfl) (fun _ _ => rfl) (fun _ _ => rfl)
      s x _ _
  have hin : (((s.resetNoted x code cause).modThr x (·.inReset code)).mapPort x.core (·.resetOf x)).thr x = (s.thr x).inReset code := by
    rw [Dev.mapPort_thr, Dev.thr_modThr, hthr]
  have hnone : (((s.resetNoted x code cause).modThr x (·.inReset code)).mapPort x.core (·.resetOf x)).outstanding x false = false := by
    refine Dev.outstanding_mapPort (PEntry.resetOf_thr x) (PEntry.resetOf_orphan x) ?_
    rw [Dev.outstanding_of_pents ((Dev.modThr_pents _ x _ _).trans hpents), ho]
  rw [Dev.startReset_eq hb, Dev.tryFinish, if_pos ⟨by rw [hin]; rfl, by rw [hnone]; rfl⟩, Dev.finishReset_thr, hin]
  rfl

theorem Dev.beginReset_thr {s : Dev} {x : Tid} (hb : s.coreBusy x.core = false) (ho : s.outstanding x false = false) (code cause : Code) :
    (s.beginReset x code cause).thr x = { epoch := (s.thr x).epoch + 1 } := by
  have hpents : (s.captureThr x cause).pents x.core = s.pents x.core :=
    Dev.captureThr_keeps (g := fun s => s.pents x.core) (fun _ _ => rfl) s x cause
  have hthr : (s.captureThr x cause).thr x = s.thr x := Dev.captureThr_keeps (g := fun s => s.thr x) (fun _ _ => rfl) s x cause
  rw [Dev.beginReset, if_neg (Bool.eq_false_iff.mp hb), Dev.startReset_thr ((s.captureThr_coreBusy x cause _).trans hb)
    ((Dev.outstanding_of_pents hpents).trans ho), hthr]

/-! ### The commands -/

/-- Settles O10: a watchdog by the state of its thread, a reset by its port and by what the thread has outstanding. -/
theorem threadWatchdogsAndResets : Obligations.ThreadWatchdogsAndResets := by
  refine ⟨fun x s hl hx hw hb => ?wdogs, fun port x s hl hp hx => ?resets, fun d x code cause hb ho => Dev.beginReset_thr hb ho code cause⟩
  case wdogs =>
    refine ⟨fun hst => ?retire, fun hst => ?park, fun hst => ?sync, Dev.freeUnsent_none⟩
    case retire => exact answers_act (exec_retireWdog x s) hx hl (Dev.wdog_watched (by simp [hst]) hw hb)
    case park =>
      have hparked : (s.dev.thr x).st.parked = true := by rcases hst with h | h | h | h <;> rw [h] <;> rfl
      exact answers_act (exec_parkWdog x s) hx hl (congrArg (·.freeUnsent x) (Dev.wdog_watched hparked hw hb))
    case sync =>
      exact answers_act (exec_parkWdog x s) hx hl (congrArg (·.freeUnsent x) (Dev.wdog_unwatched (by rw [hst]; rfl)))
  case resets =>
    have hwf (mask : BitVec 16) : (Instr.threadReset port x.core mask).wf = true := by
      simp only [Tid.ok, Bool.and_eq_true, decide_eq_true_eq] at hx
      simp [hp, hx.1]
    have reset {d : Dev} (hok : s.dev.corePortOk port x.core = true) (hu : s.dev.coreUsable x.core = true)
        (hd : s.dev.resetThreads x.core (BitVec.ofNat 16 (2 ^ x.thr)) = d) :
        answers (.threadReset port x.core (BitVec.ofNat 16 (2 ^ x.thr))) s d :=
      answers_act (exec_threadReset port x.core _ s) (hwf _) hl ((if_neg (by simp [hok])).trans ((if_neg (by simp [hu])).trans hd))
    exact ⟨fun hok hu hb hst => reset hok hu ((Dev.resetThreads_bit hx hb).trans (if_neg hst)),
      fun hok hu hb hst => reset hok hu ((Dev.resetThreads_bit hx hb).trans (if_pos hst)),
      fun mask hok => answers_act (exec_threadReset port x.core mask s) (hwf mask) hl (if_pos (by simp [hok])),
      fun hst ho => answers_act (exec_portOrphan x s) hx hl (if_neg (by simp [hst, ho]))⟩

end Sys2Proof.Machine
end

section
/-! Work items and legs (R152, R153, R530–R532, R544): the registers with which a thread starts, and what starts it. -/

namespace Sys2Proof.Machine

/-! ### The registers of a work item (R153) -/

/-- R153: thread `x`, as it was `t`, at the start of entry `e` of queue `q`. -/
def Thread.started (t : Thread) (x : Tid) (q : Nat) (seq : BitVec 32) (e : Entry) (leg : Bool) : Thread :=
  { st := .ready, pc := BitVec.ofNat 50 (eEntry e), epoch := t.epoch, work := some { queue := q, seq, ctx := eCtx e, leg }
    g := put 0 (put 0 (put 0 [] 1 (BitVec.ofNat 64 (eArg e))) 2 (at_ 0 q ||| at_ 16 x.thr)) 3 (BitVec.ofNat 64 x.core) }

section

variable (t : Thread) (x : Tid) (q : Nat) (seq : BitVec 32) (e : Entry) (leg : Bool)

theorem Thread.started_g1 : (t.started x q seq e leg).rg 1 = BitVec.ofNat 64 (eArg e) := by
  refine (if_neg (by decide)).trans ?_
  exact (look_put_ne 0 _ _ (by decide)).trans ((look_put_ne 0 _ _ (by decide)).trans (look_put_same 0 _ 1 _))

theorem Thread.started_g2 (hq : q < 2 ^ 16) : (t.started x q seq e leg).rg 2 = BitVec.ofNat 64 (q + x.thr * 2 ^ 16) := by
  refine (if_neg (by decide)).trans ?_
  exact (look_put_ne 0 _ _ (by decide)).trans ((look_put_same 0 _ 2 _).trans (at_or_at hq))

theorem Thread.started_g3 : (t.started x q seq e leg).rg 3 = BitVec.ofNat 64 x.core :=
  (if_neg (by decide)).trans (look_put_same 0 _ 3 _)

/-- R153: every other register is zero. -/
theorem Thread.started_rg {i : BitVec 5} (h : 3 < i.toNat) : (t.started x q seq e leg).rg i = 0 := by
  have ne {k : Nat} (hk : k ≤ 3) : i.toNat ≠ k := by omega
  have hi : i ≠ 0 := fun h0 => by subst h0; exact absurd h (by decide)
  refine (if_neg hi).trans ?_
  exact (look_put_ne 0 _ _ (ne (by decide))).trans ((look_put_ne 0 _ _ (ne (by decide))).trans (look_put_ne 0 [] _ (ne (by decide))))

theorem Thread.started_rv (i : BitVec 5) : (t.started x q seq e leg).rv i = 0 := rfl
theorem Thread.started_rp {i : BitVec 3} (h : i ≠ 0) : (t.started x q seq e leg).rp i = 0 := if_neg h

end

/-! ### A thread starts (R152, R153) -/

theorem Dev.thr_modCtx (s : Dev) (n : Nat) (f : Ctx → Ctx) (y : Tid) : (s.modCtx n f).thr y = s.thr y := rfl

section

variable {s : Dev} {x : Tid} {q : Nat} {seq : BitVec 32} {e : Entry} {leg : Bool} (ht : s.testRunning 1 x.core = false)
  (hal : eEntry e % 8 = 0) (hlt : eEntry e < 2 ^ 50)
include ht hal hlt

theorem Dev.startThread_aligned : s.startThread x q seq e leg =
    ((s.modThr x (·.started x q seq e leg)).modCore x.core fun k => { k with p1 := false }).modCtx (eCtx e) fun c =>
      { c with ranOn := setBit c.ranOn x.core } := by
  simp only [Dev.startThread, Dev.workFor_idle ht]
  exact if_pos ⟨hal, hlt⟩

theorem Dev.startThread_thr : (s.startThread x q seq e leg).thr x = (s.thr x).started x q seq e leg := by
  rw [Dev.startThread_aligned ht hal hlt, Dev.thr_modCtx, Dev.thr_modCore _ (by intro k; rfl), Dev.thr_modThr]

theorem Dev.startThread_thr_ne {y : Tid} (h : y ≠ x) : (s.startThread x q seq e leg).thr y = s.thr y := by
  rw [Dev.startThread_aligned ht hal hlt, Dev.thr_modCtx, Dev.thr_modCore _ (by intro k; rfl), Dev.thr_modThr_ne _ _ h]

theorem Dev.startThread_mem : (s.startThread x q seq e leg).mem = s.mem := by
  rw [Dev.startThread_aligned ht hal hlt]
  rfl

end

/-- R566: the device whose compute queue `q` has begun its next entry on a core. -/
def Dev.entryTaken (s : Dev) (q core : Nat) (seq : BitVec 32) : Dev :=
  (s.markStarted q seq).modCore core fun k => { k with lastQueue := q }

theorem Dev.entryTaken_thr (s : Dev) (q core : Nat) (seq : BitVec 32) (y : Tid) : (s.entryTaken q core seq).thr y = s.thr y :=
  Dev.thr_modCore _ (by intro k; rfl) y

/-! ### The commands -/

section

variable {s : State} {q : Nat} (hl : s.dev.live = true) (hq : q < 4096)
include hl hq

theorem answers_computeEntryStart {core thr : Nat} {e : QEntry} (hcore : core < 32) (hthr : thr < 16) (he : s.dev.nextStart q = some e)
    (hready : s.dev.ready = true) (hon : s.dev.readyOn core q = true) (hfirst : s.dev.queueFirst core q = true)
    (hempty : (s.dev.emptyThreads core false).contains thr = true) :
    answers (.computeEntryStart q core thr) s ((s.dev.entryTaken q core e.seq).startThread ⟨core, thr⟩ q e.seq e.e false) := by
  refine answers_act (exec_computeEntryStart q core thr s) (by simp [hq, hcore, hthr]) hl ?_
  simp only [he]
  exact if_pos (by rw [hready, hon, hfirst, hempty]; rfl)

variable {g : Group} {e : QEntry} (hg : s.dev.group q = some g) (he : s.dev.groupHead q g = some e)
include hg he

theorem answers_legDispatch {thr : Nat} (hthr : thr < 16) (hready : s.dev.legReady q = true) (hfirst : s.dev.legFirst q g.core = true)
    (hempty : (s.dev.emptyThreads g.core true).contains thr = true) : answers (.legDispatch q thr) s (s.dev.dispatchLeg q thr g e) := by
  refine answers_act (exec_legDispatch q thr s) (by simp [hq, hthr]) hl ?_
  simp only [hg, he]
  exact if_pos (by rw [hready, hfirst, hempty]; rfl)

theorem answers_peerTimeout {w : Word} (hw : s.dev.gateWord g e.e = some w) (hbit : w.getLsbD 9 = true)
    (hshut : s.dev.gateHolds g e.e = false) (hrun : g.legRunning = false) (hst : g.st ≠ .aborted) :
    answers (.peerTimeout q) s (s.dev.addCtr g.cbase 1 E_COLL_PEER_TIMEOUT) := by
  refine answers_act (exec_peerTimeout q s) (decide_eq_true hq) hl ?_
  simp only [hg, he, hw]
  refine (if_pos (by simp [hbit, hshut, hrun, hst])).trans ?_
  simp only [Dev.raiseGroup, hg]
  exact if_neg hst

end

/-- Settles O11: an entry by the registers that its thread starts with, a leg by its gate. -/
theorem workItemsAndLegsStart : Obligations.WorkItemsAndLegsStart := by
  refine ⟨?entry, fun q s g e hl hq hg he => ⟨fun thr hthr => answers_legDispatch hl hq hg he hthr, fun w => answers_peerTimeout hl hq hg he⟩⟩
  intro q core thr s e hl hq hcore hthr he hready hon hfirst hempty htests hal hlt
  have hidle : (s.dev.entryTaken q core e.seq).testRunning 1 core = false := by
    have hrun : (s.dev.entryTaken q core e.seq).tests.running = [] := htests
    rw [Dev.testRunning, hrun]
    rfl
  refine ⟨_, answers_computeEntryStart hl hq hcore hthr he hready hon hfirst hempty, ?_⟩
  intro t
  have hthread : t = (s.dev.thr ⟨core, thr⟩).started ⟨core, thr⟩ q e.seq e.e false :=
    (Dev.startThread_thr (x := ⟨core, thr⟩) hidle hal hlt).trans (congrArg (Thread.started · _ q e.seq e.e false) (Dev.entryTaken_thr ..))
  rw [hthread]
  exact ⟨rfl, rfl, rfl, Thread.started_g1 .., Thread.started_g2 _ _ _ _ _ _ (by omega), Thread.started_g3 ..,
    fun i => Thread.started_rg _ _ _ _ _ _, Thread.started_rv _ _ _ _ _ _, fun i => Thread.started_rp _ _ _ _ _ _, rfl, rfl,
    Dev.startThread_mem (x := ⟨core, thr⟩) hidle hal hlt,
    fun y hy => (Dev.startThread_thr_ne (x := ⟨core, thr⟩) hidle hal hlt hy).trans (Dev.entryTaken_thr ..)⟩

end Sys2Proof.Machine
end

section
/-! Vector instructions (R277, R279, R280, R307–R312): their field checks by type, elements as numbers and as 32-bit words, and the
instructions. -/

namespace Sys2Proof.Machine

/-! ### Types by their field checks (R277, R279) -/

section

variable {i : Insn} {b c slice pred : Bool} {m : Nat} {fnOk : Nat → Bool}

/-- R277: a greater bound on TY admits every instruction that a smaller one admits. -/
theorem vFmt_mono {n : Nat} (hmn : m ≤ n) (h : vFmt i b c slice pred m fnOk = true) : vFmt i b c slice pred n fnOk = true := by
  simp only [vFmt, Bool.and_eq_true, decide_eq_true_eq] at h ⊢
  obtain ⟨⟨hrest, hty⟩, hfn⟩ := h
  exact ⟨⟨hrest, hty.trans hmn⟩, hfn⟩

/-- R279: the types 0 to 2 are those of floating point that vectors compute in. -/
theorem vType_float (h : vFmt i b c slice pred 2 fnOk = true) : vType i ≠ .int32 := by
  have hty : vTy i ≤ 2 := by
    simp only [vFmt, Bool.and_eq_true, decide_eq_true_eq] at h
    exact h.1.2
  unfold vType
  match vTy i, hty with
  | 0, _ | 1, _ | 2, _ => exact Ty.noConfusion

end

/-! ### Elements (R239, R307) -/

section

variable {fp : Machine.Num → Machine.Num → Machine.Num} {int : BitVec 32 → BitVec 32 → BitVec 32}

theorem vBin_float {t : Ty} (h : t ≠ .int32) (a b : Nat) :
    vBin t fp int a b = encodeNum t false (fp (decodeNum t a) (decodeNum t b)) := by
  unfold vBin
  split
  · exact absurd rfl h
  · rfl

/-- R279: the integer operation in numbers, modulo 2^32. -/
theorem vBin_int {op : Int → Int → Int} (h : ∀ a b : BitVec 32, int a b = BitVec.ofInt 32 (op a.toInt b.toInt)) (a b : Nat) :
    vBin .int32 fp int a b = (BitVec.ofInt 32 (op (BitVec.ofNat 32 a).toInt (BitVec.ofNat 32 b).toInt)).toNat :=
  congrArg BitVec.toNat (h _ _)

end

section

variable (a b : BitVec 32)

theorem add_eq_ofInt32 : a + b = BitVec.ofInt 32 (a.toInt + b.toInt) := by
  rw [BitVec.ofInt_add, BitVec.ofInt_toInt, BitVec.ofInt_toInt]

theorem sub_eq_ofInt32 : a - b = BitVec.ofInt 32 (a.toInt - b.toInt) := by
  rw [Int.sub_eq_add_neg, BitVec.ofInt_add, BitVec.ofInt_neg, BitVec.ofInt_toInt, BitVec.ofInt_toInt, BitVec.sub_eq_add_neg]

theorem min_eq_ofInt32 : (if a.slt b then a else b) = BitVec.ofInt 32 (min a.toInt b.toInt) := by
  by_cases h : a.toInt < b.toInt
  · rw [if_pos (BitVec.slt_iff_toInt_lt.mpr h), min_eq_left h.le, BitVec.ofInt_toInt]
  · rw [if_neg (mt BitVec.slt_iff_toInt_lt.mp h), min_eq_right (not_lt.mp h), BitVec.ofInt_toInt]

theorem max_eq_ofInt32 : (if a.slt b then b else a) = BitVec.ofInt 32 (max a.toInt b.toInt) := by
  by_cases h : a.toInt < b.toInt
  · rw [if_pos (BitVec.slt_iff_toInt_lt.mpr h), max_eq_right h.le, BitVec.ofInt_toInt]
  · rw [if_neg (mt BitVec.slt_iff_toInt_lt.mp h), max_eq_left (not_lt.mp h), BitVec.ofInt_toInt]

end

theorem elem_lt (t : Ty) (v : VReg) (j : Nat) : elem t v j < 2 ^ t.bits := Nat.mod_lt _ (Nat.two_pow_pos _)

/-- An element of 32 bits as a word. -/
theorem toNat_ofNat_elem (v : VReg) (j : Nat) : (BitVec.ofNat 32 (elem .fp32 v j)).toNat = elem .fp32 v j := by
  rw [BitVec.toNat_ofNat]
  exact Nat.mod_eq_of_lt (elem_lt .fp32 v j)

/-! ### The instructions -/

section

variable {x : Tid} {i : Insn} {s : State} {c : Instr} (h : s.dev.issues x [] = true)
include h

/-- R307: two forms of an instruction whose elements agree. -/
theorem answers_vMap {ok : Bool} {f g : Thread → Nat → Nat}
    (he : exec c s = act c (fun s => s.issue x [] fun s => s.checked x ok fun s => s.upd x fun t => t.vMap i (f t)) s)
    (hc : c.wf = x.ok) (hok : ok = true) (hfg : ∀ t j, f t j = g t j) :
    answers c s ((s.dev.issued x).upd x fun t => t.vMap i (g t)) := by
  obtain rfl : f = g := funext₂ hfg
  exact answers_checked he hc h hok rfl

variable {m : Nat} {fp : Machine.Num → Machine.Num → Machine.Num} {int : BitVec 32 → BitVec 32 → BitVec 32}
  (he : exec c s = act c (Dev.vBinary x i m fp int) s) (hc : c.wf = x.ok) (hfmt : vFmt i true false false true m fn0 = true)
include he hc hfmt

theorem answers_vBinary_float (hty : vType i ≠ .int32) :
    answers c s ((s.dev.issued x).upd x fun t => t.vMap i fun j =>
      encodeNum (vType i) false
        (fp (decodeNum (vType i) (elem (vType i) (t.rv i.a) j)) (decodeNum (vType i) (elem (vType i) (t.rv i.b) j)))) :=
  answers_vMap h he hc hfmt fun _ _ => vBin_float hty _ _

theorem answers_vBinary_int {op : Int → Int → Int} (hty : vType i = .int32)
    (hop : ∀ a b : BitVec 32, int a b = BitVec.ofInt 32 (op a.toInt b.toInt)) :
    answers c s ((s.dev.issued x).upd x fun t => t.vMap i fun j =>
      (BitVec.ofInt 32 (op (BitVec.ofNat 32 (elem (vType i) (t.rv i.a) j)).toInt
        (BitVec.ofNat 32 (elem (vType i) (t.rv i.b) j)).toInt)).toNat) :=
  answers_vMap h he hc hfmt fun _ _ => by rw [hty]; exact vBin_int hop _ _

end

/-- R280: a bitwise instruction in numbers. -/
theorem answers_vLogic {x : Tid} {i : Insn} {s : State} {c : Instr} {f : BitVec 32 → BitVec 32 → BitVec 32} {g : Nat → Nat → Nat}
    (h : s.dev.issues x [] = true) (he : exec c s = act c (Dev.vLogic x i f) s) (hc : c.wf = x.ok)
    (hfmt : vFmt i true false false true 0 fn0 = true) (hfg : ∀ a b, (f a b).toNat = g a.toNat b.toNat) :
    answers c s ((s.dev.issued x).upd x fun t => t.vMap i fun j => g (elem .fp32 (t.rv i.a) j) (elem .fp32 (t.rv i.b) j)) :=
  answers_vMap h he hc hfmt fun _ _ => by rw [hfg, toNat_ofNat_elem, toNat_ofNat_elem]

/-- Settles O12: the arithmetic instructions by whether the type is an integer's; the others by their field checks. -/
theorem vectorResults : Obligations.VectorResults := by
  refine ⟨?arithmetic, ?functions, ?others⟩
  case arithmetic =>
    intro x i s h map ty el fp int
    refine ⟨fun hfmt => ?float, fun hfmt hty => ?integer, fun hfmt => answers_checked (exec_vfma x i s) rfl h hfmt rfl⟩
    case float =>
      have hty : vType i ≠ .int32 := vType_float hfmt
      have h3 : vFmt i true false false true 3 fn0 = true := vFmt_mono (by decide) hfmt
      have computes {c : Instr} {m : Nat} {f : Machine.Num → Machine.Num → Machine.Num} {g : BitVec 32 → BitVec 32 → BitVec 32}
          (he : exec c s = act c (Dev.vBinary x i m f g) s) (hc : c.wf = x.ok) (hm : vFmt i true false false true m fn0 = true) :
          map c (fp f) := answers_vBinary_float h he hc hm hty
      exact ⟨computes (exec_vadd x i s) rfl h3, computes (f := fun a b => a.add b.neg) (exec_vsub x i s) rfl h3,
        computes (exec_vmul x i s) rfl hfmt, computes (exec_vmin x i s) rfl h3, computes (exec_vmax x i s) rfl h3⟩
    case integer =>
      have computes {c : Instr} {f : Machine.Num → Machine.Num → Machine.Num} {g : BitVec 32 → BitVec 32 → BitVec 32} {op : Int → Int → Int}
          (he : exec c s = act c (Dev.vBinary x i 3 f g) s) (hc : c.wf = x.ok)
          (hop : ∀ a b : BitVec 32, g a b = BitVec.ofInt 32 (op a.toInt b.toInt)) : map c (int op) :=
        answers_vBinary_int h he hc hfmt hty hop
      exact ⟨computes (exec_vadd x i s) rfl add_eq_ofInt32, computes (exec_vsub x i s) rfl sub_eq_ofInt32,
        computes (exec_vmin x i s) rfl min_eq_ofInt32, computes (exec_vmax x i s) rfl max_eq_ofInt32⟩
  case functions =>
    intro x i s h upd
    refine ⟨fun hfmt hp => ?vcmp, fun hfmt => ?functions, fun emax hemax hfmt hblocks => ?vscale⟩
    case vcmp => exact answers_checked (exec_vcmp x i s) rfl h (by simp [hfmt, hp, pField]) rfl
    case functions =>
      exact ⟨answers_checked (exec_vexp2 x i s) rfl h hfmt rfl, answers_checked (exec_vrcp x i s) rfl h hfmt rfl,
        answers_checked (exec_vrsq x i s) rfl h hfmt rfl, answers_checked (exec_vsum x i s) rfl h hfmt rfl⟩
    case vscale =>
      refine answers_checked (exec_vscale x i s) rfl h (by simp [hfmt, hblocks]) ?_
      rw [hemax, Option.getD_some]
  case others =>
    intro x i s upd bits
    refine ⟨fun h hfmt => ?bitwise, fun dst sat nx h hdst hfmt hok => ?vcvt, fun h hfmt => answers_checked (exec_vbcast x i s) rfl h hfmt rfl,
      fun h hfmt hj => ?vext⟩
    case bitwise =>
      exact ⟨answers_vLogic h (exec_vand x i s) rfl hfmt BitVec.toNat_and, answers_vLogic h (exec_vor x i s) rfl hfmt BitVec.toNat_or,
        answers_vLogic h (exec_vxor x i s) rfl hfmt BitVec.toNat_xor⟩
    case vcvt =>
      refine answers_checked (exec_vcvt x i s) rfl h (by rw [hfmt, hok]; rfl) ?_
      simp only [hdst]
    case vext =>
      refine answers_issue (exec_vext x i s) rfl h ?_
      rw [Dev.issued_thr, Dev.checked_ok (by rw [hfmt, decide_eq_true hj]; rfl)]

end Sys2Proof.Machine
end

section
/-! Elements of vector registers and predicates (R167, R239, R279, R307, R312): what an element of a packed register is, and what a result
under a predicate leaves of its register. -/

namespace Sys2Proof.Machine

/-! ### Packed codes (R239) -/

section

variable (w : Nat)

theorem pack_lt (l : List Nat) : pack w l < 2 ^ (w * l.length) := by
  induction l with
  | nil => exact Nat.two_pow_pos _
  | cons c l ih =>
    have hc : c % 2 ^ w < 2 ^ w := Nat.mod_lt _ (Nat.two_pow_pos w)
    calc c % 2 ^ w + 2 ^ w * pack w l
      _ < 2 ^ w + 2 ^ w * pack w l := Nat.add_lt_add_right hc _
      _ = 2 ^ w * (pack w l + 1) := by ring
      _ ≤ 2 ^ w * 2 ^ (w * l.length) := Nat.mul_le_mul_left _ ih
      _ = 2 ^ (w * (c :: l).length) := by rw [← pow_add, List.length_cons]; ring_nf

theorem toNat_ofNat_pack {l : List Nat} {m : Nat} (h : w * l.length ≤ m) : (BitVec.ofNat m (pack w l)).toNat = pack w l := by
  rw [BitVec.toNat_ofNat, Nat.mod_eq_of_lt ((pack_lt w l).trans_le (Nat.pow_le_pow_right Nat.two_pos h))]

/-- R239: code `j` of a packed list. -/
theorem pack_code (l : List Nat) (j : Nat) : pack w l / 2 ^ (w * j) % 2 ^ w = l.getD j 0 % 2 ^ w := by
  induction l generalizing j with
  | nil => simp [pack]
  | cons c l ih =>
    cases j with
    | zero => simp [pack]
    | succ j =>
      have hc : c % 2 ^ w < 2 ^ w := Nat.mod_lt _ (Nat.two_pow_pos w)
      have hshift : 2 ^ (w * (j + 1)) = 2 ^ w * 2 ^ (w * j) := by rw [← pow_add]; ring_nf
      rw [pack, hshift, ← Nat.div_div_eq_div_mul, Nat.add_mul_div_left _ _ (Nat.two_pow_pos w), Nat.div_eq_of_lt hc, Nat.zero_add, ih,
        List.getD_cons_succ]

end

/-! ### Elements of a register (R239, R279) -/

section

variable (t : Ty)

theorem Ty.width_count (t : Ty) : t.bits * t.count ≤ 4096 := by cases t <;> decide

theorem elem_ofNat_pack {l : List Nat} (hl : t.bits * l.length ≤ 4096) (j : Nat) :
    elem t (BitVec.ofNat 4096 (pack t.bits l)) j = l.getD j 0 % 2 ^ t.bits := by
  rw [elem, fldN, toNat_ofNat_pack t.bits hl, pack_code]

/-- R312: every element of a broadcast register. -/
theorem elem_vbcastReg (g : Word) {j : Nat} (hj : j < t.count) : elem t (vbcastReg t g) j = g.toNat % 2 ^ t.bits := by
  have hfull : t.bits * (List.replicate t.count (fldN g 0 t.bits)).length ≤ 4096 := by
    rw [List.length_replicate]
    exact t.width_count
  rw [vbcastReg, elem_ofNat_pack t hfull, List.getD_replicate _ hj, fldN_zero, Nat.mod_mod]

/-- Bit `k` of an element. -/
theorem elem_testBit (v : VReg) (j k : Nat) : (elem t v j).testBit k = (decide (k < t.bits) && v.getLsbD (t.bits * j + k)) := by
  rw [elem, fldN, Nat.testBit_mod_two_pow, Nat.testBit_div_two_pow, Nat.add_comm]
  rfl

end

/-! ### Results under a predicate (R167, R307) -/

section

variable (t : Ty) (old : VReg) (p : PReg) (codes : List Nat)

/-- R167: the codes that a result leaves in its register, from element 0 on. -/
def mergedCodes : List Nat := codes.zipIdx.map fun c => if laneOn t p (0 + c.2) then c.1 else elem t old (0 + c.2)

theorem mergedCodes_length : (mergedCodes t old p codes).length = codes.length := by
  rw [mergedCodes, List.length_map, List.length_zipIdx]

theorem mergedCodes_getD {j : Nat} (hj : j < codes.length) :
    (mergedCodes t old p codes).getD j 0 = if laneOn t p j then codes[j] else elem t old j := by
  rw [List.getD_eq_getElem _ _ (by rwa [mergedCodes_length])]
  simp [mergedCodes]

/-- The bits of a register whose low elements have been written: the written ones below, and those of old above. -/
theorem putElems_bit {b : Nat} (hb : b < 4096) :
    (putElems t old 0 p codes).getLsbD b =
      (2 ^ (t.bits * codes.length) * (old.toNat / 2 ^ (t.bits * codes.length)) + pack t.bits (mergedCodes t old p codes)).testBit b := by
  have hlt : pack t.bits (mergedCodes t old p codes) < 2 ^ (t.bits * codes.length) :=
    mergedCodes_length t old p codes ▸ pack_lt t.bits (mergedCodes t old p codes)
  have hparts : setBits old.toNat (t.bits * 0) (t.bits * codes.length) (pack t.bits (mergedCodes t old p codes)) =
      2 ^ (t.bits * codes.length) * (old.toNat / 2 ^ (t.bits * codes.length)) + pack t.bits (mergedCodes t old p codes) := by
    rw [setBits, Nat.mul_zero, Nat.pow_zero, Nat.div_one, Nat.mul_one, Nat.mul_one, Nat.mod_eq_of_lt hlt]
    have hold := Nat.div_add_mod old.toNat (2 ^ (t.bits * codes.length))
    omega
  rw [← hparts]
  exact (BitVec.getLsbD_ofNat 4096 _ b).trans (by rw [decide_eq_true hb, Bool.true_and]; rfl)

/-- R307: the bits beyond the elements keep their values. -/
theorem putElems_bit_high {b : Nat} (hle : t.bits * codes.length ≤ b) (hb : b < 4096) :
    (putElems t old 0 p codes).getLsbD b = old.getLsbD b := by
  rw [putElems_bit t old p codes hb,
    Nat.testBit_two_pow_mul_add _ (mergedCodes_length t old p codes ▸ pack_lt t.bits (mergedCodes t old p codes)),
    if_neg (Nat.not_lt.mpr hle), Nat.testBit_div_two_pow, Nat.sub_add_cancel hle]
  rfl

variable (hl : t.bits * codes.length ≤ 4096)
include hl

theorem putElems_bit_low {b : Nat} (hb : b < t.bits * codes.length) :
    (putElems t old 0 p codes).getLsbD b = (pack t.bits (mergedCodes t old p codes)).testBit b := by
  rw [putElems_bit t old p codes (hb.trans_le hl),
    Nat.testBit_two_pow_mul_add _ (mergedCodes_length t old p codes ▸ pack_lt t.bits (mergedCodes t old p codes)), if_pos hb]

/-- R167, R307: an enabled element takes its code, another keeps its value. -/
theorem elem_putElems {j : Nat} (hj : j < codes.length) (hcode : codes[j] < 2 ^ t.bits) :
    elem t (putElems t old 0 p codes) j = if laneOn t p j then codes[j] else elem t old j := by
  have hmerged : (if laneOn t p j then codes[j] else elem t old j) < 2 ^ t.bits := by
    split
    · exact hcode
    · exact elem_lt t old j
  rw [← mergedCodes_getD t old p codes hj] at hmerged ⊢
  rw [← Nat.mod_eq_of_lt hmerged, ← pack_code]
  refine Nat.eq_of_testBit_eq fun k => ?_
  rw [elem_testBit, Nat.testBit_mod_two_pow, Nat.testBit_div_two_pow, Nat.add_comm k]
  by_cases hk : k < t.bits
  · have hlow : t.bits * j + k < t.bits * codes.length :=
      calc t.bits * j + k
        _ < t.bits * (j + 1) := by rw [Nat.mul_succ]; exact Nat.add_lt_add_left hk _
        _ ≤ t.bits * codes.length := Nat.mul_le_mul_left _ hj
    rw [putElems_bit_low t old p codes hl hlow]
  · rw [decide_eq_false hk, Bool.false_and, Bool.false_and]

end

/-! ### Registers of a thread (R166, R279) -/

section

variable (t : Thread)

@[simp] theorem Thread.rv_wv (i : BitVec 5) (v : VReg) : (t.wv i v).rv i = v := look_put_same 0 t.v i.toNat v

theorem Thread.rv_wv_ne {i r : BitVec 5} (h : r ≠ i) (v : VReg) : (t.wv i v).rv r = t.rv r :=
  look_put_ne 0 t.v v fun hr => h (BitVec.eq_of_toNat_eq hr)

end

/-- A p register that an instruction names by a field of five bits. -/
theorem pField_of_lt {r : BitVec 5} (h : r.toNat < 8) : pField r = true := decide_eq_true h

/-- R278: format R without field B. -/
theorem rFmt_b_zero {i : Insn} {d a c : Bool} {fn : Nat} (h : rFmt i d a false c fn = true) : i.b = 0 := by
  simp only [rFmt, Bool.false_or, Bool.and_eq_true, beq_iff_eq] at h
  obtain ⟨⟨⟨-, hb⟩, -⟩, -⟩ := h
  exact hb

/-- Settles O13: an element by whether it lies in the codes written; predicate logic by its field checks. -/
theorem maskedAndPredicateElements : Obligations.MaskedAndPredicateElements := by
  refine ⟨?masked, fun ty g j hj => elem_vbcastReg ty g hj, ?logic⟩
  case masked =>
    intro t i f j ty hf
    have hlen : ((List.range ty.count).map f).length = ty.count := by rw [List.length_map, List.length_range]
    have hl : ty.bits * ((List.range ty.count).map f).length ≤ 4096 := hlen.symm ▸ ty.width_count
    have hreg : (t.vMap i f).rv i.d = putElems ty (t.rv i.d) 0 (t.rp (vPred i)) ((List.range ty.count).map f) := t.rv_wv i.d _
    refine ⟨fun hj => ?elem, fun hlo hhi => ?beyond, fun r hr => t.rv_wv_ne hr _, t.wv_g i.d _, t.wv_p i.d _⟩
    case elem =>
      have hcode : ((List.range ty.count).map f)[j]'(by rwa [hlen]) = f j := by rw [List.getElem_map, List.getElem_range]
      rw [hreg, elem_putElems ty _ _ _ hl (by rwa [hlen]) (hcode ▸ hf j), hcode]
      rfl
    case beyond => rw [hreg, putElems_bit_high ty _ _ _ (by rwa [hlen, Nat.mul_comm]) hhi]
  case logic =>
    intro x i s h hd ha upd
    refine ⟨fun hfmt hb => ⟨?pand, ?por⟩, fun hfmt => ?pnot, fun t v => (t.wp 0 v).rp_zero⟩
    case pand => exact answers_checked (exec_pand x i s) rfl h (by simp [hfmt, pField_of_lt hd, pField_of_lt ha, pField_of_lt hb]) rfl
    case por => exact answers_checked (exec_por x i s) rfl h (by simp [hfmt, pField_of_lt hd, pField_of_lt ha, pField_of_lt hb]) rfl
    case pnot =>
      have hb : i.b.toNat < 8 := by rw [rFmt_b_zero hfmt]; decide
      exact answers_checked (exec_pnot x i s) rfl h (by simp [hfmt, pField_of_lt hd, pField_of_lt ha, pField_of_lt hb]) rfl

end Sys2Proof.Machine
end

section
/-! The end of an array instruction, the operations of an MRACC, the array watchdog and the array reset (R178, R179, R183, R218, R220,
R247, R268–R270). -/

namespace Sys2Proof.Machine

/-! ### Completion (R247) -/

section

variable {c a : Nat} {s : State} {k : ArrInsn} (hl : s.dev.live = true) (hc : c < 32) (ha : a < 2)
include hl hc ha

/-- R247: an instruction with nothing left to do leaves the queue. -/
theorem answers_arrayInstrComplete_finished (hk : (s.dev.arr c a).queue.find? (·.finished) = some k) :
    answers (.arrayInstrComplete c a) s (((s.dev.dropArr c a k.id).endArr c a k k.code).wakeReaders c a) := by
  have hany : (s.dev.arr c a).queue.any (·.finished) = true :=
    List.any_eq_true.mpr ⟨k, List.mem_of_find?_eq_some hk, List.find?_some hk⟩
  refine answers_act (exec_arrayInstrComplete c a s) (by simp [hc, ha]) hl ?_
  simp only [hany, Bool.true_or, Bool.not_true, Dev.when_false, hk]

/-- R247: where none has finished, the load in progress completes first. -/
theorem answers_arrayInstrComplete_load (hany : (s.dev.arr c a).queue.any (·.finished) = false) (hst : (s.dev.arr c a).st = .ready)
    (hb : s.dev.coreBusy c = false) (hk : ((s.dev.loadRest c a).arr c a).queue.find? (·.finished) = some k) :
    answers (.arrayInstrComplete c a) s ((((s.dev.loadRest c a).dropArr c a k.id).endArr c a k k.code).wakeReaders c a) := by
  refine answers_act (exec_arrayInstrComplete c a s) (by simp [hc, ha]) hl ?_
  have hrests : (!(((s.dev.arr c a).queue.any (·.finished) || (s.dev.arr c a).st != .ready) || s.dev.coreBusy c)) = true := by
    rw [hany, hst, hb]; rfl
  simp only [hrests, Dev.when_true, hk]

end

/-! ### The operations of an MRACC (R266–R268) -/

theorem mem_bankWords {w row lo n : Nat} (h : w ∈ bankWords row lo n) (hle : lo + n ≤ 256) :
    w / 32 = row ∧ 8 * (w % 32) < lo + n ∧ lo < 8 * (w % 32) + 8 := by
  have hn : n ≠ 0 := by rintro rfl; simp [bankWords] at h
  rw [bankWords, if_neg hn] at h
  simp only [span, List.mem_map, List.mem_range] at h
  obtain ⟨j, hj, rfl⟩ := h
  omega

/-- R216: no word that holds one of the columns read is uncorrectable. -/
theorem MArray.bankBad_false {m : MArray} {row lo n : Nat} (hle : lo + n ≤ 256)
    (h : ∀ w ∈ m.eccBad, w / 32 = row → ¬ (8 * (w % 32) < lo + n ∧ lo < 8 * (w % 32) + 8)) : m.bankBad row lo n = false := by
  refine List.any_eq_false.mpr fun w hw hbad => ?_
  obtain ⟨hrow, hcols⟩ := mem_bankWords hw hle
  exact h w (List.contains_iff_mem.mp hbad) hrow hcols

section

variable {c a : Nat} {s : State} (hl : s.dev.live = true) (hc : c < 32) (ha : a < 2) (hask : s.dev.asksArray c a = true)
include hl hc ha hask

/-- R268: the grant has not come to the array. -/
theorem answers_mraccOperationSend_waits (ht : s.dev.portTurn c a = false) : answers (.mraccOperationSend c a) s s.dev := by
  have hk : ((s.dev.arr c a).racc).isSome = true := by
    simp only [Dev.asksArray, Bool.and_eq_true] at hask
    exact hask.1.1.1.1
  obtain ⟨k, hk⟩ := Option.isSome_iff_exists.mp hk
  refine answers_act (exec_mraccOperationSend c a s) (by simp [hc, ha]) hl ?_
  simp only [hk]
  exact if_pos (.inr (by rw [ht]; rfl))

/-- R266–R268: an operation that is not the last of its row. -/
theorem answers_mraccOperationSend {k : ArrInsn} {d : Dev} (ht : s.dev.portTurn c a = true) (hk : (s.dev.arr c a).racc = some k)
    (hbad : (s.dev.arr c a).bankBad (k.desc.drow + k.fed / groupsOf k.desc) (16 * (k.fed % groupsOf k.desc))
      (min 16 (k.desc.n - 16 * (k.fed % groupsOf k.desc))) = false)
    (hsend : ((s.dev.grantPort c a).modArr c a fun m => m.bankTouch (k.desc.drow + k.fed / groupsOf k.desc) (16 * (k.fed % groupsOf k.desc))
        (min 16 (k.desc.n - 16 * (k.fed % groupsOf k.desc)))).arraySend c a k.id false
      { s.dev.arrayPkt k .accumulate 2
          (k.desc.dst + BitVec.ofNat 64 (k.fed / groupsOf k.desc * k.desc.dstPitch.toNat + 256 * (k.fed % groupsOf k.desc))) 256 with
        acc := some (raccPayload (s.dev.arr c a) k.desc k.fed) } = some d)
    (hlast : (k.fed + 1) % groupsOf k.desc ≠ 0) :
    answers (.mraccOperationSend c a) s (d.modInsn c a k.id fun j =>
      { j with fed := j.fed + 1, out := j.out + 1, done := decide (groupsOf k.desc * k.desc.m ≤ j.fed + 1) }) := by
  refine answers_act (exec_mraccOperationSend c a s) (by simp [hc, ha]) hl ?_
  simp only [hk]
  refine (if_neg (by rw [hask, ht]; decide)).trans ((if_neg (Bool.eq_false_iff.mp hbad)).trans ?_)
  split
  case h_1 hnone => exact absurd (hnone.symm.trans hsend) (by simp)
  case h_2 e he =>
    obtain rfl := Option.some.inj (he.symm.trans hsend)
    simp only [decide_eq_false hlast, Dev.when_false, Bool.false_eq_true, if_false]

end

/-! ### Watchdog and reset (R178, R183, R218, R220) -/

theorem Dev.resetTests_idle {s : Dev} (h : s.tests.running = []) (hit : Nat → Nat → Bool) : s.resetTests hit = s := by
  rw [Dev.resetTests, h]
  rfl

theorem Dev.arrayReset_idle {s : Dev} {c a : Nat} (hst : (s.arr c a).st ≠ .retired) (h : s.tests.running = []) (code : ArrInsn → Code) :
    s.arrayReset c a code = (s.modArr c a fun m => { m with st := .reset }).emptyArr c a code := by
  simp only [Dev.arrayReset, if_neg hst, Dev.resetTests_idle h]

/-- R220: an array whose reset ends, with no in-field failure to map: its bank, shadow and weights are cleared. -/
def Dev.resetCleared (s : Dev) (c a : Nat) : Dev := s.modArr c a fun m => { m.cleared with failures := [] }

/-- R220: no in-field failure is waiting: the verdict of the chain check alone decides. -/
theorem Dev.arrayResetEnd_eq {s : Dev} {c a : Nat} (hst : (s.arr c a).st = .reset) (hf : (s.arr c a).failures = []) (ok : Bool) :
    s.arrayResetEnd c a ok =
      if !ok then (s.resetCleared c a).retireArr c a E_ARRAY_CHAIN else (s.resetCleared c a).modArr c a fun m => { m with st := .ready } := by
  have hst' : ((s.resetCleared c a).arr c a).st = .reset := by
    rw [Dev.resetCleared, Dev.arr_modArr]
    exact hst
  rw [Dev.arrayResetEnd, if_neg (by simp [hst])]
  simp only [hf, Dev.fold_nil]
  exact if_neg (by rw [← Dev.resetCleared, hst']; decide)

/-- Settles O18: each event by the branch of the model that its premises select. -/
theorem arrayCompletionWatchdogAndReset : Obligations.ArrayCompletionWatchdogAndReset := by
  refine ⟨fun c a s k hl hc ha => ⟨?complete, ?load, ?send, ?waits⟩, fun c a s hl hc ha => ⟨?wdog, ?residue, ?done⟩⟩
  case complete => exact answers_arrayInstrComplete_finished hl hc ha
  case load => exact answers_arrayInstrComplete_load hl hc ha
  case send =>
    intro d hask ht hk g row col n hecc _ hle hga hsend hlast
    exact answers_mraccOperationSend hl hc ha hask ht hk (MArray.bankBad_false hle hecc) hsend hlast
  case waits => exact answers_mraccOperationSend_waits hl hc ha
  case wdog =>
    intro hst hstarted hb htests
    refine answers_act (exec_arrayWdog c a s) (by simp [hc, ha]) hl ((if_pos ⟨hst, hstarted, by rw [hb]; rfl⟩).trans ?_)
    exact Dev.arrayReset_idle (by rw [hst]; decide) htests _
  case residue =>
    intro h8
    exact answers_act (exec_arrayResidueRate c a s) (by simp [hc, ha]) hl (if_pos h8)
  case done =>
    intro hst hf
    have hend (ok : Bool) {d : Dev} (hd : s.dev.arrayResetEnd c a ok = d) : answers (.arrayResetDone c a ok) s d :=
      answers_actIf (exec_arrayResetDone c a ok s) (by simp [hc, ha]) hl hd
    refine ⟨_, hend true (Dev.arrayResetEnd_eq hst hf true), ?_⟩
    rw [if_neg (by decide), Dev.arr_modArr, Dev.resetCleared, Dev.arr_modArr]
    exact ⟨rfl, rfl, rfl, rfl, hend false (Dev.arrayResetEnd_eq hst hf false)⟩

end Sys2Proof.Machine
end

section
/-! The array queue (R161, R242–R247, R263): a matrix instruction on its way into the queue, the status of one whose descriptor fails, and
a thread that waits for a slot. -/

namespace Sys2Proof.Machine

/-! ### What an issue leaves of the arrays' permissions -/

@[simp] theorem Dev.issued_arrFault (s : Dev) (x y : Tid) (kind : ArrKind) (i : Insn) :
    (s.issued x).arrFault y kind i = s.arrFault y kind i :=
  Dev.issued_keeps (fun s => s.arrFault y kind i) (fun _ _ => rfl) (fun _ _ => rfl) s x
@[simp] theorem Dev.issued_windowOpen (s : Dev) (x : Tid) (kind unit : Nat) : (s.issued x).windowOpen kind unit = s.windowOpen kind unit :=
  Dev.issued_keeps (fun s => s.windowOpen kind unit) (fun _ _ => rfl) (fun _ _ => rfl) s x
@[simp] theorem Dev.issued_testRunning (s : Dev) (x : Tid) (kind unit : Nat) :
    (s.issued x).testRunning kind unit = s.testRunning kind unit :=
  Dev.issued_keeps (fun s => s.testRunning kind unit) (fun _ _ => rfl) (fun _ _ => rfl) s x

theorem Dev.testRunning_idle {s : Dev} (h : s.tests.running = []) (kind unit : Nat) : s.testRunning kind unit = false := by
  rw [Dev.testRunning, h]
  rfl

/-! ### The three ways of a matrix instruction (R161, R246) -/

section

variable {kind : ArrKind} {opc : BitVec 8} {x : Tid} {i : Insn} {s : State} {c : Instr}
  (he : exec c s = act c (fun s => s.issue x [i.a] (semArr kind opc x i)) s) (hc : c.wf = x.ok) (h : s.dev.issues x [i.a] = true)
  (hfmt : rFmt i true true false false 1 = true)
include he hc h hfmt

/-- R246: the array is absent or not in use by the partition. -/
theorem answers_matrix_fault {code : Code} (hf : s.dev.arrFault x kind i = some code) : answers c s ((s.dev.issued x).faultThr x code) :=
  answers_issue he hc h ((Dev.checked_ok hfmt _).trans (Dev.unless_some _ (by rw [Dev.issued_arrFault, hf])))

variable (hf : s.dev.arrFault x kind i = none) (ht : s.dev.tests.running = [])
include hf ht

/-- R161: the queue is full. -/
theorem answers_matrix_full (hlen : 4 ≤ (s.dev.arr x.core (i.fn.toNat % 2)).queue.length) :
    answers c s ((s.dev.issued x).modThr x fun t => { t with st := .parkedArray, wait := .none, stash := some { opc, insn := i } }) := by
  refine answers_issue he hc h ((Dev.checked_ok hfmt _).trans ((Dev.unless_none _ (by rw [Dev.issued_arrFault, hf])).trans ?_))
  simp only [Dev.workFor_idle ((s.dev.issued_testRunning x 2 _).trans (Dev.testRunning_idle ht 2 _)), Dev.issued_arr]
  exact if_pos (.inr (.inr hlen))

/-- R242: the array is ready and its queue has a slot. -/
theorem answers_matrix_enters (hst : (s.dev.arr x.core (i.fn.toNat % 2)).st = .ready)
    (hlen : (s.dev.arr x.core (i.fn.toNat % 2)).queue.length < 4) (hw : s.dev.windowOpen 2 (2 * x.core + i.fn.toNat % 2) = false) :
    answers c s ((s.dev.issued x).arrEnter x kind i) := by
  refine answers_issue he hc h ((Dev.checked_ok hfmt _).trans ((Dev.unless_none _ (by rw [Dev.issued_arrFault, hf])).trans ?_))
  simp only [Dev.workFor_idle ((s.dev.issued_testRunning x 2 _).trans (Dev.testRunning_idle ht 2 _)), Dev.issued_arr, Dev.issued_windowOpen]
  exact if_neg (by simp [hst, hw]; omega)

end

/-! ### Into the queue (R162, R242, R263) -/

/-- R162: only an MSTREAM ahead still writes rows that an instruction reads. -/
theorem MArray.blocked_false {m : MArray} {q : List ArrInsn} {k : ArrInsn} (hm : m.queue = q ++ [k]) (hq : ∀ j ∈ q, j.kind ≠ .mstream) :
    m.blocked k = false := by
  refine List.any_eq_false.mpr fun j hj hwrites => ?_
  rw [MArray.ahead, hm] at hj
  have hid : (j.id != k.id) = true := List.mem_takeWhile_imp (p := fun j : ArrInsn => j.id != k.id) hj
  have hstream : j.kind = .mstream := by
    simp only [ArrInsn.writes, Bool.and_eq_true, beq_iff_eq] at hwrites
    exact hwrites.1.1
  rcases List.mem_append.mp ((List.takeWhile_subset _) hj) with hj | hj
  · exact hq j hj hstream
  · rw [List.mem_singleton.mp hj] at hid
    exact absurd hid (by simp)

/-- R242, R247: instruction `k` of thread `x` has been taken: the thread goes on, and awaits its status word. -/
def Dev.arrTaken (s : Dev) (x : Tid) (a : Nat) (k : ArrInsn) : Dev :=
  (s.modArr x.core a fun m => { m with nextId := m.nextId + 1 }).modThr x fun t =>
    if k.kind = .mdrv ∨ k.gd = 0 then t.retire else { t.retire with awaiting := (k.gd, a, k.id) :: t.awaiting }

/-- R242: instruction `k` stands last in the queue. -/
def Dev.arrQueued (s : Dev) (x : Tid) (a : Nat) (k : ArrInsn) : Dev :=
  (s.arrTaken x a k).modArr x.core a fun m => { m with queue := m.queue ++ [k] }

section

variable (s : Dev) (x : Tid) (a : Nat) (k : ArrInsn)

theorem Dev.arrTaken_thr : (s.arrTaken x a k).thr x =
    if k.kind = .mdrv ∨ k.gd = 0 then (s.thr x).retire else { (s.thr x).retire with awaiting := (k.gd, a, k.id) :: (s.thr x).awaiting } := by
  rw [Dev.arrTaken, Dev.thr_modThr, Dev.thr_modArr]

theorem Dev.arrTaken_arr : (s.arrTaken x a k).arr x.core a = { s.arr x.core a with nextId := (s.arr x.core a).nextId + 1 } := by
  rw [Dev.arrTaken, Dev.arr_modThr, Dev.arr_modArr]

theorem Dev.arrQueued_thr : (s.arrQueued x a k).thr x = (s.arrTaken x a k).thr x := Dev.thr_modArr _ _ _ _ _

theorem Dev.arrQueued_queue : ((s.arrQueued x a k).arr x.core a).queue = (s.arr x.core a).queue ++ [k] := by
  rw [Dev.arrQueued, Dev.arr_modArr, Dev.arrTaken_arr]

/-- R247: the thread of an instruction that gives a status goes on at the next instruction. -/
theorem Dev.arrTaken_goesOn (hk : k.kind ≠ .mdrv) :
    ((s.arrTaken x a k).thr x).st = .ready ∧ ((s.arrTaken x a k).thr x).pc = (s.thr x).pc + 8 ∧
      ((s.arrTaken x a k).thr x).epoch = (s.thr x).epoch ∧
      (k.gd ≠ 0 → ((s.arrTaken x a k).thr x).awaiting = (k.gd, a, k.id) :: (s.thr x).awaiting) := by
  rw [Dev.arrTaken_thr]
  by_cases hd : k.gd = 0
  · rw [if_pos (.inr hd)]
    exact ⟨rfl, rfl, rfl, fun h => absurd hd h⟩
  · rw [if_neg (not_or.mpr ⟨hk, hd⟩)]
    exact ⟨rfl, rfl, rfl, fun _ => rfl⟩

end

/-! ### The entry of an instruction (R242) -/

section

variable (s : Dev) (x : Tid) (kind : ArrKind) (i : Insn) (desc : MxDesc) (code : Code)

@[simp] theorem Dev.arrEntry_gd : (s.arrEntry x kind i desc code).gd = i.d := rfl
@[simp] theorem Dev.arrEntry_id : (s.arrEntry x kind i desc code).id = (s.arr x.core (i.fn.toNat % 2)).nextId := rfl

/-- R242: the entry of an instruction whose descriptor has been read. -/
def Dev.descEntry (off : Nat) : ArrInsn :=
  (s.storeTouch x.core off 64).arrEntry x kind i (mxDesc (s.storeRead x.core off 64)) (mxCheck x.core kind (mxDesc (s.storeRead x.core off 64)))

end

section

variable {s : Dev} {x : Tid} {i : Insn} {kind : ArrKind}

/-- R263: an MDRV enters the queue, and its thread waits for the read. -/
theorem Dev.arrEnter_mdrv : s.arrEnter x .mdrv i =
    (s.arrQueued x (i.fn.toNat % 2) (s.arrEntry x .mdrv i MxDesc.none E_OK)).modThr x fun t =>
      { t with st := .parkedArray, pc := t.pc - 8, wait := .mdrv (i.fn.toNat % 2) (s.arr x.core (i.fn.toNat % 2)).nextId } := by
  unfold Dev.arrEnter
  cases descAt x ((s.thr x).rg i.a) <;> rfl

variable {off : Nat} (hk : kind ≠ .mdrv) (ho : descAt x ((s.thr x).rg i.a) = some off) (hb : s.storeBadAt x.core off 64 = false)
include hk ho hb

/-- R245, R247: a descriptor that fails a check. -/
theorem Dev.arrEnter_fails (hcode : mxCheck x.core kind (mxDesc (s.storeRead x.core off 64)) ≠ E_OK) :
    s.arrEnter x kind i = ((s.storeTouch x.core off 64).arrTaken x (i.fn.toNat % 2) (s.descEntry x kind i off)).endArr x.core (i.fn.toNat % 2)
      (s.descEntry x kind i off) (mxCheck x.core kind (mxDesc (s.storeRead x.core off 64))) := by
  have hk' : (kind != .mdrv) = true := by simp [hk]
  simp only [Dev.arrEnter, ho, hb, hk', if_neg hk, Bool.false_eq_true, if_false, Dev.when_true]
  exact if_pos hcode

/-- R242: a descriptor that passes its checks; nothing ahead writes rows that the instruction reads (R162). -/
theorem Dev.arrEnter_passes (hcode : mxCheck x.core kind (mxDesc (s.storeRead x.core off 64)) = E_OK)
    (hq : ∀ j ∈ (s.arr x.core (i.fn.toNat % 2)).queue, j.kind ≠ .mstream) :
    s.arrEnter x kind i = (s.storeTouch x.core off 64).arrQueued x (i.fn.toNat % 2) (s.descEntry x kind i off) := by
  have hk' : (kind != .mdrv) = true := by simp [hk]
  simp only [Dev.arrEnter, ho, hb, hk', if_neg hk, Bool.false_eq_true, if_false, Dev.when_true]
  refine (if_neg (not_not_intro hcode)).trans (if_neg ?_)
  have hfree := MArray.blocked_false ((Dev.arrQueued_queue (s.storeTouch x.core off 64) x _ (s.descEntry x kind i off)).trans
    (by rw [Dev.arr_storeTouch])) hq
  intro hwait
  rw [Bool.or_eq_true, Bool.and_eq_true, beq_iff_eq] at hwait
  rcases hwait with hmdrv | ⟨-, hblocked⟩
  · exact hk hmdrv
  · exact Bool.false_ne_true (hfree.symm.trans hblocked)

end

/-! ### The status of an instruction that ends (R247) -/

theorem statusWord_zero (code : Code) : statusWord code false false 0 = BitVec.ofNat 64 code.toNat := by
  simp [statusWord, at_, bit]

theorem Thread.rg_wg_same (t : Thread) {r : BitVec 5} (h : r ≠ 0) (w : Word) : (t.wg r w).rg r = w := by
  rw [Thread.rg, if_neg h, Thread.wg, if_neg h]
  exact look_put_same 0 t.g _ w

/-- R247: a running thread that awaits the status word has it in gd, and goes on. -/
theorem Thread.takeStatus_awaited {t : Thread} {a : Nat} {k : ArrInsn} (he : t.epoch = k.epoch) (haw : (k.gd, a, k.id) ∈ t.awaiting)
    (hst : t.st = .ready) (hd : k.gd ≠ 0) (w : Word) : (t.takeStatus a k w).rg k.gd = w ∧ (t.takeStatus a k w).st = .ready := by
  have hst' : (t.wg k.gd w).st ≠ .parkedArray := by rw [Thread.wg_st, hst]; decide
  rw [Thread.takeStatus, if_neg (by simp [he, haw])]
  simp only
  rw [if_neg (fun h => hst' h.1)]
  exact ⟨t.rg_wg_same hd w, (Thread.wg_st _ _ _).trans hst⟩

/-- R162: a thread that is not parked waits for no read. -/
theorem Thread.takeRead_ready {t : Thread} (hst : t.st = .ready) (a : Nat) (k : ArrInsn) (v : Option VReg) : t.takeRead a k v = t :=
  if_neg (by simp [hst])

/-- R247: an instruction without a SYNC counter changes its thread only. -/
theorem Dev.endArr_quiet {k : ArrInsn} (h : k.desc.sync = 0) (s : Dev) (c a : Nat) (code : Code) :
    s.endArr c a k code =
      s.modThr ⟨c, k.thr⟩ fun t => (t.takeStatus a k (statusWord code k.nan k.inf k.rows)).takeRead a k none :=
  if_pos (.inr h)

/-- R245, R247: an instruction whose descriptor fails a check writes its status at once. -/
theorem Dev.endArr_taken {s : Dev} {x : Tid} {a : Nat} {k : ArrInsn} (hx : k.thr = x.thr) (he : k.epoch = (s.thr x).epoch)
    (hkind : k.kind ≠ .mdrv) (hd : k.gd ≠ 0) (hsync : k.desc.sync = 0) (code : Code) :
    (((s.arrTaken x a k).endArr x.core a k code).arr x.core a).queue = (s.arr x.core a).queue ∧
      (((s.arrTaken x a k).endArr x.core a k code).thr x).st = .ready ∧
      (((s.arrTaken x a k).endArr x.core a k code).thr x).rg k.gd = statusWord code k.nan k.inf k.rows := by
  obtain ⟨hst, -, hepoch, hawait⟩ := s.arrTaken_goesOn x a k hkind
  obtain ⟨hrg, hready⟩ := Thread.takeStatus_awaited (hepoch.trans he.symm) (by rw [hawait hd]; exact List.mem_cons_self) hst hd
    (statusWord code k.nan k.inf k.rows)
  rw [Dev.endArr_quiet hsync, hx, Dev.arr_modThr, Dev.arrTaken_arr, Dev.thr_modThr, Thread.takeRead_ready hready]
  exact ⟨rfl, hready, hrg⟩

/-! ### What an instruction leaves of the queue and of its thread -/

section

variable {s : Dev} {x : Tid} {i : Insn} {kind : ArrKind} {off : Nat} (hk : kind ≠ .mdrv) (ho : descAt x ((s.thr x).rg i.a) = some off)
  (hb : s.storeBadAt x.core off 64 = false)
include hk ho hb

/-- R242: the entry that stands in the queue, and the thread that goes on. -/
theorem Dev.arrEnter_queued (hcode : mxCheck x.core kind (mxDesc (s.storeRead x.core off 64)) = E_OK)
    (hq : ∀ j ∈ (s.arr x.core (i.fn.toNat % 2)).queue, j.kind ≠ .mstream) :
    ∃ k : ArrInsn, ((s.arrEnter x kind i).arr x.core (i.fn.toNat % 2)).queue = (s.arr x.core (i.fn.toNat % 2)).queue ++ [k] ∧
      k.kind = kind ∧ k.desc = mxDesc (s.storeRead x.core off 64) ∧ k.started = false ∧ k.code = E_OK ∧ k.thr = x.thr ∧ k.gd = i.d ∧
      ((s.arrEnter x kind i).thr x).st = .ready ∧ ((s.arrEnter x kind i).thr x).pc = (s.thr x).pc + 8 ∧
      (i.d ≠ 0 → ((s.arrEnter x kind i).thr x).awaiting =
        (i.d, i.fn.toNat % 2, (s.arr x.core (i.fn.toNat % 2)).nextId) :: (s.thr x).awaiting) := by
  obtain ⟨hst, hpc, -, haw⟩ := Dev.arrTaken_goesOn (s.storeTouch x.core off 64) x (i.fn.toNat % 2) (s.descEntry x kind i off) hk
  rw [Dev.thr_storeTouch] at hpc haw
  rw [Dev.arrEnter_passes hk ho hb hcode hq, Dev.arrQueued_queue, Dev.arrQueued_thr, Dev.arr_storeTouch]
  refine ⟨_, rfl, rfl, rfl, rfl, hcode, rfl, rfl, hst, hpc, fun hd => (haw hd).trans ?_⟩
  rw [Dev.descEntry, Dev.arrEntry_gd, Dev.arrEntry_id, Dev.arr_storeTouch]

/-- R245, R247: the status of an instruction whose descriptor fails a check, and the thread that goes on. -/
theorem Dev.arrEnter_refused (hcode : mxCheck x.core kind (mxDesc (s.storeRead x.core off 64)) ≠ E_OK)
    (hsync : (mxDesc (s.storeRead x.core off 64)).sync = 0) (hd : i.d ≠ 0) :
    ((s.arrEnter x kind i).arr x.core (i.fn.toNat % 2)).queue = (s.arr x.core (i.fn.toNat % 2)).queue ∧
      ((s.arrEnter x kind i).thr x).st = .ready ∧
      ((s.arrEnter x kind i).thr x).rg i.d = BitVec.ofNat 64 (mxCheck x.core kind (mxDesc (s.storeRead x.core off 64))).toNat := by
  have hend := Dev.endArr_taken (s := s.storeTouch x.core off 64) (x := x) (a := i.fn.toNat % 2) (k := s.descEntry x kind i off)
    rfl rfl hk hd hsync (mxCheck x.core kind (mxDesc (s.storeRead x.core off 64)))
  rw [Dev.arr_storeTouch] at hend
  rw [Dev.arrEnter_fails hk ho hb hcode]
  obtain ⟨hqueue, hst, hrg⟩ := hend
  exact ⟨hqueue, hst, hrg.trans (statusWord_zero _)⟩

end

/-- R263: the entry of an MDRV, and the thread that waits for its read. -/
theorem Dev.arrEnter_read {s : Dev} {x : Tid} {i : Insn} :
    ∃ k : ArrInsn, ((s.arrEnter x .mdrv i).arr x.core (i.fn.toNat % 2)).queue = (s.arr x.core (i.fn.toNat % 2)).queue ++ [k] ∧
      k.kind = .mdrv ∧ k.ctl = (s.thr x).rg i.a ∧ k.gd = i.d ∧ ((s.arrEnter x .mdrv i).thr x).st = .parkedArray ∧
      ((s.arrEnter x .mdrv i).thr x).wait = .mdrv (i.fn.toNat % 2) (s.arr x.core (i.fn.toNat % 2)).nextId ∧
      ((s.arrEnter x .mdrv i).thr x).pc = (s.thr x).pc := by
  rw [Dev.arrEnter_mdrv, Dev.arr_modThr, Dev.arrQueued_queue, Dev.thr_modThr, Dev.arrQueued_thr, Dev.arrTaken_thr, if_pos (.inl rfl)]
  exact ⟨_, rfl, rfl, rfl, rfl, rfl, rfl, by rw [Thread.retire_pc]; exact BitVec.add_sub_cancel _ _⟩

/-- The four matrix instructions that read a descriptor. -/
theorem exec_descriptor {x : Tid} {i : Insn} {c : Instr} {kind : ArrKind} (s : State)
    (h : (c, kind) ∈ [(.mload x i, .mload), (.mstream x i, .mstream), (.mdrain x i, .mdrain), (.mracc x i, .mracc)]) :
    ∃ opc, exec c s = act c (fun s => s.issue x [i.a] (semArr kind opc x i)) s ∧ c.wf = x.ok ∧ kind ≠ .mdrv := by
  simp only [List.mem_cons, Prod.mk.injEq, List.not_mem_nil, or_false] at h
  obtain ⟨rfl, rfl⟩ | ⟨rfl, rfl⟩ | ⟨rfl, rfl⟩ | ⟨rfl, rfl⟩ := h
  · exact ⟨0xC0, exec_mload x i s, wf_mload x i, by decide⟩
  · exact ⟨0xC1, exec_mstream x i s, wf_mstream x i, by decide⟩
  · exact ⟨0xC2, exec_mdrain x i s, wf_mdrain x i, by decide⟩
  · exact ⟨0xC3, exec_mracc x i s, wf_mracc x i, by decide⟩

/-- Settles O14: a matrix instruction by its descriptor's checks, a full queue and a fault by the branch that they take. -/
theorem arrayQueueEntry : Obligations.ArrayQueueEntry := by
  refine ⟨?desc, ?mdrv, ?rest⟩
  case desc =>
    intro x i s kind c off hmem h hfmt hf a m hst hlen hw ht ho hb desc
    obtain ⟨opc, he, hc, hk⟩ := exec_descriptor s hmem
    have hans := answers_matrix_enters he hc h hfmt hf ht hst hlen hw
    have ho' : descAt x (((s.dev.issued x).thr x).rg i.a) = some off := by rwa [Dev.issued_thr]
    have hb' : (s.dev.issued x).storeBadAt x.core off 64 = false := by rwa [Dev.issued_storeBadAt]
    have hdesc : mxDesc ((s.dev.issued x).storeRead x.core off 64) = desc := by rw [Dev.issued_storeRead]; rfl
    refine ⟨fun hcode hq => ?passes, fun hcode hsync hd => ?fails⟩
    case passes =>
      obtain ⟨k, hleft⟩ := Dev.arrEnter_queued hk ho' hb' (by rwa [hdesc]) (by rwa [Dev.issued_arr])
      rw [Dev.issued_arr, Dev.issued_thr, hdesc] at hleft
      exact ⟨_, k, hans, hleft⟩
    case fails =>
      have hleft := Dev.arrEnter_refused hk ho' hb' (by rwa [hdesc]) (by rwa [hdesc]) hd
      rw [Dev.issued_arr, hdesc] at hleft
      exact ⟨_, hans, hleft⟩
  case mdrv =>
    intro x i s h hfmt hf a m hst hlen hw ht
    obtain ⟨k, hleft⟩ := Dev.arrEnter_read (s := s.dev.issued x) (x := x) (i := i)
    rw [Dev.issued_arr, Dev.issued_thr] at hleft
    exact ⟨_, k, answers_matrix_enters (exec_mdrv x i s) (wf_mdrv x i) h hfmt hf ht hst hlen hw, hleft⟩
  case rest =>
    intro x i s a
    refine ⟨?full, ?fault, ?slot⟩
    case full => exact fun h hfmt hf ht hlen => answers_matrix_full (exec_mload x i s) (wf_mload x i) h hfmt hf ht hlen
    case fault => exact fun code h hfmt hf => answers_matrix_fault (exec_mload x i s) (wf_mload x i) h hfmt hf
    case slot =>
      intro hl hx hst hr hstash
      refine answers_act (exec_arrayQueueSlotFree x s) hx hl ?_
      simp only [hst, hstash]
      exact if_pos hr

end Sys2Proof.Machine
end
